-- ==== Sys2Proof/Word.lean ====
section
/-!
DEFINITION. Sys2Proof/Word.lean: the word types of the block. A field-group word, a hardware register and
a queue half-entry are 32 bits (R10, R41); a byte is 8 bits; a point value is one binary32 (R11, R12).
-/
namespace Sys2Proof

/-- One byte of a buffer, a frame or a store. -/
abbrev Byte := BitVec 8

/-- One 32-bit word of a register, a field group or a queue entry. -/
abbrev Word := BitVec 32

/-- The 32 bits of an IEEE 754 binary32 value (R11). -/
abbrev F32 := BitVec 32

end Sys2Proof
end

