-- ==== Sys2Proof/Syntax.lean ====
section
/-!
DEFINITION. Sys2Proof/Syntax.lean: the commands and events of the block, one constructor per row of the operation
table. An operand is what comes from outside the model at that moment: bytes of an SPI transaction, a received frame,
a measured current or code, a raw key matrix, the level of a strap.
-/
namespace Sys2Proof

/-- The clock domains a monitor watches (Table 1.6). -/
inductive Clk where
  | core | drv | afe | guard | rtc
  deriving DecidableEq, Repr

/-- An actuator stage: a valve channel, a fan or an analog output. -/
inductive Stage where
  | valve (ch : Fin 24) | fan (n : Fin 12) | ao (n : Fin 16)
  deriving DecidableEq, Repr

/-- What an SPI transaction had carried when `HOST_CS_N` had been low for 10 ms (R98). -/
inductive SpiPart where
  | noAddress
  | read (addr : Fin 16777216) (n : Nat)
  | write (addr : Fin 16777216) (data : List Byte)
  deriving DecidableEq, Repr

/-- How an I²C poll that was not aborted ended (R167). -/
inductive I2cRes where
  | data (l : List Byte)
  | nack
  | arbLost
  deriving DecidableEq, Repr

/-- An I²C poll on the bus: how it ended, and for how long its target stretched the clock, µs (R165, R166). -/
structure I2cRun where
  res : I2cRes
  stretch : Fin 10001
  deriving DecidableEq, Repr

/-- Samples of a digital input: their level and their number, one a ms (R168). -/
structure DiRun where
  level : Bool
  samples : Fin 256
  deriving DecidableEq, Repr

/-- What a current-sense burst is for: a current loop's centre sample, a pull-in trace, a fan stage. -/
inductive SarUse where
  | centre | pullIn | fan
  deriving DecidableEq, Repr

/-- A trigger of a current-sense burst: its use and its `DELAY` in `DRV` clocks (R181). -/
structure SarStart where
  use : SarUse
  delay : Fin 4096
  deriving DecidableEq, Repr

/-- Levels of the two lines of an encoder. -/
structure EncLines where
  a : Bool
  b : Bool
  deriving DecidableEq, Repr

/-- A frame as it stands on a CAN bus (R315). -/
structure CanFrame where
  xtd : Bool := true
  fdf : Bool := false
  brs : Bool := false
  id : Nat := 0
  dlc : Nat := 0
  rtr : Bool := false
  esi : Bool := false
  data : List Byte := []
  deriving DecidableEq, Repr

/-- How the attempt of a frame ended on the bus (R328, R321). -/
inductive TxEnd where
  /-- acknowledged; the delay measurement when one ran -/
  | sent (tdcv : Option (Fin 128))
  | lostArb
  /-- an error of Table 12.8; `exempt`: one of the cases in which ISO 11898-1 leaves the transmit counter alone (R331) -/
  | error (lec : Fin 7) (exempt : Bool)
  /-- such an error after the delay measurement, whose count it gives when an edge came (R321) -/
  | measured (tdcv : Option (Fin 128)) (lec : Fin 7) (exempt : Bool)
  /-- R321 step 3: the measured count when an edge came, and the bit error -/
  | tdcFail (tdcv : Option (Fin 128)) (bit1 : Bool)
  deriving DecidableEq, Repr

/-- A port that may start a frame, and the failing word of the frame's element in its message RAM, if one fails (R326). -/
structure PortRam where
  port : Fin 3
  ram : Option (Fin 4096)
  deriving DecidableEq, Repr

/-- SDA at the abort of an I²C poll (R166): free, released in answer to the n-th of up to 9 clocks, or still low after them. -/
inductive SdaHold where
  | free
  | released (n : Fin 9)
  | stuck
  deriving DecidableEq, Repr

/-- What the selective-wake decoder met (R337). -/
inductive WakeRx where
  | classical (f : CanFrame)
  | fd
  | erroneous
  deriving DecidableEq, Repr

/-- A die sensor's conversion (R421): the hardware self-check passed or not, and the reading in thousandths of °C. -/
structure DieRx where
  selfOk : Bool
  milli : Int
  deriving DecidableEq, Repr

/-- The commands and events, in the table's order. -/
inductive Instr where
  -- start, supplies and resets
  | vsupValid (strapHigh : List Nat)
  | critComparatorArm
  | drvPllLock
  | guardRelease
  | bootRomStart
  | guardReady
  | imageCheckDone (ded : Bool)
  | imagesLoaded (ded : Bool)
  | selftestDone (badBlocks : List Nat)
  | coreSelftestDone (core : Fin 4) (pass : Bool)
  | recall (us : Nat)
  | ready
  | vsupLost
  | vdrvLost
  | vdrvBack
  | vdrvOv (mv : Nat)
  | vdrvOvRelease
  | vioLost
  | vioBack
  | vbkpLost
  | vbkpBack
  | rstNAssert
  | rstNRelease (strapHigh : List Nat)
  | clockLost (d : Clk)
  | clockBack (d : Clk)
  | memDed (memory : Fin 5)
  | guardLockstepMismatch
  | guardReset
  | mainRestart
  | trialAccept
  -- period
  | periodStart
  | planSolveDone (us : Nat)
  | zoneInstant (hung : List (Fin 4 × Nat))
  | pntAbsorb (core : Fin 4)
  | changeover (us : Nat)
  | coreWatchdogExpiry (core : Fin 4)
  | noZoneCoreTimeout
  | deCmdExecute (mv : Fin 65536)
  | evtTake
  | evtHeldSend (producer : Fin 12)
  | deResultForward
  | saveArm
  | saveNotArmed (mv : Nat)
  | powerFailSave (us : Nat)
  | vsupRecovered
  | wakeNLow
  | rtcAlarm
  | wakePattern (port : Fin 3) (dom1 rcs dom2 : Nat)
  | selectiveWakeFrame (port : Fin 3) (r : WakeRx)
  -- SPI and hardware registers
  | spiRead (addr : Option (Fin 16777216)) (n : Nat)
  | spiQread (addr : Option (Fin 16777216)) (n : Nat)
  | spiWrite (addr : Option (Fin 16777216)) (data : List Byte)
  | spiQwrite (addr : Option (Fin 16777216)) (data : List Byte)
  | spiUnknownInstruction (code : Byte)
  | spiCsTimeout (part : SpiPart)
  | slotWrite (slot : Fin 8) (off : Fin 256) (data : List Byte)
  | h2dDb (v : Word)
  | statusW1c (v : Word)
  | dbStatusW1c (v : Word)
  | irqMaskWrite (v : Word)
  | handoverW1c (hi : Bool) (v : Word)
  | wdescWrite (v : Word)
  | descClaim (d : Fin 64) (sizeU : Fin 256) (baseU : Fin 1024)
  | descResize (d : Fin 64) (sizeU : Fin 256) (baseU : Fin 1024)
  | descHandToDevice (d : Fin 64)
  | descRelease (d : Fin 64)
  | descWord1Write (d : Fin 64) (v : Word)
  | regWrite (reg : Fin 16) (data : List Byte)
  | linkLost
  | xferChunkDone (d : Fin 64)
  | xferTimeout (d : Fin 64)
  -- mailbox requests
  | ping
  | hello
  | modeSet
  | restartMain
  | objGet
  | objSet
  | objDefault
  | objList
  | xferRead
  | xferWrite
  | checkval
  | recRead
  | recWrite
  | recStat
  | recUnlock
  | recLock
  | recPassword
  | recDefault
  | fabRelay
  | fabPing
  | fabRediscover
  | fabRoute
  | canRecover
  | canCancel
  | ttCommit
  | canStatsClear
  | actSet
  | actRelease
  | fanClear
  | valveProve
  | evtRead
  | evtFilter
  | timeGet
  | timeSet
  | depRegRead
  | depRegWrite
  | depLoad
  | depSwitch
  | depKey1
  | depKey0Off
  | depSvcPw
  | crcStart
  | crcData8 (b : Byte)
  | crcData32 (v : Word)
  | directDurationExpiry (st : Stage)
  | overrideExpiry (z : Fin 32)
  -- sensor front end
  | seqStepStart (sd : Fin 4)
  | sdOutput (sd : Fin 4) (code : Int)
  | sdCalibration (sd : Fin 4) (offsetOk gainOk : Bool)
  | seqTrigger (sd : Fin 4)
  | capConversion (ratio : Fin 1048576)
  | i2cPoll (bus : Fin 4) (r : I2cRun)
  | i2cPollAbort (bus : Fin 4) (sda : SdaHold)
  | diChange (input : Fin 16) (r : DiRun)
  | sampleProcess (k : Fin 2)
  | pointStale (p : Fin 160)
  | sarTrigger (pair point : Fin 6) (r : SarStart)
  | sarBurstDone (pair : Fin 6) (sum : Fin 16777216)
  -- zones
  | doorWindowExpiry (z : Fin 32)
  | vacantHoldExpiry (z : Fin 32)
  | loopPvFail (k : Fin 64)
  -- valve drivers
  | currentLoopStep (ch : Fin 24) (mv : Fin 65536)
  | pullinEnd (ch : Fin 24)
  | peakEnd (ch : Fin 24)
  | decayEnd (ch : Fin 24)
  | deferredStrokeStart (g : Fin 4) (mv : Fin 65536)
  | regErr (ch : Fin 24) (back : Bool)
  | proofReport
  | lsOcp (ch : Fin 24)
  | openLoad (ch : Fin 24)
  | openLoadRetry (ch : Fin 24) (mv : Fin 65536)
  | hsOcp (g : Fin 4)
  | hsOcpRestart (g : Fin 4) (mv : Fin 65536)
  | clampLimit (ch : Fin 24) (mw : Fin 65536)
  | fire
  | abort
  | pulseEnd
  -- fans and outputs
  | fanStart
  | kickEnd (n : Fin 12)
  | fanSpeedSample (n : Fin 12)
  | lfPeriod (n : Fin 12)
  | fanLockedRotor (n : Fin 12)
  | fanNoEdge (n : Fin 12)
  | fanSpinupEnd (n : Fin 12)
  | fanRetry (n : Fin 12)
  | fanBackoffReset (n : Fin 12)
  | fanFault (n : Fin 12)
  | fanTachJudge (n : Fin 12)
  | fanOpenLoadEnd (n : Fin 12)
  | fanOcp (n : Fin 12)
  | fanOcpRestart (n : Fin 12)
  | fanCtrlFail (n : Fin 12)
  | fanForceEnd (n : Fin 12)
  | critTrip
  | critClear
  | aoSlewStep (n : Fin 16) (mv : Fin 65536)
  | aoFault (n : Fin 16) (mv : Fin 65536)
  | aoFaultClear (n : Fin 16) (mv : Fin 65536)
  -- operator panel
  | keyScan (raw : BitVec 64)
  | keyStuck (k : Fin 64)
  | panelAction
  | encTransition (e : Fin 4) (l : EncLines) (us : Fin 65536)
  | encVelocity (e : Fin 4)
  | encSteps (e : Fin 4)
  | encoderAction
  -- CAN ports and the Timetable
  | canRxFrame (port : Fin 3) (f : CanFrame) (ago : Fin 65536) (ramErr : Option (Fin 4096))
  | canTxStart (port : Fin 3) (ramErr : Option (Fin 4096))
  | canTxDone (port : Fin 3) (r : TxEnd)
  | canBusOff (port : Fin 3)
  | canRecovered (port : Fin 3)
  | canTxdTimeout (port : Fin 3)
  | segmentAloneSend (a : PortRam)
  | ttCycleStart (a : PortRam)
  | ttRefMiss (port : Fin 3)
  | ttWindowStart (port : Fin 3) (ramErr : Option (Fin 4096))
  | send (port : Fin 3)
  | rawAbort (port : Fin 3)
  | pop (port : Fin 3)
  -- Xiel fabric
  | fabiTake (port : Fin 3)
  | claimRepeat
  | addrAssign
  | heartbeatSend
  | nbrLost (port : Fin 3) (node : Fin 4096)
  | rootLost
  | routeAdvSend (port : Fin 3)
  | routeWithdraw (index : Fin 8192)
  | relayRetry (node : Fin 4096) (seqn : Fin 4096)
  | relayTimeout (node : Fin 4096) (seqn : Fin 4096)
  | bsSubSend
  | subscriptionLapse (node : Fin 4096)
  | boundarySend
  | refEventSend (port : Fin 3)
  -- record store
  | recEntryTake
  | recCopyDone
  | counterHour (main : Bool)
  -- Guard and thermal management
  | hbToggle
  | hbExpiry
  | guardCfgRead
  | guardSample (z : Fin 8) (uv : Fin 2500001) (t0 t8 : Int)
  | guardTempReport (z : Fin 8)
  | dieSensorSample (n : Fin 9) (r : DieRx)
  | dieSensorTimeout (n : Fin 9)
  | throttleEval (g : Fin 6)
  | thermalEstimate (clampMw : Fin 65536) (clampUw : Fin 1000)
  | thermalSiding (g : Fin 6)
  | sidingExit
  | sidingHeartbeat
  | bufferStop (n : Fin 9)
  -- rows added after the first list
  | tachEdge (n : Fin 12)
  | canRxError (port : Fin 3) (lec : Fin 7) (inc8 : Bool)
  | busIntegration (port : Fin 3)
  | partialTransactionDiscard (src seqn : Fin 4096)
  | proveStrokeReturn (ch : Fin 24)
  | proveDeferTimeout (ch : Fin 24)
  deriving DecidableEq, Repr

end Sys2Proof
end

