-- ==== Sys2Proof/Config.lean ====
section
/-!
DEFINITION. Sys2Proof/Config.lean: what one part fixes for good (its identity) and the FREE VALUES of the model:
constants without a body, so that no proof can see what they are. Each is named in an entry of the assumption log.
-/
namespace Sys2Proof.Config
open Sys2Proof

/-- The 64-bit unique identifier of this part (hardware registers `UID_LO`, `UID_HI`). -/
opaque uid : BitVec 64

/-- The distance, in units in the last place, of the logarithm unit's result: 0, +1 or −1. -/
opaque lnUlp : F32 → Fin 3

/-- The distance, in units in the last place, of the exponential unit's result: 0, +1 or −1. -/
opaque expUlp : F32 → Fin 3

/-- Values that the spec leaves open, one for each number that the model's counter takes (log 2). -/
opaque free : Nat → Nat

/-- The Sirloth public key (x, y) of key slot 0, fixed in the boot ROM (R71). -/
opaque romKey : Nat × Nat

/-- The part is an `MZ-3224-H5` (R3). -/
opaque h5 : Bool

/-- `OBJ_REV` of a class, which the spec calls "per class" without a number (Table 5.2). -/
opaque objRev : Nat → Nat

/-- The bytes of the point table stream, of the value groups of `P0` to `P159` in order: no chapter states its layout (log 49). -/
opaque pointTable : List Word → List Byte

end Sys2Proof.Config
end

