-- ==== Sys2Proof/Machine/Num.lean ====
section
/-!
DEFINITION. Sys2Proof/Machine/Num.lean: binary32 arithmetic as R11 and R220 bound it (round to nearest, ties to
even; denormals flush to zero on input and on output; every NaN is the quiet NaN), bit fields of words and the
little-endian byte order of R10. Each result is computed exactly on integers and narrowed once at the end.
-/
namespace Sys2Proof.Machine
open Sys2Proof

/-! ### Bit fields and bytes -/

/-- Bits [hi:lo] of a number, as a number. -/
def bits (x hi lo : Nat) : Nat := (x >>> lo) % 2 ^ (hi + 1 - lo)

/-- Bit `n` of a number. -/
def bitOf (x n : Nat) : Bool := (x >>> n) % 2 == 1

/-- 1 for true and 0 for false. -/
def b2n (b : Bool) : Nat := if b then 1 else 0

/-- `x` with bits [hi:lo] replaced by `v`. -/
def putBits (x hi lo v : Nat) : Nat :=
  x - (bits x hi lo <<< lo) + ((v % 2 ^ (hi + 1 - lo)) <<< lo)

/-- `x` with bit `n` set to `b`. -/
def putBit (x n : Nat) (b : Bool) : Nat := putBits x n n (b2n b)

/-- The word of a number (modulo 2^32). -/
def wd (n : Nat) : Word := BitVec.ofNat 32 n

/-- The byte of a number (modulo 256). -/
def by8 (n : Nat) : Byte := BitVec.ofNat 8 n

/-- A number stored little-endian in `k` bytes (R10). -/
def leBytes : Nat → Nat → List Byte
  | 0, _ => []
  | k + 1, n => by8 n :: leBytes k (n / 256)

/-- The number a little-endian byte list stands for (R10). -/
def leNat : List Byte → Nat
  | [] => 0
  | b :: bs => b.toNat + 256 * leNat bs

/-- A word as its four bytes. -/
def wordBytes (w : Word) : List Byte := leBytes 4 w.toNat

/-- `n` bytes of a list from an offset, zero where the list ends. -/
def bytesAt (l : List Byte) (off n : Nat) : List Byte :=
  (List.range n).map fun k => l.getD (off + k) 0

/-- The little-endian number in `n` bytes of a list at an offset. -/
def leAt (l : List Byte) (off n : Nat) : Nat := leNat (bytesAt l off n)

/-- A byte list cut or zero-filled to `n` bytes. -/
def padTo (n : Nat) (l : List Byte) : List Byte := bytesAt l 0 n

/-- The number's two's complement reading in `w` bits. -/
def sgn (w n : Nat) : Int :=
  let m := n % 2 ^ w
  if 2 * m < 2 ^ w then (m : Int) else (m : Int) - 2 ^ w

/-- An integer as `w` bits of two's complement. -/
def unsgn (w : Nat) (i : Int) : Nat := (i % (2 ^ w : Int)).toNat

/-- Saturation of a count at the maximum of its field. -/
def sat (w n : Nat) : Nat := min n (2 ^ w - 1)

/-- Saturation of a signed number to `w` bits. -/
def satI (w : Nat) (i : Int) : Int := max (-(2 ^ (w - 1) : Int)) (min i (2 ^ (w - 1) - 1 : Int))

/-- Ceiling of a division. -/
def cdiv (a b : Nat) : Nat := (a + b - 1) / b

/-- The number of ones among the low `w` bits. -/
def popCount : Nat → Nat → Nat
  | 0, _ => 0
  | w + 1, n => n % 2 + popCount w (n / 2)

/-- The bit mask with a one for each index below `n` that satisfies `p`. -/
def maskOf (n : Nat) (p : Nat → Bool) : Nat :=
  (List.range n).foldl (fun a k => a + (b2n (p k) <<< k)) 0

/-! ### binary32 -/

/-- A binary32 value taken apart: a number is (−1)^neg · m · 2^e. -/
inductive Fx where
  | nan
  | inf (neg : Bool)
  | fin (neg : Bool) (m : Nat) (e : Int)
  deriving DecidableEq, Repr

/-- The quiet NaN that an invalid operation answers. -/
def fNaN : F32 := 0x7FC00000#32
/-- +0. -/
def fZero : F32 := 0#32
/-- 1. -/
def fOne : F32 := 0x3F800000#32

/-- Takes a binary32 apart; denormals flush to zero (R11). -/
def fUnpack (x : F32) : Fx :=
  let n := x.toNat
  let neg := bitOf n 31
  let ex := bits n 30 23
  let fr := bits n 22 0
  if ex == 255 then (if fr == 0 then .inf neg else .nan)
  else if ex == 0 then .fin neg 0 0
  else .fin neg (fr + 2 ^ 23) ((ex : Int) - 150)

/-- The signed zero, infinity or finite pattern. -/
def fPat (neg : Bool) (ex fr : Nat) : F32 := wd (b2n neg * 2 ^ 31 + ex * 2 ^ 23 + fr)

/-- Rounds (−1)^neg · m · 2^e, with `sticky` saying that the exact magnitude lies above m · 2^e by less than one
unit of m, to nearest, ties to even; a result below the normal range flushes to zero (R11). -/
def fRound (neg : Bool) (m : Nat) (e : Int) (sticky : Bool) : F32 :=
  if m == 0 then fPat neg 0 0
  else
    let len := Nat.log2 m + 1
    let (q, e1) :=
      if len ≤ 24 then
        (m <<< (24 - len), e - ((24 - len : Nat) : Int))
      else
        let k := len - 24
        let q := m >>> k
        let r := m % 2 ^ k
        let half := 2 ^ (k - 1)
        let up := r > half || (r == half && (sticky || q % 2 == 1))
        (q + b2n up, e + (k : Int))
    let (q, e1) := if q == 2 ^ 24 then (2 ^ 23, e1 + 1) else (q, e1)
    let ex := e1 + 150
    if ex ≥ 255 then fPat neg 255 0
    else if ex ≤ 0 then fPat neg 0 0
    else fPat neg ex.toNat (q - 2 ^ 23)

/-- Rounds an exact rational n / d (d > 0). -/
def fOfRat (n : Int) (d : Nat) : F32 :=
  if n == 0 then fZero
  else
    let a := n.natAbs
    let k := 64 + Nat.log2 d
    let q := (a <<< k) / d
    fRound (n < 0) q (-(k : Int)) ((a <<< k) % d != 0)

/-- The binary32 of an integer. -/
def fOfInt (n : Int) : F32 := fRound (n < 0) n.natAbs 0 false

/-- The binary32 of a natural number. -/
def fOfNat (n : Nat) : F32 := fOfInt (n : Int)

/-- The integer Σ of two signed magnitudes brought to one exponent. -/
def fxSum (n1 : Bool) (m1 : Nat) (e1 : Int) (n2 : Bool) (m2 : Nat) (e2 : Int) : Int × Int :=
  let e := min e1 e2
  let a : Int := (m1 <<< (e1 - e).toNat : Nat)
  let b : Int := (m2 <<< (e2 - e).toNat : Nat)
  ((if n1 then -a else a) + (if n2 then -b else b), e)

/-- The sum of two taken-apart values, rounded once. -/
def fxAdd : Fx → Fx → F32
  | .nan, _ => fNaN
  | _, .nan => fNaN
  | .inf a, .inf b => if a == b then fPat a 255 0 else fNaN
  | .inf a, .fin _ _ _ => fPat a 255 0
  | .fin _ _ _, .inf b => fPat b 255 0
  | .fin n1 m1 e1, .fin n2 m2 e2 =>
    if m1 == 0 && m2 == 0 then fPat (n1 && n2) 0 0
    else if m1 == 0 then fRound n2 m2 e2 false
    else if m2 == 0 then fRound n1 m1 e1 false
    else
      let s := fxSum n1 m1 e1 n2 m2 e2
      if s.1 == 0 then fZero else fRound (s.1 < 0) s.1.natAbs s.2 false

/-- The exact product of two taken-apart values. -/
def fxMul : Fx → Fx → Fx
  | .nan, _ => .nan
  | _, .nan => .nan
  | .inf a, .inf b => .inf (xor a b)
  | .inf a, .fin n m _ => if m == 0 then .nan else .inf (xor a n)
  | .fin n m _, .inf b => if m == 0 then .nan else .inf (xor n b)
  | .fin n1 m1 e1, .fin n2 m2 e2 => .fin (xor n1 n2) (m1 * m2) (e1 + e2)

/-- Packs a taken-apart value with one rounding. -/
def fPack : Fx → F32
  | .nan => fNaN
  | .inf n => fPat n 255 0
  | .fin n m e => fRound n m e false

def fNeg (a : F32) : F32 := a ^^^ 0x80000000#32
def fAbs (a : F32) : F32 := a &&& 0x7FFFFFFF#32
/-- Addition. -/
def fAdd (a b : F32) : F32 := fxAdd (fUnpack a) (fUnpack b)
/-- Subtraction. -/
def fSub (a b : F32) : F32 := fAdd a (fNeg b)
/-- Multiplication. -/
def fMul (a b : F32) : F32 := fPack (fxMul (fUnpack a) (fUnpack b))
/-- Fused multiply-add a · b + c with one rounding. -/
def fFma (a b c : F32) : F32 := fxAdd (fxMul (fUnpack a) (fUnpack b)) (fUnpack c)

/-- Division. -/
def fDiv (a b : F32) : F32 :=
  match fUnpack a, fUnpack b with
  | .nan, _ => fNaN
  | _, .nan => fNaN
  | .inf _, .inf _ => fNaN
  | .inf n, .fin n2 _ _ => fPat (xor n n2) 255 0
  | .fin n _ _, .inf n2 => fPat (xor n n2) 0 0
  | .fin n1 m1 e1, .fin n2 m2 e2 =>
    if m2 == 0 then (if m1 == 0 then fNaN else fPat (xor n1 n2) 255 0)
    else
      let num := m1 <<< 50
      fRound (xor n1 n2) (num / m2) (e1 - e2 - 50) (num % m2 != 0)

/-- Integer square root by bits, from bit `k` down. -/
def isqrtBits : Nat → Nat → Nat → Nat
  | 0, _, acc => acc
  | k + 1, n, acc =>
    let t := acc + 2 ^ k
    isqrtBits k n (if t * t ≤ n then t else acc)

/-- The square root, correctly rounded. -/
def fSqrt (a : F32) : F32 :=
  match fUnpack a with
  | .nan => fNaN
  | .inf n => if n then fNaN else fPat false 255 0
  | .fin n m e =>
    if m == 0 then fPat n 0 0
    else if n then fNaN
    else
      let (m1, e1) := if e % 2 == 0 then (m <<< 40, e - 40) else (m <<< 41, e - 41)
      let r := isqrtBits 40 m1 0
      fRound false r (e1 / 2) (r * r != m1)

/-- Less-than; false when either side is NaN. -/
def fLt (a b : F32) : Bool :=
  match fUnpack a, fUnpack b with
  | .nan, _ => false
  | _, .nan => false
  | .inf n, .inf n2 => n && !n2
  | .inf n, .fin _ _ _ => n
  | .fin _ _ _, .inf n2 => !n2
  | .fin n1 m1 e1, .fin n2 m2 e2 => decide ((fxSum n1 m1 e1 (!n2) m2 e2).1 < 0)

/-- Equality of values; +0 equals −0 and NaN equals nothing. -/
def fEq (a b : F32) : Bool :=
  match fUnpack a, fUnpack b with
  | .nan, _ => false
  | _, .nan => false
  | .inf n, .inf n2 => n == n2
  | .inf _, .fin _ _ _ => false
  | .fin _ _ _, .inf _ => false
  | .fin n1 m1 e1, .fin n2 m2 e2 => (fxSum n1 m1 e1 (!n2) m2 e2).1 == 0

def fLe (a b : F32) : Bool := fLt a b || fEq a b
def fGt (a b : F32) : Bool := fLt b a
def fGe (a b : F32) : Bool := fLe b a
def fMin (a b : F32) : F32 := if fLt b a then b else a
def fMax (a b : F32) : F32 := if fLt a b then b else a
/-- `x` limited to [lo, hi]. -/
def fClamp (lo hi x : F32) : F32 := fMax lo (fMin hi x)

/-- True for NaN and for the infinities. -/
def fNotFinite (a : F32) : Bool := bits a.toNat 30 23 == 255
/-- NaN. -/
def fIsNaN (a : F32) : Bool := bits a.toNat 30 23 == 255 && bits a.toNat 22 0 != 0

/-- The value truncated towards −∞ of the exact number times `k`; 0 for a value that is not finite. -/
def fFloorScaled (k : Nat) (a : F32) : Int :=
  match fUnpack a with
  | .fin n m e =>
    let p := m * k
    let s : Int := if n then -(p : Int) else (p : Int)
    if e ≥ 0 then s * (2 ^ e.toNat : Nat) else s / ((2 ^ (-e).toNat : Nat) : Int)
  | _ => 0

/-- The nearest integer to the exact number times `k`, ties to even; 0 for a value that is not finite. -/
def fRoundScaled (k : Nat) (a : F32) : Int :=
  match fUnpack a with
  | .fin n m e =>
    let p := m * k
    let s : Int := if n then -(p : Int) else (p : Int)
    if e ≥ 0 then s * (2 ^ e.toNat : Nat)
    else
      let d : Int := ((2 ^ (-e).toNat : Nat) : Int)
      let q := s / d
      let r := s % d
      if 2 * r > d || (2 * r == d && q % 2 == 1) then q + 1 else q
  | _ => 0

/-- The nearest integer, ties to even. -/
def fRoundInt (a : F32) : Int := fRoundScaled 1 a

/-- The nearest natural number to `k` times the value; negative values give 0. -/
def fNatScaled (k : Nat) (a : F32) : Nat := (fRoundScaled k a).toNat

/-- Left-to-right sum (the order of accumulation is ascending, log 12). -/
def fSum (l : List F32) : F32 := l.foldl fAdd fZero

/-- Left-to-right fused dot product from a start value. -/
def fDot (acc : F32) : List F32 → List F32 → F32
  | x :: xs, y :: ys => fDot (fFma x y acc) xs ys
  | _, _ => acc

/-! ### Logarithm and exponential, in fixed point with 80 fraction bits, offset by a free unit in the last place -/

/-- One unit of the fixed-point series. -/
def fxOne : Int := (2 ^ 80 : Nat)

/-- Σ z^(2k+1)/(2k+1) for the inverse hyperbolic tangent, `k` terms left; `p` is the current power. -/
def atanhTerms : Nat → Int → Int → Nat → Int → Int
  | 0, _, _, _, acc => acc
  | k + 1, z2, p, d, acc => atanhTerms k z2 (p * z2 / fxOne) (d + 2) (acc + p / (d : Int))

/-- ln of a fixed-point number in [1, 2). -/
def lnFix (y : Int) : Int :=
  let z := (y - fxOne) * fxOne / (y + fxOne)
  2 * atanhTerms 40 (z * z / fxOne) z 1 0

/-- ln 2 in fixed point. -/
def ln2Fix : Int := 2 * atanhTerms 40 (fxOne / 9) (fxOne / 3) 1 0

/-- A binary32 moved by −1, 0 or +1 unit in the last place (its pattern read as an integer). -/
def fUlp (x : F32) (k : Fin 3) : F32 :=
  if bits x.toNat 30 0 == 0 || fNotFinite x then x
  else if k.val == 0 then x else if k.val == 1 then x + 1#32 else x - 1#32

/-- The natural logarithm within one unit in the last place; the unit is free (Config.lnUlp). -/
def fLn (a : F32) : F32 :=
  match fUnpack a with
  | .nan => fNaN
  | .inf n => if n then fNaN else fPat false 255 0
  | .fin n m e =>
    if m == 0 then fPat true 255 0
    else if n then fNaN
    else
      let y : Int := ((m <<< 57 : Nat) : Int)
      let s := lnFix y + (e + 23) * ln2Fix
      fUlp (fRound (s < 0) s.natAbs (-80) true) (Config.lnUlp a)

/-- Taylor terms of e^r, `k` terms left. -/
def expTerms : Nat → Int → Int → Nat → Int → Int
  | 0, _, _, _, acc => acc
  | k + 1, r, p, d, acc => expTerms k r (p * r / fxOne / (d : Int)) (d + 1) (acc + p)

/-- The exponential within one unit in the last place; the unit is free (Config.expUlp). -/
def fExp (a : F32) : F32 :=
  match fUnpack a with
  | .nan => fNaN
  | .inf n => if n then fZero else fPat false 255 0
  | .fin n m e =>
    if m == 0 then fOne
    else if e + 24 > 8 then (if n then fZero else fPat false 255 0)
    else
      let mag : Int := if e + 80 ≥ 0 then ((m <<< (e + 80).toNat : Nat) : Int) else ((m >>> (-(e + 80)).toNat : Nat) : Int)
      let x := if n then -mag else mag
      let k := x / ln2Fix
      let r := x - k * ln2Fix
      let v := expTerms 40 r fxOne 1 0
      fUlp (fRound false v.natAbs (k - 80) true) (Config.expUlp a)

end Sys2Proof.Machine
end

