-- ==== Sys2Proof/Machine/EventCodes.lean ====
section
/-!
DEFINITION. Sys2Proof/Machine/EventCodes.lean: the event catalogue: every code with its `Q-EVT` priority (R149; the event
tables 5.19, 6.15, 7.22, 8.12, 9.12, 10.13, 11.8, 12.15, 13.12, 14.14, 15.15 and the strap event of chapter 16).
-/
namespace Sys2Proof.Machine

/-- `CLOCK_LOST` (5.19). -/
def evClockLost : Nat := 0x1101
/-- `CLOCK_BACK` (5.19). -/
def evClockBack : Nat := 0x1102
/-- `SUPPLY_LOST` (5.19). -/
def evSupplyLost : Nat := 0x1103
/-- `SUPPLY_BACK` (5.19). -/
def evSupplyBack : Nat := 0x1104
/-- `VDRV_OV` (5.19). -/
def evVdrvOv : Nat := 0x1105
/-- `MAIN_START` (5.19). -/
def evMainStart : Nat := 0x1106
/-- `MEM_DED` (5.19). -/
def evMemDed : Nat := 0x1107
/-- `SELFTEST_FAIL` (5.19). -/
def evSelftestFail : Nat := 0x1108
/-- `IMAGE_REJECTED` (5.19). -/
def evImageRejected : Nat := 0x1109
/-- `TRIAL_ACCEPTED` (5.19). -/
def evTrialAccepted : Nat := 0x110A
/-- `MODE_CHANGED` (5.19). -/
def evModeChanged : Nat := 0x110B
/-- `LINK_LOST` (5.19). -/
def evLinkLost : Nat := 0x110C
/-- `LINK_BACK` (5.19). -/
def evLinkBack : Nat := 0x110D
/-- `QUEUE_POISON` (5.19). -/
def evQueuePoison : Nat := 0x110E
/-- `QUEUE_UNDERRUN` (5.19). -/
def evQueueUnderrun : Nat := 0x110F
/-- `EVT_OVERFLOW` (5.19). -/
def evEvtOverflow : Nat := 0x1110
/-- `ZONE_OVERRUN` (5.19). -/
def evZoneOverrun : Nat := 0x1111
/-- `SNAP_SKIPPED` (5.19). -/
def evSnapSkipped : Nat := 0x1112
/-- `CORE_OFFLINE` (5.19). -/
def evCoreOffline : Nat := 0x1113
/-- `CORE_ONLINE` (5.19). -/
def evCoreOnline : Nat := 0x1114
/-- `SAVE_NOT_ARMED` (5.19). -/
def evSaveNotArmed : Nat := 0x1115
/-- `WAKE_IGNORED` (5.19). -/
def evWakeIgnored : Nat := 0x1116
/-- `BUFFER_RETURNED` (5.19). -/
def evBufferReturned : Nat := 0x1117
/-- `XFER_ENDED` (5.19). -/
def evXferEnded : Nat := 0x1118
/-- `SVC_PW_WRONG` (5.19). -/
def evSvcPwWrong : Nat := 0x1119
/-- `RESTART_LIMIT` (5.19). -/
def evRestartLimit : Nat := 0x111A
/-- `CONFIG_WRITTEN` (5.19). -/
def evConfigWritten : Nat := 0x111B
/-- `DIRECT_ENDED` (5.19). -/
def evDirectEnded : Nat := 0x111C
/-- `NO_ZONE_CORE` (5.19). -/
def evNoZoneCore : Nat := 0x1120
/-- `POINT_BAD` (6.15). -/
def evPointBad : Nat := 0x0201
/-- `POINT_STALE` (6.15). -/
def evPointStale : Nat := 0x0202
/-- `POINT_GOOD` (6.15). -/
def evPointGood : Nat := 0x0203
/-- `I2C_RECOVERY` (6.15). -/
def evI2cRecovery : Nat := 0x0204
/-- `SEQ_TRIG_LOST` (6.15). -/
def evSeqTrigLost : Nat := 0x0205
/-- `SAR_TRIG_LOST` (6.15). -/
def evSarTrigLost : Nat := 0x0206
/-- `SAR_OVR` (6.15). -/
def evSarOvr : Nat := 0x0207
/-- `SD_CAL_FAIL` (6.15). -/
def evSdCalFail : Nat := 0x0208
/-- `ZONE_STATE` (7.22). -/
def evZoneState : Nat := 0x0101
/-- `ZONE_NO_TEMP` (7.22). -/
def evZoneNoTemp : Nat := 0x0102
/-- `ZONE_TEMP_BACK` (7.22). -/
def evZoneTempBack : Nat := 0x0103
/-- `ACT_UNPROVEN` (7.22). -/
def evActUnproven : Nat := 0x0104
/-- `ACT_PROVEN` (7.22). -/
def evActProven : Nat := 0x0105
/-- `OVERRIDE_SET` (7.22). -/
def evOverrideSet : Nat := 0x0106
/-- `OVERRIDE_END` (7.22). -/
def evOverrideEnd : Nat := 0x0107
/-- `BOUND_FLOOR` (7.22). -/
def evBoundFloor : Nat := 0x0108
/-- `LOOP_PV_FAIL` (7.22). -/
def evLoopPvFail : Nat := 0x0301
/-- `LOOP_PV_BACK` (7.22). -/
def evLoopPvBack : Nat := 0x0302
/-- `SCHED_ROUNDED` (7.22). -/
def evSchedRounded : Nat := 0x0701
/-- `SCHED_NO_TIME` (7.22). -/
def evSchedNoTime : Nat := 0x0702
/-- `PRES_OCCUPIED` (7.22). -/
def evPresOccupied : Nat := 0x0801
/-- `PRES_VACANT` (7.22). -/
def evPresVacant : Nat := 0x0802
/-- `PRES_INPUT_BAD` (7.22). -/
def evPresInputBad : Nat := 0x0803
/-- `PLAN_FAIL` (8.12). -/
def evPlanFail : Nat := 0x0901
/-- `PLAN_FALLBACK` (8.12). -/
def evPlanFallback : Nat := 0x0902
/-- `PLAN_RESUMED` (8.12). -/
def evPlanResumed : Nat := 0x0903
/-- `MODEL_QUALIFIED` (8.12). -/
def evModelQualified : Nat := 0x0904
/-- `MODEL_LOST` (8.12). -/
def evModelLost : Nat := 0x0905
/-- `MODEL_RESET` (8.12). -/
def evModelReset : Nat := 0x0906
/-- `ID_READAPT` (8.12). -/
def evIdReadapt : Nat := 0x0907
/-- `BS_AGED` (8.12). -/
def evBsAged : Nat := 0x0908
/-- `BS_REMOVED` (8.12). -/
def evBsRemoved : Nat := 0x0909
/-- `BS_BACK` (8.12). -/
def evBsBack : Nat := 0x090A
/-- `VALVE_UNPROVEN` (9.12). -/
def evValveUnproven : Nat := 0x0401
/-- `VALVE_FAULT` (9.12). -/
def evValveFault : Nat := 0x0402
/-- `VALVE_FAULT_CLEAR` (9.12). -/
def evValveFaultClear : Nat := 0x0403
/-- `VALVE_DEFER` (9.12). -/
def evValveDefer : Nat := 0x0404
/-- `GROUP_HS_TRIP` (9.12). -/
def evGroupHsTrip : Nat := 0x0405
/-- `GROUP_LATCHED` (9.12). -/
def evGroupLatched : Nat := 0x0406
/-- `CLAMP_LIMIT` (9.12). -/
def evClampLimit : Nat := 0x0407
/-- `FAN_STALL` (10.13). -/
def evFanStall : Nat := 0x0501
/-- `FAN_RETRY` (10.13). -/
def evFanRetry : Nat := 0x0502
/-- `FAN_RUNNING` (10.13). -/
def evFanRunning : Nat := 0x0503
/-- `FAN_TACH_LOST` (10.13). -/
def evFanTachLost : Nat := 0x0504
/-- `FAN_SIG_DEV` (10.13). -/
def evFanSigDev : Nat := 0x0505
/-- `FAN_TACH_BACK` (10.13). -/
def evFanTachBack : Nat := 0x0506
/-- `FAN_OPEN_LOAD` (10.13). -/
def evFanOpenLoad : Nat := 0x0507
/-- `FAN_OCP` (10.13). -/
def evFanOcp : Nat := 0x0508
/-- `FAN_OCP_LATCHED` (10.13). -/
def evFanOcpLatched : Nat := 0x0509
/-- `FAN_FAULT` (10.13). -/
def evFanFault : Nat := 0x050A
/-- `FAN_CLEARED` (10.13). -/
def evFanCleared : Nat := 0x050B
/-- `FAN_FORCED_FULL` (10.13). -/
def evFanForcedFull : Nat := 0x050C
/-- `FAN_FORCE_END` (10.13). -/
def evFanForceEnd : Nat := 0x050D
/-- `FAN_START_WAIT` (10.13). -/
def evFanStartWait : Nat := 0x050E
/-- `FAN_SIG_SAVE` (10.13). -/
def evFanSigSave : Nat := 0x050F
/-- `AO_FAULT` (10.13). -/
def evAoFault : Nat := 0x0601
/-- `AO_FAULT_CLEAR` (10.13). -/
def evAoFaultClear : Nat := 0x0602
/-- `CRIT_TRIP` (10.13). -/
def evCritTrip : Nat := 0x111D
/-- `CRIT_CLEAR` (10.13). -/
def evCritClear : Nat := 0x111E
/-- `KEY_DOWN` (11.8). -/
def evKeyDown : Nat := 0x0A01
/-- `KEY_UP` (11.8). -/
def evKeyUp : Nat := 0x0A02
/-- `KEY_GHOST` (11.8). -/
def evKeyGhost : Nat := 0x0A03
/-- `KEY_GHOST_CLEAR` (11.8). -/
def evKeyGhostClear : Nat := 0x0A04
/-- `KEY_STUCK` (11.8). -/
def evKeyStuck : Nat := 0x0A05
/-- `KEY_STUCK_CLEAR` (11.8). -/
def evKeyStuckClear : Nat := 0x0A06
/-- `KEY_OVERRUN` (11.8). -/
def evKeyOverrun : Nat := 0x0A07
/-- `ENC_STEPS` (11.8). -/
def evEncSteps : Nat := 0x0A08
/-- `ENC_ERROR` (11.8). -/
def evEncError : Nat := 0x0A09
/-- `PANEL_REFUSED` (11.8). -/
def evPanelRefused : Nat := 0x0A0A
/-- `CAN_ERR_PASSIVE` (12.15). -/
def evCanErrPassive : Nat := 0x0B01
/-- `CAN_ERR_ACTIVE` (12.15). -/
def evCanErrActive : Nat := 0x0B02
/-- `CAN_BUS_OFF` (12.15). -/
def evCanBusOff : Nat := 0x0B03
/-- `CAN_RECOVERED` (12.15). -/
def evCanRecovered : Nat := 0x0B04
/-- `CAN_RECOVERY_HELD` (12.15). -/
def evCanRecoveryHeld : Nat := 0x0B05
/-- `CAN_SEGMENT_ALONE` (12.15). -/
def evCanSegmentAlone : Nat := 0x0B06
/-- `CAN_SEGMENT_BACK` (12.15). -/
def evCanSegmentBack : Nat := 0x0B07
/-- `CAN_RX_OVF` (12.15). -/
def evCanRxOvf : Nat := 0x0B08
/-- `CAN_TRUNC` (12.15). -/
def evCanTrunc : Nat := 0x0B09
/-- `CAN_RX_IMPLAUS` (12.15). -/
def evCanRxImplaus : Nat := 0x0B0A
/-- `CAN_ADDR_CLASH` (12.15). -/
def evCanAddrClash : Nat := 0x0B0B
/-- `CAN_TX_FAIL` (12.15). -/
def evCanTxFail : Nat := 0x0B0C
/-- `CAN_TDC_FAIL` (12.15). -/
def evCanTdcFail : Nat := 0x0B0D
/-- `CAN_TXD_TIMEOUT` (12.15). -/
def evCanTxdTimeout : Nat := 0x0B0E
/-- `CAN_RAM_PARITY` (12.15). -/
def evCanRamParity : Nat := 0x0B0F
/-- `TT_RUNNING` (12.15). -/
def evTtRunning : Nat := 0x0C01
/-- `TT_REF_MISS` (12.15). -/
def evTtRefMiss : Nat := 0x0C02
/-- `TT_LOST` (12.15). -/
def evTtLost : Nat := 0x0C03
/-- `TT_CYCLE_JUMP` (12.15). -/
def evTtCycleJump : Nat := 0x0C04
/-- `TT_WINDOW_MISS` (12.15). -/
def evTtWindowMiss : Nat := 0x0C05
/-- `TT_COMMITTED` (12.15). -/
def evTtCommitted : Nat := 0x0C06
/-- `FAB_ADDR` (13.12). -/
def evFabAddr : Nat := 0x0D01
/-- `FAB_ADDR_LOST` (13.12). -/
def evFabAddrLost : Nat := 0x0D02
/-- `FAB_NBR_UP` (13.12). -/
def evFabNbrUp : Nat := 0x0D03
/-- `FAB_NBR_DOWN` (13.12). -/
def evFabNbrDown : Nat := 0x0D04
/-- `FAB_ROOT` (13.12). -/
def evFabRoot : Nat := 0x0D05
/-- `FAB_TM` (13.12). -/
def evFabTm : Nat := 0x0D06
/-- `FAB_TIME_STEP` (13.12). -/
def evFabTimeStep : Nat := 0x0D07
/-- `PERIOD_CONFLICT` (13.12). -/
def evPeriodConflict : Nat := 0x0D08
/-- `FAB_FRAME_BAD` (13.12). -/
def evFabFrameBad : Nat := 0x0D09
/-- `FAB_UNREACH` (13.12). -/
def evFabUnreach : Nat := 0x0D0A
/-- `REC_DUP_SEQ` (14.14). -/
def evRecDupSeq : Nat := 0x0E01
/-- `REC_RECALL_DONE` (14.14). -/
def evRecRecallDone : Nat := 0x0E02
/-- `REC_MIGRATED` (14.14). -/
def evRecMigrated : Nat := 0x0E03
/-- `REC_HOT_STALE` (14.14). -/
def evRecHotStale : Nat := 0x0E04
/-- `REC_SAVE_DROPPED` (14.14). -/
def evRecSaveDropped : Nat := 0x0E05
/-- `REC_LOCKOUT` (14.14). -/
def evRecLockout : Nat := 0x0E06
/-- `REC_PW_WRONG` (14.14). -/
def evRecPwWrong : Nat := 0x0E07
/-- `REC_CONFIG_REFUSED` (14.14). -/
def evRecConfigRefused : Nat := 0x0E08
/-- `REC_LOG_SKIPPED` (14.14). -/
def evRecLogSkipped : Nat := 0x0E09
/-- `REC_REFORMAT` (14.14). -/
def evRecReformat : Nat := 0x0E0A
/-- `THROTTLE_STEP` (15.15). -/
def evThrottleStep : Nat := 0x0F01
/-- `THROTTLE_RELEASE` (15.15). -/
def evThrottleRelease : Nat := 0x0F02
/-- `DIE_SENSOR_FAILED` (15.15). -/
def evDieSensorFailed : Nat := 0x0F03
/-- `DIE_SENSOR_BACK` (15.15). -/
def evDieSensorBack : Nat := 0x0F04
/-- `BAND_CHANGE` (15.15). -/
def evBandChange : Nat := 0x0F05
/-- `BUFFER_STOP` (15.15). -/
def evBufferStop : Nat := 0x0F06
/-- `THERMAL_BUDGET` (15.15). -/
def evThermalBudget : Nat := 0x0F07
/-- `GUARD_TAKE` (15.15). -/
def evGuardTake : Nat := 0x1001
/-- `GUARD_HANDBACK` (15.15). -/
def evGuardHandback : Nat := 0x1002
/-- `GUARD_RESET` (15.15). -/
def evGuardReset : Nat := 0x1003
/-- `GUARD_INPUT_BAD` (15.15). -/
def evGuardInputBad : Nat := 0x1004
/-- `GUARD_INPUT_GOOD` (15.15). -/
def evGuardInputGood : Nat := 0x1005
/-- `GUARD_FROST` (15.15). -/
def evGuardFrost : Nat := 0x1006
/-- `GUARD_PURGE` (15.15). -/
def evGuardPurge : Nat := 0x1007
/-- `GUARD_STATE_END` (15.15). -/
def evGuardStateEnd : Nat := 0x1008
/-- `GUARD_TEMP` (15.15). -/
def evGuardTemp : Nat := 0x1009
/-- `GUARD_CFG_APPLIED` (15.15). -/
def evGuardCfgApplied : Nat := 0x100A
/-- `SIDING_ENTER` (15.15). -/
def evSidingEnter : Nat := 0x100B
/-- `SIDING_EXIT` (15.15). -/
def evSidingExit : Nat := 0x100C
/-- `STRAP_UNSTABLE` (R439). -/
def evStrapUnstable : Nat := 0x111F

/-- Codes and priorities of class 0x01. -/
def evCat01 : List (Nat × Nat) :=
  [(0x0101, 3), (0x0102, 1), (0x0103, 3), (0x0104, 1), (0x0105, 3), (0x0106, 3), (0x0107, 3), (0x0108, 2)]
/-- Codes and priorities of class 0x02. -/
def evCat02 : List (Nat × Nat) :=
  [(0x0201, 2), (0x0202, 2), (0x0203, 3), (0x0204, 1), (0x0205, 2), (0x0206, 3), (0x0207, 3), (0x0208, 1)]
/-- Codes and priorities of class 0x03. -/
def evCat03 : List (Nat × Nat) :=
  [(0x0301, 1), (0x0302, 3)]
/-- Codes and priorities of class 0x04. -/
def evCat04 : List (Nat × Nat) :=
  [(0x0401, 2), (0x0402, 1), (0x0403, 3), (0x0404, 3), (0x0405, 0), (0x0406, 0), (0x0407, 2)]
/-- Codes and priorities of class 0x05. -/
def evCat05 : List (Nat × Nat) :=
  [(0x0501, 1), (0x0502, 3), (0x0503, 3), (0x0504, 1), (0x0505, 2), (0x0506, 3), (0x0507, 1), (0x0508, 0), (0x0509, 0), (0x050A, 1), (0x050B, 3), (0x050C, 1), (0x050D, 3), (0x050E, 3), (0x050F, 2)]
/-- Codes and priorities of class 0x06. -/
def evCat06 : List (Nat × Nat) :=
  [(0x0601, 1), (0x0602, 3)]
/-- Codes and priorities of class 0x07. -/
def evCat07 : List (Nat × Nat) :=
  [(0x0701, 2), (0x0702, 1)]
/-- Codes and priorities of class 0x08. -/
def evCat08 : List (Nat × Nat) :=
  [(0x0801, 3), (0x0802, 3), (0x0803, 2)]
/-- Codes and priorities of class 0x09. -/
def evCat09 : List (Nat × Nat) :=
  [(0x0901, 1), (0x0902, 1), (0x0903, 3), (0x0904, 3), (0x0905, 2), (0x0906, 2), (0x0907, 2), (0x0908, 3), (0x0909, 2), (0x090A, 3)]
/-- Codes and priorities of class 0x0A. -/
def evCat0A : List (Nat × Nat) :=
  [(0x0A01, 3), (0x0A02, 3), (0x0A03, 2), (0x0A04, 3), (0x0A05, 1), (0x0A06, 3), (0x0A07, 2), (0x0A08, 3), (0x0A09, 2), (0x0A0A, 3)]
/-- Codes and priorities of class 0x0B. -/
def evCat0B : List (Nat × Nat) :=
  [(0x0B01, 1), (0x0B02, 3), (0x0B03, 0), (0x0B04, 2), (0x0B05, 0), (0x0B06, 1), (0x0B07, 3), (0x0B08, 2), (0x0B09, 3), (0x0B0A, 2), (0x0B0B, 1), (0x0B0C, 3), (0x0B0D, 2), (0x0B0E, 1), (0x0B0F, 1)]
/-- Codes and priorities of class 0x0C. -/
def evCat0C : List (Nat × Nat) :=
  [(0x0C01, 3), (0x0C02, 2), (0x0C03, 1), (0x0C04, 2), (0x0C05, 3), (0x0C06, 3)]
/-- Codes and priorities of class 0x0D. -/
def evCat0D : List (Nat × Nat) :=
  [(0x0D01, 2), (0x0D02, 1), (0x0D03, 3), (0x0D04, 2), (0x0D05, 2), (0x0D06, 2), (0x0D07, 1), (0x0D08, 1), (0x0D09, 2), (0x0D0A, 3)]
/-- Codes and priorities of class 0x0E. -/
def evCat0E : List (Nat × Nat) :=
  [(0x0E01, 1), (0x0E02, 3), (0x0E03, 2), (0x0E04, 1), (0x0E05, 1), (0x0E06, 1), (0x0E07, 2), (0x0E08, 1), (0x0E09, 1), (0x0E0A, 2)]
/-- Codes and priorities of class 0x0F. -/
def evCat0F : List (Nat × Nat) :=
  [(0x0F01, 1), (0x0F02, 3), (0x0F03, 1), (0x0F04, 2), (0x0F05, 3), (0x0F06, 0), (0x0F07, 2)]
/-- Codes and priorities of class 0x10. -/
def evCat10 : List (Nat × Nat) :=
  [(0x1001, 1), (0x1002, 2), (0x1003, 0), (0x1004, 1), (0x1005, 3), (0x1006, 1), (0x1007, 1), (0x1008, 3), (0x1009, 3), (0x100A, 3), (0x100B, 0), (0x100C, 2)]
/-- Codes and priorities of class 0x11. -/
def evCat11 : List (Nat × Nat) :=
  [(0x1101, 0), (0x1102, 2), (0x1103, 1), (0x1104, 2), (0x1105, 0), (0x1106, 1), (0x1107, 0), (0x1108, 0), (0x1109, 1), (0x110A, 2), (0x110B, 2), (0x110C, 2), (0x110D, 3), (0x110E, 1), (0x110F, 1), (0x1110, 1), (0x1111, 2), (0x1112, 3), (0x1113, 1), (0x1114, 2), (0x1115, 2), (0x1116, 3), (0x1117, 3), (0x1118, 2), (0x1119, 1), (0x111A, 0), (0x111B, 3), (0x111C, 3), (0x1120, 0), (0x111D, 0), (0x111E, 2), (0x111F, 1)]

/-- The catalogue of every class (R149). -/
def evCatalogue : List (Nat × Nat) :=
  evCat01 ++ evCat02 ++ evCat03 ++ evCat04 ++ evCat05 ++ evCat06 ++ evCat07 ++ evCat08 ++ evCat09 ++ evCat0A ++ evCat0B ++ evCat0C ++ evCat0D ++ evCat0E ++ evCat0F ++ evCat10 ++ evCat11

/-- The priority that the catalogue fixes for a code (R149). -/
def evPri (code : Nat) : Nat := ((evCatalogue.find? fun p => p.1 == code).map (·.2)).getD 3

end Sys2Proof.Machine
end

