-- ==== Sys2Proof/Machine/Check.lean ====
section
/-!
DEFINITION. Sys2Proof/Machine/Check.lean: the check-value unit of chapter 02: its bit order (R56), the presets
(Table 2.7, R52), folding (R49, R50), and the parity bits of a queue entry (R41).
-/
namespace Sys2Proof.Machine
open Sys2Proof

/-- The parameters of one check value (Table 2.7; Table 2.9 at raw level). -/
structure CrcParams where
  width  : Nat
  poly   : Nat
  init   : Nat
  refin  : Bool
  refout : Bool
  xorout : Nat
  deriving DecidableEq, Repr

/-- The `w` low bits of a number in reverse order. -/
def reflect : Nat → Nat → Nat
  | 0, _ => 0
  | w + 1, n => (n % 2) * 2 ^ w + reflect w (n / 2)

/-- One input bit through the working register, normal form (R56). -/
def crcBit (p : CrcParams) (reg : Nat) (b : Bool) : Nat :=
  let top := bitOf reg (p.width - 1)
  let sh := (reg <<< 1) % 2 ^ p.width
  if xor top b then sh ^^^ (p.poly % 2 ^ p.width) else sh

/-- `k` bits of a byte, most significant first. -/
def crcBitsOf (p : CrcParams) : Nat → Nat → Nat → Nat
  | 0, _, reg => reg
  | k + 1, byte, reg => crcBitsOf p k byte (crcBit p reg (bitOf byte k))

/-- One byte: reflected when `refin` is set, then its bits, most significant first (R56). -/
def crcByte (p : CrcParams) (reg : Nat) (b : Byte) : Nat :=
  crcBitsOf p 8 (if p.refin then reflect 8 b.toNat else b.toNat) reg

/-- The working register after a byte list. -/
def crcFeed (p : CrcParams) (reg : Nat) (l : List Byte) : Nat := l.foldl (crcByte p) reg

/-- The result that stands for a working register: `refout`, then the final XOR (R55, R56). -/
def crcResult (p : CrcParams) (reg : Nat) : Nat :=
  ((if p.refout then reflect p.width reg else reg) ^^^ p.xorout) % 2 ^ p.width

/-- The check value over a byte list from the initial value. -/
def crcOf (p : CrcParams) (l : List Byte) : Nat :=
  crcResult p (crcFeed p (p.init % 2 ^ p.width) l)

/-- Preset 0, CRC-8/SMBUS (Table 2.7). -/
def crc8Smbus : CrcParams := ⟨8, 0x07, 0, false, false, 0⟩
/-- Preset 1, CRC-16/IBM-3740 (Table 2.7). -/
def crc16Ibm : CrcParams := ⟨16, 0x1021, 0xFFFF, false, false, 0⟩
/-- Preset 2, CRC-32/ISO-HDLC (Table 2.7). -/
def crc32Iso : CrcParams := ⟨32, 0x04C11DB7, 0xFFFFFFFF, true, true, 0xFFFFFFFF⟩
/-- Preset 3, CRC-32C (Table 2.7). -/
def crc32c : CrcParams := ⟨32, 0x1EDC6F41, 0xFFFFFFFF, true, true, 0xFFFFFFFF⟩

/-- The preset of a number 0–3 (R52, R54). -/
def crcPreset : Nat → Option CrcParams
  | 0 => some crc8Smbus
  | 1 => some crc16Ibm
  | 2 => some crc32Iso
  | 3 => some crc32c
  | _ => none

/-- The mailbox check value: slot index and sequence number folded in, then header bytes 0–11 and the payload (Table 2.6). -/
def mailboxCheck (slot seq : Nat) (hdr payload : List Byte) : Nat :=
  crcOf crc32c (leBytes 2 slot ++ leBytes 4 seq ++ hdr ++ payload)

/-- The fabric control check value over the data field before it (Table 2.6). -/
def fabricCheck (dst seq : Nat) (body : List Byte) : Nat :=
  crcOf crc16Ibm (leBytes 2 (dst % 4096) ++ leBytes 2 seq ++ body)

/-- The record check value, folded with the byte address of the copy (Table 2.6). -/
def recordCheck (addr : Nat) (payload : List Byte) : Nat :=
  crcOf crc32c (leBytes 4 addr ++ payload)

/-- The parity bit that makes a word and itself hold an even number of ones (R41). -/
def parityOf (w : Word) : Bool := popCount 32 w.toNat % 2 == 1

end Sys2Proof.Machine
end

