-- ==== Sys2Proof/Machine/Mem.lean ====
section
/-!
DEFINITION. Sys2Proof/Machine/Mem.lean: the addressed memories of the block (the shared window SRAM, the record
store cells, the two flash banks, the mailbox slots) as sorted lists of cells; an unlisted byte reads 0 (log 3), and
writing 0 removes the entry, so equal memories are equal lists.
-/
namespace Sys2Proof.Machine
open Sys2Proof

/-- A memory: cells at rising addresses, none of them 0. -/
abbrev Mem := List Host.Cell

/-- The byte at an address. -/
def Mem.read : Mem → Nat → Byte
  | [], _ => 0
  | (k, b) :: m, a => if k = a then b else Mem.read m a

/-- Writes one byte and keeps the canonical form. -/
def Mem.write (a : Nat) (v : Byte) : Mem → Mem
  | [] => if v = 0 then [] else [(a, v)]
  | (k, b) :: m =>
    if a < k then (if v = 0 then (k, b) :: m else (a, v) :: (k, b) :: m)
    else if a = k then (if v = 0 then m else (a, v) :: m)
    else (k, b) :: Mem.write a v m

/-- Every address of the memory lies above `lo`, addresses rise and no cell holds 0. -/
def Mem.wfFrom : Nat → Mem → Bool
  | _, [] => true
  | lo, (k, b) :: m => decide (lo ≤ k) && decide (b ≠ 0) && Mem.wfFrom (k + 1) m

/-- The canonical form. -/
def Mem.wf (m : Mem) : Bool := Mem.wfFrom 0 m

/-- `n` bytes from an address. -/
def Mem.bytes (m : Mem) (a n : Nat) : List Byte := (List.range n).map fun k => m.read (a + k)

/-- Writes a byte list from an address upwards. -/
def Mem.writeBytes (a : Nat) : List Byte → Mem → Mem
  | [], m => m
  | b :: bs, m => Mem.writeBytes (a + 1) bs (m.write a b)

/-- The little-endian number in `n` bytes at an address (R10). -/
def Mem.le (m : Mem) (a n : Nat) : Nat := leNat (m.bytes a n)

end Sys2Proof.Machine
end

