-- ==== Sys2Proof/Machine/State.lean ====
section
/-!
DEFINITION. Sys2Proof/Machine/State.lean: everything the spec gives the block, as plain data. Each field's
docstring names the chapter and the rule that give it; its default value is its value in `State.reset`.
Where the spec gives no reset value the docstring says DESIGN CHOICE or PRESUMED with the log entry.
-/
namespace Sys2Proof.Machine
open Sys2Proof

/-! ### Shared kinds -/

/-- The eight modes of Table 3.5. -/
inductive Mode where
  | terminus | halt | shunting | platform | mainline | siding | depot | bufferStop
  deriving DecidableEq, Repr

/-- The mode codes of Table 3.5. -/
def Mode.code : Mode → Nat
  | .terminus => 0 | .halt => 1 | .shunting => 2 | .platform => 3
  | .mainline => 4 | .siding => 5 | .depot => 6 | .bufferStop => 7

/-- The mode of a code; none for the reserved codes. -/
def Mode.ofCode : Nat → Option Mode
  | 0 => some .terminus | 1 => some .halt | 2 => some .shunting | 3 => some .platform
  | 4 => some .mainline | 5 => some .siding | 6 => some .depot | 7 => some .bufferStop
  | _ => none

/-- Where the main domain stands in the sequences of Tables 3.3 and 3.9. -/
inductive Phase where
  | off          -- no supply, or standby
  | held         -- reset held: power-on reset, clocks not yet locked, or RST_N low
  | imageCheck   -- the SB boot ROM runs and checks the selected bank
  | loading      -- engine images load
  | selfTest     -- the main-domain self-test runs
  | recall       -- record recall runs; mailbox service has begun
  | applying     -- the recalled configuration is being applied
  | run          -- ready
  | romDepot     -- no valid image: boot-ROM Depot (R75)
  | saving       -- a power-fail save has stopped the engines (R92)
  deriving DecidableEq, Repr

/-- Point status (Table 0.4). -/
inductive PStat where
  | good | suspect | bad | stale
  deriving DecidableEq, Repr

/-- The `STATUS` code of a point. -/
def PStat.code : PStat → Nat
  | .good => 0 | .suspect => 1 | .bad => 2 | .stale => 3

/-- One queue entry: its typed content, the number of its producer, and whether its stored parity disagrees with its
words, so that the read tags it `POISON` (R41). -/
structure QE (α : Type) where
  val  : α
  prod : Nat
  bad  : Bool := false
  deriving DecidableEq, Repr

/-! ### Supplies, clocks, power (chapters 01, 03) -/

/-- Supplies, standby latch and clocks. -/
structure Power where
  /-- 03 R57, R61: `VSUP` above its thresholds. Reset true (t0 of Table 3.3). -/
  vsup : Bool := true
  /-- 03 R57: `VDRV` valid. Reset DESIGN CHOICE true (log 4). -/
  vdrv : Bool := true
  /-- 09 R243: `VDRV` as the supply monitor measured it last, mV. Reset DESIGN CHOICE 24,000 (log 4). -/
  vdrvMv : Nat := 24000
  /-- 03 R57: `VIO` valid. Reset DESIGN CHOICE true (log 4). -/
  vio : Bool := true
  /-- 03 R57: `VBKP` valid. Reset DESIGN CHOICE true (log 4). -/
  vbkp : Bool := true
  /-- 03 R63: `VDRV` overvoltage shut-off in force. Reset false. -/
  vdrvOv : Bool := false
  /-- 03 R61: standby latch in the `VBKP` domain. Reset false. -/
  latch : Bool := false
  /-- 03 R82: the standby mode entered with the latch is Halt. Reset false. -/
  latchHalt : Bool := false
  /-- 03 R84: cause of a wake kept until Shunting can start. Reset none. -/
  wakeKept : Option Nat := none
  /-- 03 R84: model time at which the standby entry that set the latch ends. Reset 0. -/
  entryEnd : Nat := 0
  /-- 03 R62: a loss of `VSUP` waits to be logged at the next start. Reset false. -/
  vsupLossToLog : Bool := false
  /-- 03 R64: `RST_N` is low. Reset false. -/
  rstLow : Bool := false
  /-- 01 R20: the `CORE` clock is declared lost. Reset false. -/
  coreLost : Bool := false
  /-- 01 R20: the `DRV` clock is declared lost. Reset false. -/
  drvLost : Bool := false
  /-- 01 R20: the `AFE` clock is declared lost. Reset false. -/
  afeLost : Bool := false
  /-- 01 R20: the `GUARD` clock is declared lost. Reset false. -/
  guardLost : Bool := false
  /-- 01 R20: the `RTC` clock is declared lost. Reset false. -/
  rtcLost : Bool := false
  /-- 03 R91: the power-fail save is armed. Reset false. -/
  saveArmed : Bool := false
  /-- 03 R91: the event for a save not armed has been decided for this start. Reset false. -/
  saveArmJudged : Bool := false
  /-- 03 Table 3.7 (R80): duration of the last power-fail save in µs. Reset 0. -/
  saveLastUs : Nat := 0
  /-- 03 Table 3.7 (R80): power-fail saves completed. Reset 0. -/
  saveCount : Nat := 0
  /-- 03 R92: a power-fail save has run and `VSUP` has not been lost since. Reset false. -/
  saved : Bool := false
  /-- 16 R441: `TEST_EN` was sampled high. Reset false. -/
  testEn : Bool := false
  deriving DecidableEq, Repr

/-- The real-time clock of the `VBKP` domain. -/
structure Rtc where
  /-- 01 Table 1.5 (R18): 48-bit RTC count at the base instant. Reset DESIGN CHOICE 0 (log 4). -/
  base : Nat := 0
  /-- 01 Table 1.5 (R18): model time in µs at which the count was `base`. Reset 0. -/
  at_ : Nat := 0
  /-- 07 R198: time of day is valid: the RTC has been set since the domain lost its feeds. Reset false. -/
  valid : Bool := false
  deriving DecidableEq, Repr

/-- The main domain: start, mode, restarts, banks. -/
structure Main where
  /-- 03 R65, R87: the step of the start sequence. Reset held (power-on reset). -/
  phase : Phase := .held
  /-- 03 R65: the start under way is a cold start. Reset true. -/
  cold : Bool := true
  /-- 03 Table 3.7, 04 Table 4.3: current mode. Reset Shunting, 0x2. -/
  mode : Mode := .shunting
  /-- 03 Table 3.7 (R80): mode before the last transition. Reset Terminus, 0x0. -/
  lastMode : Mode := .terminus
  /-- 03 Table 3.8 (R80): cause of the last start. Reset 0x00. -/
  startCause : Nat := 0
  /-- 03 R85: a restart of the main domain is due, with its cause; acts when MAIN_RESTART runs. Reset none. -/
  restartDue : Option Nat := none
  /-- 03 R130, R85: a restart runs at the end of a Changeover: its cause and that `PERIOD_COUNT`. Reset none. -/
  restartAtCo : Option (Nat × Nat) := none
  /-- 03 R75, R129: mode in which a restart out of Depot ends. Reset none. -/
  endMode : Option Mode := none
  /-- 03 R77, R129: modes accepted for Changeovers, each with that `PERIOD_COUNT`, one for each. Reset empty. -/
  modeNext : List (Mode × Nat) := []
  /-- 03 R82, R84: standby entry has completed its steps up to the latch. Reset false. -/
  standby : Bool := false
  /-- 03 R80: fault restarts since `VSUP` became valid. Reset 0. -/
  restarts : Nat := 0
  /-- 14 Table 14.8 (R392): fault restarts that `FAULT_RESTARTS` does not count yet. Reset 0. -/
  restartsDue : Nat := 0
  /-- 03 R89: times in µs of the latest fault restarts, newest first. Reset empty. -/
  faultTimes : List Nat := []
  /-- 03 R69, R89, R417: causes of Siding, as `SIDING_CAUSE` reports. Reset 0. -/
  sidingCause : Nat := 0
  /-- 03 R86: the system SRAM has had an uncorrectable error since the last recall. Reset false. -/
  ded : Bool := false
  /-- 03 R86: `PERIOD_COUNT` of the last completed update of the preserved blocks: point table, zone states, loop states, presence
  estimates, plan buffer, hot values, and the identified models (R227). Reset 0. -/
  blockPer : List Nat := List.replicate 7 0
  /-- 03 R69: a block other than a zone core failed the self-test. Reset false. -/
  selfTestBad : Bool := false
  /-- 03 R72: bank chosen for this start: 0 A, 1 B. Reset 0. -/
  bankSel : Nat := 0
  /-- 03 R72: step of the bank selection: 0 the TRIAL bank, 1 the ACTIVE one, 2 the STANDBY one. Reset 0. -/
  bankStep : Nat := 0
  /-- 03 Table 3.7 (R80): running bank. Reset 0. -/
  bankRun : Nat := 0
  /-- 04 Table 4.3: running firmware version. Reset 0. -/
  fwId : Nat := 0
  /-- 04 Table 4.7: `PROTO_MAX` of the running image. Reset DESIGN CHOICE 3 (log 4). -/
  protoMax : Nat := 3
  /-- 03 R74: `DE_ID` of the running `DE` microcode; none before it is loaded. Reset none. -/
  deId : Option Nat := none
  /-- 03 R74: zone periods completed by a TRIAL image in Platform or Mainline. Reset 0. -/
  trialPeriods : Nat := 0
  /-- 04 Table 4.3: `READY` is 1. Reset false. -/
  ready : Bool := false
  /-- 03 R66: mailbox service has begun. Reset false. -/
  serving : Bool := false
  /-- 03 R91: model time of ready, µs. Reset 0. -/
  readyAt : Nat := 0
  /-- 00 R5: Profile L is active. Reset false. -/
  profActive : Bool := false
  /-- 00 R5: the active profile comes from the strap. Reset false. -/
  profSrc : Bool := false
  /-- 03 R79: wrong service passwords since `VSUP` became valid. Reset 0. -/
  svcWrong : Nat := 0
  /-- 03 R65: the `DRV` PLL is locked. Reset false. -/
  drvLocked : Bool := false
  /-- 03 R65, R74: `DE` runs. Reset false. -/
  deRun : Bool := false
  deriving DecidableEq, Repr

/-- One zone core (R35, R36). -/
structure ZCore where
  /-- 01 R35: the core is online. Reset true (Table 1.7 `CORE_ACTIVE` 0b1111). -/
  online : Bool := true
  /-- 01 R36: the core is being reset and self-tested. Reset false. -/
  testing : Bool := false
  /-- 01 R36: self-tests failed since the main domain started. Reset 0. -/
  fails : Nat := 0
  /-- 01 R35: the core returned and has not yet taken its home zones back. Reset false. -/
  returned : Bool := false
  /-- 01 R35: the core was online throughout the current period so far. Reset true. -/
  whole : Bool := true
  /-- 01 R36: `CORE_OFFLINE` has been logged for the present absence. Reset false. -/
  offLogged : Bool := false
  /-- 01 R36: model time in µs of the core's last progress, or since work fell due. Reset 0. -/
  progress : Nat := 0
  deriving DecidableEq, Repr

/-- The zone period and the Changeover (chapter 01). -/
structure Period where
  /-- 01 R68: zone periods run. Reset false. -/
  running : Bool := false
  /-- 01 R88: the current period is the rejoin period. Reset false. -/
  rejoin : Bool := false
  /-- 01 R27: the Changeover has run and the next t0 has not come. Reset false. -/
  inCo : Bool := false
  /-- 01 R23: the zone instant of this period has come. Reset false. -/
  instantDone : Bool := false
  /-- 01 R21: model time of t0 in µs. Reset 0. -/
  t0 : Nat := 0
  /-- 13 R362: fabric time at t0 in µs. Reset 0. -/
  t0Fab : Int := 0
  /-- 01 R30: length of the current period in µs. Reset 1,000,000 (default `PERIOD_MS`). -/
  lenUs : Nat := 1000000
  /-- 01 R21, R22: `PERIOD_MS` in force, the node's own or its root's, as the last Changeover left it. Reset 1,000. -/
  ms : Nat := 1000
  /-- 01 Table 1.7 (R21): a period has begun since the main domain started, so `PERIOD_COUNT` rises at the next t0. Reset false. -/
  started : Bool := false
  /-- 01 Table 1.7 (R21): `PERIOD_COUNT`. Reset 0. -/
  count : Nat := 0
  /-- 01 Table 1.7 (R21): cores that ran zones in the current period. Reset 0b1111. -/
  coreActive : Nat := 15
  /-- 01 Table 1.7 (R21): `CO_LAST_US`. Reset 0. -/
  coLast : Nat := 0
  /-- 01 Table 1.7 (R21): `CO_MAX_US`. Reset 0. -/
  coMax : Nat := 0
  /-- 01 Table 1.7 (R21): `SKEW_US`. Reset 0. -/
  skew : Int := 0
  /-- 01 Table 1.7 (R21): `OVERRUNS`. Reset 0. -/
  overruns : Nat := 0
  /-- 01 R35: zone-to-core map, one core number per zone; none while the map is empty. Reset zone z on core z / 8. -/
  zmap : List (Option Nat) := (List.range 32).map fun z => some (z / 8)
  /-- 01 R24: zones still to be computed in this period. Reset empty. -/
  undone : List Nat := []
  /-- 01 R24: zones left uncomputed by a core that went offline in this period. Reset empty. -/
  missed : List Nat := []
  /-- 01 R37: model time at which the map became empty. Reset none. -/
  emptyAt : Option Nat := none
  /-- 01 R37: `NO_ZONE_CORE` has been logged for the present absence. Reset false. -/
  emptyLogged : Bool := false
  /-- 01 R36: the four zone cores. Reset four cores online. -/
  cores : List ZCore := List.replicate 4 {}
  deriving DecidableEq, Repr

/-! ### Events and the host link (chapters 02, 04, 05) -/

/-- One `Q-EVT` entry: two words and their stored parity bits (R41, R460). -/
structure EvtEntry where
  w0 : Word := 0#32
  w1 : Word := 0#32
  p0 : Bool := false
  p1 : Bool := false
  prod : Nat := 0
  deriving DecidableEq, Repr

/-- A `Q-EVT` producer's local buffer (R45). -/
structure EvtProd where
  /-- 02 R45: held events, oldest first, at most 8. Reset empty. -/
  held : List EvtEntry := []
  /-- 01 R29: events raised between tc and the Changeover, held until `Q-EVT` has drained, oldest first; they share the buffer. Reset empty. -/
  late : List EvtEntry := []
  /-- 02 R45: events counted and not sent. Reset 0. -/
  lost : Nat := 0
  /-- 01 Table 1.5 (R18): what stands in the event crossing of depth 16 of Guard or of `DE` while `CORE` is lost, oldest first. Reset empty. -/
  cross : List EvtEntry := []
  deriving DecidableEq, Repr

/-- One entry of the host event log (Table 5.15). -/
structure LogEntry where
  code : Nat
  inst : Nat
  pri : Nat
  poisoned : Bool
  seqno : Nat
  timeS : Nat
  timeMs : Nat
  rsv : Nat
  arg : Nat
  deriving DecidableEq, Repr

/-- Statistics of one queue (Table 2.5). -/
structure QStat where
  /-- 02 Table 2.5 (R48): `HIGH_WATER`. Reset 0. -/
  high : Nat := 0
  /-- 02 Table 2.5 (R48): `OCCUPANCY`. Reset 0. -/
  occ : Nat := 0
  /-- 02 Table 2.5 (R48): `POISON_COUNT`. Reset 0. -/
  poison : Nat := 0
  /-- 02 Table 2.5 (R48): `UNDERRUN_COUNT`. Reset 0. -/
  underrun : Nat := 0
  /-- 02 Table 2.5 (R48): `CREDIT_STALLS`. Reset 0. -/
  stalls : Nat := 0
  /-- 02 Table 2.5 (R48): `OVF_EVENTS`. Reset 0. -/
  ovf : Nat := 0
  /-- 02 Table 2.5 (R48): `POISON_SEEN`. Reset false. -/
  poisonSeen : Bool := false
  /-- 02 Table 2.5 (R48): `UNDERRUN_SEEN`. Reset false. -/
  underSeen : Bool := false
  /-- 02 R43: the `UNDERRUN` event of this period has been logged. Reset false. -/
  underLogged : Bool := false
  deriving DecidableEq, Repr

/-- What an operator did: a key pressed, or an encoder turned by steps (R308, R309). -/
inductive PanelAct where
  | key (k : Nat)
  | enc (e : Nat) (steps : Int)
  deriving DecidableEq, Repr

/-- Who asked: a host-to-device slot, a node of the fabric with its transaction number, or the panel, whose actions stand in the same
order (R146, R308). -/
inductive Origin where
  | host (slot : Nat)
  | fabric (node xact : Nat)
  | panel (a : PanelAct)
  deriving DecidableEq, Repr

/-- A request in the order of execution (R106, R146). A relayed request carries its bytes; a host request is read from
its slot when it is taken. -/
structure Req where
  origin : Origin
  opcode : Nat := 0
  object : Nat := 0
  payload : List Byte := []
  /-- protocol version of a relayed request (R370) -/
  ver : Nat := 0
  deriving DecidableEq, Repr

/-- A request under way: header fields kept for its response. -/
structure ReqHdr where
  origin : Origin
  opcode : Nat
  seq : Nat
  object : Nat
  deriving DecidableEq, Repr

/-- A chunked window transfer (R118). -/
structure Xfer where
  hdr : ReqHdr
  desc : Nat
  stream : Nat          -- 0x100 + bank for DEP_LOAD
  /-- `SUB` of the stream -/
  sub : Nat
  toHost : Bool
  /-- bytes asked for; of a read, what the stream can still give -/
  total : Nat
  /-- `OFFSET` of a read of the trend ring, whose frames are read as they stand when they are sent (R215) -/
  off : Nat := 0
  /-- `FRAME_SEQ` of the frame that the trend stream begins with -/
  first : Nat := 0
  moved : Nat := 0
  chunks : Nat := 0
  data : List Byte := []          -- still to send, or gathered so far
  since : Nat := 0                -- model time at which the host got the chunk
  waitsHost : Bool := false
  deriving DecidableEq, Repr

/-- Requests whose response waits (R146) other than window transfers. -/
inductive WaitKind where
  | record (tag part : Nat)     -- answered when the tagged record write has its commit byte; bytes applied of a longer group, or 0
  | prove (gang : Nat) (since : Nat)
  | clear (fan : Nat)           -- `FAN_CLEAR`, answered when `DE` has executed it (R282)
  deriving DecidableEq, Repr

/-- The response of a relayed request, ready for Junction to send (R370). -/
structure Reply where
  node : Nat
  xact : Nat
  opcode : Nat
  object : Nat
  status : Nat
  detail : Nat
  data : List Byte
  deriving DecidableEq, Repr

/-- A waiting request. -/
structure Waiting where
  hdr : ReqHdr
  kind : WaitKind
  deriving DecidableEq, Repr

/-- The host link (chapter 04). -/
structure HostLink where
  /-- 04 Table 4.3: `START`. Reset true. -/
  start : Bool := true
  /-- 04 Table 4.3: `SLOT_ERR`. Reset false. -/
  slotErr : Bool := false
  /-- 04 Table 4.3: `SPI_ERR`. Reset false. -/
  spiErr : Bool := false
  /-- 04 Table 4.3: `OWN_ERR`. Reset false. -/
  ownErr : Bool := false
  /-- 04 Table 4.3: `LINK_LOST`. Reset false. -/
  linkLost : Bool := false
  /-- 04 Table 4.3: `GUARD_HOLD` as last seen, for `DB_MODE`. Reset false. -/
  holdSeen : Bool := false
  /-- 04 Table 4.3: `H2D_BUSY`. Reset 0. -/
  busy : Nat := 0
  /-- 04 Table 4.3: `DB_STATUS`, 13 bits. Reset 0. -/
  db : Nat := 0
  /-- 04 Table 4.3: `IRQ_MASK`. Reset 0x08FF. -/
  irqMask : Nat := 0x08FF
  /-- 04 Table 4.3: `HANDOVER_HI` and `HANDOVER_LO` as 64 bits. Reset 0. -/
  handover : Nat := 0
  /-- 04 Table 4.3: `WDESC_BASE`. Reset 0. -/
  wdescBase : Nat := 0
  /-- 04 Table 4.3: `WDESC_VALID`. Reset false. -/
  wdescValid : Bool := false
  /-- 04 Table 4.3: `ERR_CAUSE`. Reset 0. -/
  errCause : Nat := 0
  /-- 04 Table 4.3: `ERR_ADDR`. Reset 0. -/
  errAddr : Nat := 0
  /-- 04 Table 4.3, 4.12: `PROTO`. Reset 0. -/
  proto : Nat := 0
  /-- 04 Table 4.12 (R121): `SESSION`. Reset 0. -/
  session : Nat := 0
  /-- 04 Table 4.12 (R121): `SNAP_SKIPPED`. Reset 0. -/
  snapSkipped : Nat := 0
  /-- 04 Table 4.12 (R121): `LINK_LOSSES`. Reset 0. -/
  linkLosses : Nat := 0
  /-- 04 Table 4.12 (R121): `BAD_CHECKS`. Reset 0. -/
  badChecks : Nat := 0
  /-- 04 R120: model time of the last talk, µs. Reset 0. -/
  talkAt : Nat := 0
  /-- 04 Table 4.2 (R97): host-to-device slots, 8 × 256 bytes. Reset DESIGN CHOICE all 0 (log 3). -/
  h2d : Mem := []
  /-- 04 Table 4.2 (R97): device-to-host slots, 8 × 256 bytes. Reset DESIGN CHOICE all 0 (log 3). -/
  d2h : Mem := []
  /-- 04 R107: kept sequence and response bytes of each slot. Reset none. -/
  kept : List (Option (Nat × List Byte)) := List.replicate 8 none
  /-- 04 R106: requests taken and not yet executed, in order. Reset empty. -/
  reqs : List Req := []
  /-- 05 R146: requests whose responses wait. Reset empty. -/
  waiting : List Waiting := []
  /-- 13 R370: responses of relayed requests for Junction to send. Reset empty. -/
  replies : List Reply := []
  /-- 04 R118: window transfers under way. Reset empty. -/
  xfers : List Xfer := []
  /-- 01 Table 1.3: the shared window SRAM, 256 KiB. Reset DESIGN CHOICE all 0 (log 3). -/
  window : Mem := []
  /-- 04 R117: descriptor written last as a snapshot. Reset none. -/
  snapLast : Option Nat := none
  /-- 04 R116: per descriptor, general and DEVICE-owned without a request naming it since this period's t0 (1) or earlier (2). Reset 0. -/
  idle : List Nat := List.replicate 64 0
  /-- 04 R95: data bytes of the last read transaction, as driven to the host. Reset empty. -/
  lastRead : List Byte := []
  /-- 05 R141: lowest priority that sets `DB_EVT`. Reset 3. -/
  minPri : Nat := 3
  /-- 05 R150: host event log, oldest first, at most 1,024 entries. Reset empty. -/
  log : List LogEntry := []
  /-- 05 R150: `SEQNO` of the next log entry. Reset 1. -/
  seqno : Nat := 1
  deriving DecidableEq, Repr

/-- The general check-value unit at raw level (Table 2.9). -/
structure RawCrc where
  /-- 02 Table 2.9 (R55): `REFOUT`. Reset 1. -/
  refout : Bool := true
  /-- 02 Table 2.9 (R55): `REFIN`. Reset 1. -/
  refin : Bool := true
  /-- 02 Table 2.9 (R55): `WIDTH`. Reset 32. -/
  width : Nat := 32
  /-- 02 Table 2.9 (R55): `POLY`. Reset 0x04C1_1DB7. -/
  poly : Nat := 0x04C11DB7
  /-- 02 Table 2.9 (R55): `INIT`. Reset 0xFFFF_FFFF. -/
  init : Nat := 0xFFFFFFFF
  /-- 02 Table 2.9 (R55): `XOROUT`. Reset 0xFFFF_FFFF. -/
  xorout : Nat := 0xFFFFFFFF
  /-- 02 Table 2.9 (R55): `STATE`, the working register in normal form. Reset 0xFFFF_FFFF. -/
  reg : Nat := 0xFFFFFFFF
  deriving DecidableEq, Repr

/-! ### Driver engine, stages and `Q-CMD` (chapters 02, 05, 09, 10) -/

/-- What a `Q-CMD` entry asks of its stage. -/
inductive CmdAct where
  | set (v : F32)                 -- `VALUE` of Table 5.12
  | take (pct : Option Nat)       -- Guard: a value in %, none for the stage's safe value (R405, Table 15.2)
  | release                       -- Guard: handback (R406)
  | force (on : Bool)             -- forced full speed on a failed control point (R286)
  | safe                          -- `SB`: the stage's safe value, at Depot and Siding entry and at zone disable (R79, R417, R213)
  | freed                         -- `SB`: the direct command of the stage has ended (R139, R275)
  | clear                         -- `FAN_CLEAR` of `SB` (R282)
  | prove                         -- `VALVE_PROVE` of `SB` (R262)
  deriving DecidableEq, Repr

/-- The content of a `Q-CMD` entry. -/
structure CmdVal where
  stage : Stage
  act : CmdAct
  deriving DecidableEq, Repr

/-- A stage under direct command (R138, R139). -/
structure Direct where
  stage : Stage
  value : F32
  /-- end of `DURATION`, model time; none without a limit -/
  endAt : Option Nat
  deriving DecidableEq, Repr

/-- Where a valve gang stands (Table 9.8 `STATE`, less the states that follow from others). -/
inductive VSt where
  | off | defer | pullin | reg | decay
  deriving DecidableEq, Repr

/-- Why a stroke runs. -/
inductive Stroke where
  | cmd | prove | pulse | retry
  deriving DecidableEq, Repr

/-- One valve channel; the lowest channel of a gang carries the gang. -/
structure Valve where
  /-- 09 Table 9.8 (R267): state of the gang. Reset OFF. -/
  st : VSt := .off
  /-- 09 R261: latest executed command, `VALUE` in %. Reset 0. -/
  cmd : F32 := 0#32
  /-- 09 R262: latest non-zero set current in A. Reset none. -/
  lastSet : Option F32 := none
  /-- 09 Table 9.8: `I_SET`, the set current in force after limits, A. Reset 0.0. -/
  iset : F32 := 0#32
  /-- 09 R259: set current capped by f. Reset false. -/
  clamped : Bool := false
  /-- 01 R32: the lowest f, in eighths, since the latest command was executed. Reset 8. -/
  capF : Nat := 8
  /-- 09 R263, R267: `GANG` code under which `DE` still drives the channel after another `GANG` has taken effect (0 for a channel
  of such a gang other than its lowest); none when the configured gang holds. Reset none. -/
  drv : Option Nat := none
  /-- 09 R405: taken by Guard. Reset false. -/
  guard : Bool := false
  /-- 09 R244: integrator s. Reset 0.0. -/
  integ : F32 := 0#32
  /-- 09 R244: duty. Reset 0.0. -/
  duty : F32 := 0#32
  /-- 09 R244: the current i of the channel in its loop, A. Reset 0.0. -/
  i : F32 := 0#32
  /-- 06 R182: the latest centre sample with or without `MUXSETTLE`, the prior value of the next cycle, A. Reset 0.0. -/
  prior : F32 := 0#32
  /-- 09 R245: centre samples of the last 50 ms with their times, newest first. Reset empty. -/
  samples : List (Nat × F32) := []
  /-- 09 R245: end of the last pull-in, the phase origin of the dither. Reset 0. -/
  ditherAt : Nat := 0
  /-- 09 R249: start of the stroke, model time. Reset 0. -/
  startAt : Nat := 0
  /-- 09 R249: the stroke is a re-stroke and is not judged. Reset false. -/
  restroke : Bool := false
  /-- 09 R262, R264: what the stroke is for. Reset cmd. -/
  why : Stroke := .cmd
  /-- 09 R252: pull-in target I_t in A. Reset 0.0. -/
  target : F32 := 0#32
  /-- 09 R252: t_exp in ms; none when not defined. Reset none. -/
  texp : Option F32 := none
  /-- 09 R250: model time of the latest sample of the pull-in, or of its start. Reset 0. -/
  sampleAt : Nat := 0
  /-- 09 R246: currents of the bursts of a quad's sample so far. Reset empty. -/
  burst : List F32 := []
  /-- 09 R251: running maximum M. Reset 0.0. -/
  dipM : F32 := 0#32
  /-- 09 R251: candidate minimum and its time in µs. Reset none. -/
  dipCand : Option (F32 × Nat) := none
  /-- 09 R251: t_dip of the stroke under way in µs, once confirmed. Reset none. -/
  dipAt : Option Nat := none
  /-- 09 R252: t_p of the stroke under way in µs, once the target is reached. Reset none. -/
  peakAt : Option Nat := none
  /-- 09 R247: the decay runs through the freewheel path (R248). Reset false. -/
  slowDecay : Bool := false
  /-- 09 Table 9.2: verdict as `VERDICT` reports. Reset 0. -/
  verdict : Nat := 0
  /-- 09 R253: verdict of the stroke, kept while `REG_ERR` shows. Reset 0. -/
  strokeVerdict : Nat := 0
  /-- 09 Table 9.5: fault code. Reset 0. -/
  fault : Nat := 0
  /-- 09 R248: the mean clamp power of the channel has passed 0.5 W and not yet fallen below 0.4 W. Reset false. -/
  clampLim : Bool := false
  /-- 09 R260: model times of the low-side trips of the last 60 s. Reset empty. -/
  trips : List Nat := []
  /-- 09 R260: time of the open-load trip or of its last retry. Reset 0. -/
  openAt : Nat := 0
  /-- 09 Table 9.8: `TTP_US`. Reset 0. -/
  ttp : Nat := 0
  /-- 09 Table 9.8: `DIP_US`. Reset 0. -/
  dip : Nat := 0
  /-- 09 R256: start of the wait of a deferred stroke. Reset 0. -/
  deferAt : Nat := 0
  /-- 09 Table 9.8: `DEFER`. Reset false. -/
  deferred : Bool := false
  /-- 09 Table 9.8: `DEFER_US`. Reset 0. -/
  deferUs : Nat := 0
  /-- 09 Table 9.8: `DEFER_COUNT`. Reset 0. -/
  deferCount : Nat := 0
  /-- 09 R256: `VALVE_DEFER` has been logged in this period. Reset false. -/
  deferLog : Bool := false
  /-- 09 Table 9.8: `FAILS`. Reset 0. -/
  fails : Nat := 0
  /-- 09 Table 9.8: `STROKES`. Reset 0. -/
  strokes : Nat := 0
  /-- 09 Table 9.8: the stroke has counted in `FAILS`. Reset false. -/
  failed : Bool := false
  /-- 09 R246: the quad steps down from peak to hold with its low sides off. Reset false. -/
  stepDown : Bool := false
  deriving DecidableEq, Repr

/-- One valve group. -/
structure VGroup where
  /-- 09 R256: deferred gangs in order, each with whether Guard commanded it. Reset empty. -/
  queue : List (Nat × Bool) := []
  /-- 09 Table 9.5: high side off under `HS_OCP` since; none while it may be on. Reset none. -/
  hsOff : Option Nat := none
  /-- 09 Table 9.11: `HS_LATCHED`. Reset false. -/
  latched : Bool := false
  /-- 09 Table 9.5: model times of the trips of the last 10 s. Reset empty. -/
  trips : List Nat := []
  /-- 09 Table 9.11: `HS_TRIPS`. Reset 0. -/
  hsTrips : Nat := 0
  /-- 09 R257: the recalled configuration failed its checks (fault `CONFIG`). Reset false. -/
  config : Bool := false
  deriving DecidableEq, Repr

/-- Fan states (Table 10.8), less unpowered and Guard, which follow from others. -/
inductive FSt where
  | off | startWait | spinup | running | tachLost | stall | fault | openLoad | ocp | ocpLatched
  deriving DecidableEq, Repr

/-- The `STATE` code of a fan state. -/
def FSt.code : FSt → Nat
  | .off => 0 | .startWait => 1 | .spinup => 2 | .running => 3 | .tachLost => 4 | .stall => 5
  | .fault => 6 | .openLoad => 7 | .ocp => 8 | .ocpLatched => 9

/-- One fan. -/
structure Fan where
  /-- 10 Table 10.8 (R295): state. Reset OFF. -/
  st : FSt := .off
  /-- 10 R275: latest executed command in rpm. Reset 0. -/
  cmd : F32 := 0#32
  /-- 10 Table 10.8: `TARGET`, n_tgt in force after the cap. Reset 0.0. -/
  target : F32 := 0#32
  /-- 10 R275: target reduced by the cap. Reset false. -/
  clamped : Bool := false
  /-- 10 R405: taken by Guard, with Guard's target in rpm. Reset none. -/
  guard : Option F32 := none
  /-- 10 R286: forced full speed by its control point. Reset false. -/
  forceCtrl : Bool := false
  /-- 10 R288: forced full speed by the critical comparator. Reset false. -/
  forceCrit : Bool := false
  /-- 10 R414: forced on by its override line. Reset false. -/
  line : Bool := false
  /-- 10 R276: the fan may run again only from its next command (R62). Reset false. -/
  awaitCmd : Bool := false
  /-- 10 R269: model time of the last switch-on from off; none while off. Reset none. -/
  onAt : Option Nat := none
  /-- 10 R272: the stage is on at this moment. Reset false. -/
  stageOn : Bool := false
  /-- 10 R273: model time of the last switch-on of the stage within LF switching. Reset 0. -/
  pulseAt : Nat := 0
  /-- 10 R272: start of the LF period under way. Reset 0. -/
  lfAt : Nat := 0
  /-- 10 R281: Profile L `FAULT` is latched. Reset false. -/
  faultL : Bool := false
  /-- 10 R279: start of spin-up. Reset 0. -/
  spinAt : Nat := 0
  /-- 10 R276: the kick runs. Reset false. -/
  kick : Bool := false
  /-- 10 R276: n_ref in rpm. Reset 0. -/
  nRef : F32 := 0#32
  /-- 10 Table 10.8: `SPEED`. Reset NaN. -/
  n : F32 := 0x7FC00000#32
  /-- 10 R276: integrator s. Reset 0. -/
  s : F32 := 0#32
  /-- 10 R276: duty d. Reset 0. -/
  d : F32 := 0#32
  /-- 10 R276: model time of the last run of the loop. Reset 0. -/
  loopAt : Nat := 0
  /-- 10 R276: the loop is open, and closes without a bump at the next sample. Reset false. -/
  loopOpen : Bool := false
  /-- 10 Table 10.8: `I_ON`, A. Reset 0.0. -/
  iOn : F32 := 0#32
  /-- 10 R269: current bursts of the last `SPEED_MS`, newest first. Reset empty. -/
  bursts : List (Nat × F32) := []
  /-- 10 R279: `I_ON` at or above `I_LR_MA` since. Reset none. -/
  lrSince : Option Nat := none
  /-- 10 R283: `I_ON` below `OPEN_MA` since. Reset none. -/
  openSince : Option Nat := none
  /-- 10 R283: `I_ON` at or above 2 × `OPEN_MA` since. Reset none. -/
  backSince : Option Nat := none
  /-- 10 R273: first accepted rising edge of the tach period that is open. Reset none. -/
  edgeAt : Option Nat := none
  /-- 10 R279: an edge was accepted since the switch-on. Reset false. -/
  edgeSeen : Bool := false
  /-- 10 R273: tach periods completed in the interval, and their sum in µs. Reset 0. -/
  periods : Nat := 0
  periodSum : Nat := 0
  /-- 10 R273: start of the speed interval. Reset 0. -/
  ivAt : Nat := 0
  /-- 10 R274: the stretch of this interval is still to be applied. Reset false. -/
  stretchDue : Bool := false
  /-- 10 R274: a stretched pulse runs, with its accepted edges. Reset none. -/
  stretch : Option Nat := none
  /-- 10 R274: nominal on-time of the periods that the stretched pulse covers, µs. Reset 0. -/
  nominal : Nat := 0
  /-- 10 R274: on-time to be repaid, µs. Reset 0. -/
  excess : Nat := 0
  /-- 10 R272: end of the pulse under way; none while the stage is on without an end. Reset none. -/
  pulseEnd : Option Nat := none
  /-- 10 R283: consecutive intervals without a speed sample. Reset 0. -/
  missed : Nat := 0
  /-- 10 R283: `I_ON` over the last two intervals without a sample. Reset 0.0. -/
  missI : F32 := 0#32
  /-- 10 R283: `I_ON` of the interval before. Reset 0.0. -/
  prevI : F32 := 0#32
  /-- 10 R277: the state has been `RUNNING` without a break since. Reset none. -/
  runSince : Option Nat := none
  /-- 10 R277: every sample has lain within 5 % of the target since (for `PPR` 0, the target unchanged since). Reset none. -/
  steadySince : Option Nat := none
  /-- 10 Table 10.10: bins 1–8: learned on-current and count. Reset 0.0, 0. -/
  sig : List (F32 × Nat) := List.replicate 8 (0#32, 0)
  /-- 10 R277: running towards the next save, ms. Reset 0. -/
  sigRun : Nat := 0
  /-- 10 Table 10.8: `SIG_DEV`. Reset false. -/
  sigDev : Bool := false
  /-- 10 R281: Profile L: speed below `N_LIMIT_RPM` since. Reset none. -/
  slowSince : Option Nat := none
  /-- 10 R281: duty d as `FAULT` latched it. Reset 0. -/
  dHeld : F32 := 0#32
  /-- 10 R274: start of the pulse that is stretched. Reset 0. -/
  strAt : Nat := 0
  /-- 10 R275, R32: the lowest f of the fan's group since its last executed command, in eighths. Reset 8. -/
  capF : Nat := 8
  /-- 10 Table 10.8: `STALL_CAUSE`. Reset 0. -/
  stallCause : Nat := 0
  /-- 10 R280: stalls since the last reset of the back-off. Reset 0. -/
  backoff : Nat := 0
  /-- 10 R280: end of the stall wait. Reset 0. -/
  waitEnd : Nat := 0
  /-- 10 R294: time left of the wait while an override line pauses it. Reset none. -/
  waitLeft : Option Nat := none
  /-- 10 Table 10.8: `RETRIES`. Reset 0. -/
  retries : Nat := 0
  /-- 10 Table 10.8: `STALLS`. Reset 0. -/
  stalls : Nat := 0
  /-- 10 Table 10.4: model times of the `OCP` trips of the last 60 s, newest first. Reset empty. -/
  trips : List Nat := []
  /-- 10 Table 10.8: `OCP_TRIPS`. Reset 0. -/
  ocpTrips : Nat := 0
  /-- 10 Table 10.8: `STRETCH_FAILS`. Reset 0. -/
  stretchFails : Nat := 0
  /-- 10 Table 10.8: `RUN_S` as accumulated on-time in µs. Reset 0. -/
  onUs : Nat := 0
  /-- 10 Table 10.8: model time up to which on-time has been counted. Reset 0. -/
  onFrom : Nat := 0
  /-- 10 R271: model time since which the fan waits to start. Reset 0. -/
  waitAt : Nat := 0
  /-- 10 R271: `FAN_START_WAIT` has been logged in this period. Reset false. -/
  waitLog : Bool := false
  /-- 10 R286: the control point has been `BAD` or `STALE` since. Reset none. -/
  ctrlBad : Option Nat := none
  /-- 10 R286: the control point was `GOOD` at the last t0. Reset false. -/
  ctrlGood : Bool := false
  /-- 10 R286: `SB` has sent the forced full speed. Reset false. -/
  ctrlSent : Bool := false
  deriving DecidableEq, Repr

/-- One analog output. -/
structure Ao where
  /-- 10 Table 10.12: `ENABLED`. Reset false. -/
  enabled : Bool := false
  /-- 10 R289: commanded voltage. Reset 0.0. -/
  cmd : F32 := 0#32
  /-- 10 Table 10.12: `V_SET`, the value being driven. Reset 0.0. -/
  v : F32 := 0#32
  /-- 10 Table 10.12: `V_MEAS`. Reset 0.0. -/
  meas : F32 := 0#32
  /-- 10 Table 10.12: `AO_FAULT`. Reset false. -/
  fault : Bool := false
  /-- 10 Table 10.12: `FAULTS`. Reset 0. -/
  faults : Nat := 0
  /-- 10 R405: taken by Guard. Reset false. -/
  guard : Bool := false
  /-- 10 R284: model time of the last readback result. Reset 0. -/
  measAt : Nat := 0
  /-- 10 R289: model time of the last slew step. Reset 0. -/
  slewAt : Nat := 0
  /-- 10 R291: the readback has differed by more than `FAULT_MV` since; none while it is within. Reset none. -/
  devSince : Option Nat := none
  /-- 10 R291: the readback has been within `FAULT_MV` of the driven value since; none while it is off. Reset none. -/
  okSince : Option Nat := none
  deriving DecidableEq, Repr

/-- The manual driver pulse unit (Table 9.6). -/
structure Pulse where
  /-- 09 Table 9.6: `BUSY`. Reset false. -/
  busy : Bool := false
  /-- 09 Table 9.6: `TARGET`. Reset 0. -/
  target : Nat := 0
  /-- 09 R264: `TARGET` as `FIRE` took it, while `BUSY`. Reset 0. -/
  run : Nat := 0
  /-- 09 Table 9.6: `FAST_DECAY`. Reset true. -/
  fast : Bool := true
  /-- 09 Table 9.6: `CAPTURE`. Reset true. -/
  capture : Bool := true
  /-- 09 Table 9.6: `PULSE_US`. Reset 1000. -/
  us : Nat := 1000
  /-- 09 Table 9.6: `I_LIMIT_MA`. Reset 500. -/
  lim : Nat := 500
  /-- 09 Table 9.6: `SAMPLE_US`. Reset 50. -/
  sampleUs : Nat := 50
  /-- 09 Table 9.6: `RESULT`. Reset 0. -/
  result : Nat := 0
  /-- 09 Table 9.6: `VERDICT`. Reset 0. -/
  verdict : Nat := 0
  /-- 09 Table 9.6: `I_MAX_MA`. Reset 0. -/
  iMax : Nat := 0
  /-- 09 Table 9.6: `TTP_US`. Reset 0xFFFF. -/
  ttp : Nat := 0xFFFF
  /-- 09 Table 9.6: `DIP_US`. Reset 0. -/
  dip : Nat := 0
  /-- 09 Table 9.6: what a burst has given of `SAMPLE0`–`SAMPLE31`; none where none fell on the instant. Reset none of each. -/
  samples : List (Option Nat) := List.replicate 32 none
  /-- 09 R264: start of the pulse whose capture `SAMPLE0`–`SAMPLE31` show; none without a capture. Reset none. -/
  capAt : Option Nat := none
  /-- 09 Table 9.6: `SAMPLE_US` as that pulse found it. Reset 50. -/
  capUs : Nat := 50
  /-- The model's own: where its free values begin (log 67). Reset 0. -/
  capFree : Nat := 0
  /-- 09 R264: the pulse runs since; none while it waits or none runs. Reset none. -/
  startAt : Option Nat := none
  /-- 09 R264: the pulse has ended and its decay runs. Reset false. -/
  decaying : Bool := false
  deriving DecidableEq, Repr

/-- A `VALVE_PROVE` under way (R262). -/
structure Prove where
  gang : Nat
  /-- model time of the request -/
  since : Nat
  /-- `DE` has executed the request -/
  live : Bool := false
  /-- the stroke has started -/
  started : Bool := false
  /-- end of the pull-in -/
  pullEnd : Option Nat := none
  /-- the response has been given -/
  answered : Bool := false
  deriving DecidableEq, Repr

/-- Everything the driver engine and `SB`'s direct commands hold. -/
structure Act where
  /-- 02 Table 2.2 (R44): `Q-CMD` rings P0–P3. Reset empty. -/
  qCmd : List (List (QE CmdVal)) := List.replicate 4 []
  /-- 02 Table 2.2 (R44): commands that wait for a `Q-CMD` credit, with their ring. Reset empty. -/
  cmdWait : List (Nat × QE CmdVal) := []
  /-- 05 R138: stages under direct command. Reset empty. -/
  direct : List Direct := []
  /-- 09 Table 5.1: `VCH0`–`VCH23`. Reset off. -/
  valves : List Valve := List.replicate 24 {}
  /-- 09 Table 5.1: `G0`–`G3`. Reset idle. -/
  groups : List VGroup := List.replicate 4 {}
  /-- 10 Table 5.1: `FAN0`–`FAN11`. Reset off. -/
  fans : List Fan := List.replicate 12 {}
  /-- 10 R271: fans that wait to start, in the order of their commands. Reset empty. -/
  fanWait : List Nat := []
  /-- 10 Table 5.1: `AO0`–`AO15`. Reset disabled. -/
  aos : List Ao := List.replicate 16 {}
  /-- 09 R264: manual driver pulse unit. Reset as Table 9.6. -/
  pulse : Pulse := {}
  /-- 09 R262: `VALVE_PROVE` requests under way. Reset empty. -/
  proves : List Prove := []
  /-- 10 R288: critical comparator armed. Reset false. -/
  critArmed : Bool := false
  /-- 10 Table 10.11: `CRIT_ACTIVE`. Reset false. -/
  critOn : Bool := false
  /-- 10 Table 10.11: `CRIT_C`, the threshold in force, °C. Reset 140 (CT code 7, log 4). -/
  critC : Nat := 140
  /-- 10 R288: the comparator's state as `DE` has read and logged it. Reset false. -/
  critSeen : Bool := false
  /-- 10 Table 10.11: `CRIT_TRIPS`. Reset 0. -/
  critTrips : Nat := 0
  /-- 14 R392: assertions of the comparator that the counter of region 6 has still to count. Reset 0. -/
  critDue : Nat := 0
  /-- 09 R254: model time of the last 250 ms report. Reset 0. -/
  reportAt : Nat := 0
  deriving DecidableEq, Repr

/-! ### Sensor front end (chapter 06) -/

/-- The content of a `Q-SMP` entry: source, `SETTLE` count, error flag, raw value. -/
inductive SmpVal where
  | ai (pt settle : Nat) (code : Int)
  | ci (pt ratio : Nat)
  | i2c (leader : Nat) (data : List Byte) (err : Bool)
  | di (input : Nat) (state : Bool) (rise both : Nat)
  | de (idx : Nat) (v : F32) (err : Bool) (verdict : Nat)   -- `verdict`: what a valve's error entry carries (R260), else 0
  deriving DecidableEq, Repr

/-- One of the nine resources of the sequencer: where its sublist stands (R159). -/
structure Lane where
  /-- 06 R159: number of the point from which the next pass resumes. Reset 0. -/
  next : Nat := 0
  /-- 06 R159: steps of the current pass still to be considered. Reset 0. -/
  left : Nat := 0
  /-- 06 R159: the pass of this period was stopped by the cut-off. Reset false. -/
  stopped : Bool := false
  /-- 06 R160: model time until which the resource is busy. Reset 0. -/
  busy : Nat := 0
  /-- 06 R160, R48: the next step waits for credits and has been counted in `CREDIT_STALLS`. Reset false. -/
  delayed : Bool := false
  deriving DecidableEq, Repr

/-- A sigma-delta modulator. -/
structure Modu where
  lane : Lane := {}
  /-- 06 R160: point of the step that runs. Reset none. -/
  step : Option Nat := none
  /-- 06 R160: start of that step, model time in µs. Reset 0. -/
  startAt : Nat := 0
  /-- 06 R157: outputs delivered in the step. Reset 0. -/
  outs : Nat := 0
  /-- 06 R160: `Q-SMP` credits reserved and not yet used. Reset 0. -/
  resv : Nat := 0
  /-- 06 R160: ring of the reserved credits, 1 or 2. Reset 2. -/
  ring : Nat := 2
  /-- 06 R157: `SETTLE` marks still to come in continuous mode. Reset 0. -/
  settle : Nat := 0
  /-- 06 R158: the self-calibration runs. Reset false. -/
  cal : Bool := false
  /-- 06 R158: model time of the last calibration since the main domain started; none before the first. Reset none. -/
  calAt : Option Nat := none
  /-- 06 R158: a due calibration waits for the next t0. Reset false. -/
  calWait : Bool := false
  /-- 06 R163: a triggered pass runs. Reset false. -/
  pass : Bool := false
  /-- 06 R163: a trigger is pending. Reset false. -/
  trig : Bool := false
  /-- 06 R163: triggers lost in this period. Reset 0. -/
  trigLost : Nat := 0
  /-- 06 R177: `SRC_TYPE`, `SRC_INDEX` and `SRC_CFG` of the running step as they were at its start. Reset 0. -/
  src : Nat × Nat × Nat := (0, 0, 0)
  /-- 06 R162: the running step converts in continuous mode. Reset false. -/
  cont : Bool := false
  deriving DecidableEq, Repr

/-- What an I²C controller puts on its bus (R165): a byte sent, bytes read, a wait in ms, recovery clocks. -/
inductive I2cSym where
  | start
  | send (b : Byte)
  | read (n : Nat)
  | stop
  | wait (ms : Nat)
  | clocks (n : Nat)
  deriving DecidableEq, Repr

/-- A filtered digital input (R168). -/
structure DigIn where
  /-- 06 R168: level of the latest samples. Reset false. -/
  raw : Bool := false
  /-- 06 R168: consecutive samples at that level, up to 255. Reset 0. -/
  run : Nat := 0
  /-- 06 R168: model time of the latest sample in µs. Reset 0. -/
  at_ : Nat := 0
  /-- 06 R168: filtered state. Reset false. -/
  state : Bool := false
  /-- 06 R168: rising filtered edges, modulo 16,777,216. Reset 0. -/
  rise : Nat := 0
  /-- 06 R168: filtered edges, modulo 16,777,216. Reset 0. -/
  both : Nat := 0
  /-- 06 R168: the input has posted its first entry since the start (log 21). Reset false. -/
  seen : Bool := false
  /-- 06 R168: a change waits for a `Q-SMP` credit. Reset false. -/
  wait : Bool := false
  deriving DecidableEq, Repr

/-- A point of the point table. -/
structure Point where
  /-- 06 Table 6.6: `VALUE`. Reset 0x7FC0_0000. -/
  y : F32 := 0x7FC00000#32
  /-- 06 Table 6.6: `STATUS`. Reset STALE. -/
  stat : PStat := .stale
  /-- 06 Table 6.6: `CAUSE`. Reset 6. -/
  cause : Nat := 6
  /-- 06 Table 6.6: `RAW`, the last input quantity. Reset 0x7FC0_0000. -/
  raw : F32 := 0x7FC00000#32
  /-- 06 Table 6.6: `SAMPLES`. Reset 0. -/
  samples : Nat := 0
  /-- 06 Table 6.6: `REJECTS`. Reset 0. -/
  rejects : Nat := 0
  /-- 06 Table 6.6: `SETTLE_DISCARDS`. Reset 0. -/
  settles : Nat := 0
  /-- 06 R173: last accepted value. Reset 0x7FC0_0000. -/
  lastV : F32 := 0x7FC00000#32
  /-- 06 R174: model time of the last accepted value; none before the first. Reset none. -/
  accAt : Option Nat := none
  /-- 06 R172: accepted values since the last filter restart, newest first, at most three. Reset empty. -/
  hist : List F32 := []
  /-- 06 R172: the filter restarts at the next accepted value. Reset true. -/
  restart : Bool := true
  /-- 06 Table 6.5: consecutive rate-check failures. Reset 0. -/
  rateRun : Nat := 0
  /-- 06 Table 6.5: error entries in a row. Reset 0. -/
  failRun : Nat := 0
  /-- 06 Table 6.5: in-range entries in a row after `BAD`. Reset 0. -/
  goodRun : Nat := 0
  /-- 06 Table 6.5: the point was last judged `BAD` and has not recovered (log 22). Reset false. -/
  wasBad : Bool := false
  /-- 06 R175: model time of the last publication. Reset none. -/
  pubAt : Option Nat := none
  /-- 06 R175: a filtered value not yet published. Reset false. -/
  fresh : Bool := false
  /-- 06 R170: latest voltage of an analog point. Reset 0x7FC0_0000. -/
  volt : F32 := 0x7FC00000#32
  /-- 06 R170: `PERIOD_COUNT` of the last accepted sample. Reset none. -/
  accPer : Option Nat := none
  /-- 03 R86: `STALE` by a restart alone, which its zones have not been told of (log 68). Reset false. -/
  byStart : Bool := false
  deriving DecidableEq, Repr

/-- A burst of a fast current-sense pair with the configuration it was started under (R181, R184). -/
structure SarBurst where
  point : Nat
  use : SarUse
  avg : Nat
  acq : Nat
  /-- model time at which its result is written -/
  endAt : Nat
  deriving DecidableEq, Repr

/-- A fast current-sense pair. -/
structure SarPair where
  /-- 06 R183: data register, in code units × 2^`AVG` bits of fraction. Reset DESIGN CHOICE 0 (log 4). -/
  data : Nat := 0
  /-- 06 R181: `AVG` of the burst that wrote the data register. Reset 0. -/
  avg : Nat := 0
  /-- 06 R183: sense point of the data register. Reset 0. -/
  point : Nat := 0
  /-- 06 R183: a result waits to be read. Reset false. -/
  full : Bool := false
  /-- 06 R183: `OVR` flag. Reset false. -/
  ovr : Bool := false
  /-- 06 R182: `MUXSETTLE` flag of the data register. Reset false. -/
  mux : Bool := false
  /-- 06 R181, R182: the burst that runs, or whose delay runs. Reset none. -/
  busy : Option SarBurst := none
  /-- 06 R182: point of the previous burst. Reset none. -/
  last : Option Nat := none
  /-- 06 Table 6.14: `TRIG_LOST`. Reset 0. -/
  lost : Nat := 0
  /-- 06 Table 6.14: `OVR_COUNT`. Reset 0. -/
  ovrs : Nat := 0
  /-- 06 R183: triggers lost in this period. Reset 0. -/
  lostPer : Nat := 0
  /-- 06 R183: results overwritten in this period. Reset 0. -/
  overPer : Nat := 0
  deriving DecidableEq, Repr

/-- The sensor front end. -/
structure Sense where
  /-- 02 Table 2.2 (R44): `Q-SMP` rings P0–P3. Reset empty. -/
  qSmp : List (List (QE SmpVal)) := List.replicate 4 []
  /-- 02 R46: the driver-result crossing, at most 32 entries. Reset empty. -/
  cross : List (QE SmpVal) := []
  /-- 02 R46: `DE`'s result table: results not yet in the crossing, by result index, in the order first written. Reset empty. -/
  table : List (Nat × F32 × Bool × Nat) := []
  /-- 06 R153: the four modulators. Reset idle. -/
  mods : List Modu := List.replicate 4 {}
  /-- 06 R159: the capacitance converter's sublist. Reset idle. -/
  cap : Lane := {}
  /-- 06 R159: the four I²C buses' sublists. Reset idle. -/
  i2c : List Lane := List.replicate 4 {}
  /-- 06 R165: the latest transaction of each bus. Reset empty. -/
  i2cTx : List (List I2cSym) := List.replicate 4 []
  /-- 06 R168: `DI0`–`DI15`. Reset low, counts 0. -/
  di : List DigIn := List.replicate 16 {}
  /-- 06 Table 5.1: `P0`–`P159`. Reset as R176. -/
  pts : List Point := List.replicate 160 {}
  /-- 06 R180: `CS0`–`CS5`. Reset idle. -/
  sar : List SarPair := List.replicate 6 {}
  /-- 06 Table 6.11: `SEQ_TRIG_LOST`. Reset 0. -/
  trigLost : Nat := 0
  /-- 06 Table 6.11: `SEQ_SKIPS`. Reset 0. -/
  skips : Nat := 0
  /-- 06 Table 6.11: `I2C_ERRORS` per bus. Reset 0. -/
  i2cErr : List Nat := List.replicate 4 0
  deriving DecidableEq, Repr

/-! ### Zones and loops (chapter 07) -/

/-- A plan item for one zone (R234, R235): whether the zone is in plan control, the plan's temperature setpoint and the
command of each input in %, none where the plan does not drive it. -/
structure PlanItem where
  inPlan : Bool
  sp : F32
  cmds : List (Option F32)
  deriving DecidableEq, Repr

/-- The content of a `Q-PNT` item. -/
inductive PntVal where
  | point (p : Nat) (y : F32) (stat : PStat) (cause : Nat)
  | plan (z : Nat) (item : PlanItem)
  deriving DecidableEq, Repr

/-- A zone-side point entry (R192). -/
structure ZEntry where
  y : F32 := 0x7FC00000#32
  stat : PStat := .stale
  cause : Nat := 6
  lastGood : F32 := 0x7FC00000#32
  poisoned : Bool := false
  deriving DecidableEq, Repr

/-- One actuator input of a zone. -/
structure Inp where
  /-- 07 R210: last command issued by the zone, in %; none before the first. Reset none. -/
  u : Option F32 := none
  /-- 07 Table 7.17: last value sent to the stage. Reset 0. -/
  val : F32 := 0#32
  /-- 07 R211: bound B latched at t0, in %. Reset 100 (`BOUNDS` 0x64). -/
  b : F32 := 0x42C80000#32
  /-- 08 R228: B as it was latched at the zone's last computation, in %. Reset 100. -/
  bComp : F32 := 0x42C80000#32
  /-- 07 R211: `BOUND_FLOOR` has been logged for the present absence. Reset false. -/
  floor : Bool := false
  /-- 07 R212: the input lacked proof in the previous period. Reset false. -/
  unproven : Bool := false
  /-- 07 R212: consecutive unproven periods. Reset 0. -/
  unprovenRun : Nat := 0
  /-- 07 R212: `ACT_UNPROVEN` has been logged. Reset false. -/
  unprovenLog : Bool := false
  /-- 08 R236: last proven value of the input, in %. Reset 0. -/
  proven : F32 := 0#32
  /-- 07 R210: the last command was reduced by B. Reset false. -/
  clamped : Bool := false
  /-- 07 R210: `PE` has commanded the input in this period. Reset false. -/
  byPlan : Bool := false
  /-- 07 R212: command in force at the stage at the end of the previous period was non-zero. Reset false. -/
  wasOn : Bool := false
  /-- 07 R212: the command in force at the stage at the end of the previous period, in %. Reset 0. -/
  endVal : F32 := 0#32
  deriving DecidableEq, Repr

/-- The presence estimator of a zone. -/
structure Presence where
  /-- 07 R196: the estimator starts from L0 at the next computation. Reset true. -/
  fresh : Bool := true
  /-- 07 Table 7.7: `L`. Reset L0 (while `fresh`, the group reads L0). -/
  l : F32 := 0#32
  /-- 07 Table 7.7: `P`. Reset `P_PRIOR` (while `fresh`, the group reads `P_PRIOR`). -/
  p : F32 := 0#32
  /-- 07 Table 7.7: `OCCUPIED`. Reset false. -/
  occ : Bool := false
  /-- 07 Table 7.7: model time at which `OCCUPIED` last changed. Reset 0. -/
  since : Nat := 0
  /-- 14 Table 14.9: time occupied not yet counted in `OCC_S_LIFE`, µs. Reset 0. -/
  occUs : Nat := 0
  /-- 14 Table 14.9: model time up to which occupied time has been counted. Reset 0. -/
  occMark : Nat := 0
  /-- 07 R195: end of the open door window. Reset none. -/
  doorEnd : Option Nat := none
  /-- 07 R195: a door window has ended without motion and its evidence is still to be removed. Reset false. -/
  doorOut : Bool := false
  /-- 07 R195: motion seen in the window. Reset false. -/
  motion : Bool := false
  /-- 07 R195: motion counts at the previous computation. Reset none. -/
  pir0 : Option F32 := none
  pir1 : Option F32 := none
  /-- 07 R195: door value at the previous computation. Reset none. -/
  door : Option F32 := none
  /-- 07 R195: CO2 ring: model time and value, oldest first, at most 16. Reset empty. -/
  co2 : List (Nat × F32) := []
  /-- 07 R195: panel action since the previous computation. Reset false. -/
  panel : Bool := false
  /-- 07 R195: `PRES_INPUT_BAD` has been logged. Reset false. -/
  badLog : Bool := false
  /-- 07 Table 7.7: `EV_PIR`, `EV_CO2_UP`, `EV_CO2_DOWN`, `EV_PANEL`, `EV_DOOR` as bits 4–0. Reset 0. -/
  ev : Nat := 0
  deriving DecidableEq, Repr

/-- One zone. -/
structure Zone where
  pres : Presence := {}
  /-- 07 R192: zone-side entries by point number. Reset empty. -/
  entries : List (Nat × ZEntry) := []
  /-- 07 R192: latest plan item. Reset none. -/
  plan : Option PlanItem := none
  /-- 07 R192: the plan item of this period was poisoned. Reset false. -/
  planBad : Bool := false
  inputs : List Inp := List.replicate 4 {}
  /-- 07 Table 7.18: `EFF_STATE`. Reset 1. -/
  eff : Nat := 1
  /-- 07 Table 7.18: `SCHED_STATE`. Reset 1. -/
  sched : Nat := 1
  /-- 07 Table 7.11: model time of the switch into COMFORT. Reset 0. -/
  comfortAt : Nat := 0
  /-- 07 Table 7.11: COMFORT released to STANDBY after the vacancy hold. Reset false. -/
  released : Bool := false
  /-- 07 R205: forced state. Reset none. -/
  ovr : Option Nat := none
  /-- 07 R205: end of the state override, model time. Reset 0. -/
  ovrEnd : Nat := 0
  /-- 07 Table 7.13: `SP_OFFSET`. Reset 0.0. -/
  offset : F32 := 0#32
  /-- 07 Table 7.13: `OFFSET_KEEP`. Reset false. -/
  keep : Bool := false
  /-- 07 Table 7.13: `OVR_SRC`. Reset 0. -/
  ovrSrc : Nat := 0
  /-- 07 Table 7.18: `T`. Reset NaN. -/
  t : F32 := 0x7FC00000#32
  /-- 07 R193: `NO_TEMP`. Reset false. -/
  noTemp : Bool := false
  /-- 07 R193: `T_ALT_IN_USE`. Reset false. -/
  tAlt : Bool := false
  /-- 07 Table 7.18: `BAND_HEAT`. Reset NaN. -/
  bandH : F32 := 0x7FC00000#32
  /-- 07 Table 7.18: `BAND_COOL`. Reset NaN. -/
  bandC : F32 := 0x7FC00000#32
  /-- 07 Table 7.18: `PLAN_SP`. Reset NaN. -/
  planSp : F32 := 0x7FC00000#32
  /-- 07 Table 7.18: `COMPUTED` of the current period. Reset false. -/
  computed : Bool := false
  /-- 07 Table 7.18: `CORE`. Reset 0. -/
  core : Nat := 0
  /-- 07 Table 7.18: `LAST_PERIOD`. Reset 0. -/
  lastPer : Nat := 0
  /-- 07 R187: zone instant of the last computation, model time. Reset none. -/
  lastAt : Option Nat := none
  /-- 07 Table 7.18: `NEXT_SWITCH`. Reset 0. -/
  nextSw : Nat := 0
  /-- 07 Table 7.18: `NEXT_STATE`. Reset 0. -/
  nextSt : Nat := 0
  /-- 07 R67: the first computation since a cold start, or since the enable, is still to come. Reset true. -/
  first : Bool := true
  /-- 07 R214: status words as of the last Changeover. Reset as the defaults of Table 7.18 (`OCC_P` `P_PRIOR` while empty). -/
  snap : List Word := []
  /-- 07 R186, R214: status words that step 8 of the zone's last computation wrote; empty before one. Reset empty. -/
  words : List Word := []
  deriving DecidableEq, Repr

/-- Loop states (Table 7.15). -/
inductive LState where
  | off | auto | track | hold | failed
  deriving DecidableEq, Repr

/-- The `L_STATE` code. -/
def LState.code : LState → Nat
  | .off => 0 | .auto => 1 | .track => 2 | .hold => 3 | .failed => 4

/-- One loop. -/
structure Loop where
  /-- 07 Table 7.16: `L_STATE`. Reset OFF. -/
  st : LState := .off
  /-- 07 Table 7.16: `OUT`. Reset 0.0. -/
  out : F32 := 0#32
  /-- 07 Table 7.16: `SP`. Reset NaN. -/
  sp : F32 := 0x7FC00000#32
  /-- 07 Table 7.16: `PV`. Reset NaN. -/
  pv : F32 := 0x7FC00000#32
  /-- 07 Table 7.16: `I_TERM`. Reset 0.0. -/
  i : F32 := 0#32
  /-- 07 R207: derivative term. Reset 0.0. -/
  d : F32 := 0#32
  /-- 07 R207: previous process value; none before the first. Reset none. -/
  pvPrev : Option F32 := none
  /-- 07 R193: the previous process value came from `T_ALT`. Reset false. -/
  alt : Bool := false
  /-- 07 Table 7.15: model time since which the process value is `BAD` or `STALE`. Reset none. -/
  badAt : Option Nat := none
  /-- 07 Table 7.16: `SAT_HI`. Reset false. -/
  satHi : Bool := false
  /-- 07 Table 7.16: `SAT_LO`. Reset false. -/
  satLo : Bool := false
  /-- 07 Table 7.16: `UNPROVEN`. Reset false. -/
  unproven : Bool := false
  /-- 07 Table 7.16: `BOUNDED`. Reset false. -/
  bounded : Bool := false
  deriving DecidableEq, Repr

/-- Zones, loops, schedules, trend. -/
structure Zones where
  /-- 07 Table 5.1: `Z0`–`Z31`. Reset as at a cold start. -/
  zn : List Zone := List.replicate 32 {}
  /-- 07 R206: `L0`–`L63`. Reset OFF. -/
  lp : List Loop := List.replicate 64 {}
  /-- 02 Table 2.2 (R44): `Q-PNT` rings of `ZC0`–`ZC3`. Reset empty. -/
  qPnt : List (List (QE PntVal)) := List.replicate 4 []
  /-- 02 Table 2.2 (R44): items that wait for a `Q-PNT` credit, with the ring they go to. Reset empty. -/
  pntWait : List (Nat × QE PntVal) := []
  /-- 07 R198: `SCHED_NO_TIME` has been logged since the start. Reset false. -/
  noTimeLog : Bool := false
  /-- 07 R215: trend ring, frames of 528 bytes, oldest first, at most 992. Reset empty. -/
  trend : List (List Byte) := []
  /-- 07 Table 7.21: `FRAME_SEQ` of the newest frame. Reset 0. -/
  frames : Nat := 0
  deriving DecidableEq, Repr

/-! ### Predictive engine (chapter 08) -/

/-- A neighbour entry's temperature source (R238, R374). -/
structure NbrState where
  /-- 08 R238: age of the boundary state, saturating at 255 as `BS_BACK` reports it (`NBR_STATE` shows at most 63); 255 at a start.
  Reset 255. -/
  age : Nat := 255
  /-- 08 R238: a fresh state arrived in this period. Reset false. -/
  fresh : Bool := false
  /-- 08 R238: the state counts as removed since a start or a write, with no event due. Reset true. -/
  start : Bool := true
  /-- 08 R374: temperature received last. Reset NaN. -/
  t : F32 := 0x7FC00000#32
  /-- 08 R374: plan blocks received last. Reset empty. -/
  blocks : List F32 := []
  /-- 08 R374: block length in s. Reset 0. -/
  blockS : Nat := 0
  /-- 08 R374: model time of the t0 of the solve that the blocks come from, below 0 for a solve before the model's time. Reset 0. -/
  solveAt : Int := 0
  /-- 08 R238, R374: what has arrived in this period, which `JN` publishes at the Changeover: temperature, and with a plan its blocks,
  their length in s and the solve's t0. Reset none. -/
  arrived : Option (F32 × Option (List F32 × Nat × Int)) := none
  deriving DecidableEq, Repr

/-- The running step means of one regressor: sum and count of the periods with a usable value. -/
structure StepMean where
  sum : F32 := 0#32
  n : Nat := 0
  deriving DecidableEq, Repr

/-- The running means of one step (R220, R223). -/
structure StepAcc where
  /-- periods computed in the step -/
  periods : Nat := 0
  /-- commands in force of the inputs -/
  u : List StepMean := List.replicate 4 {}
  /-- outdoor temperature -/
  yo : StepMean := {}
  /-- neighbour temperatures -/
  nb : List StepMean := List.replicate 4 {}
  /-- an input lacked proof in the step -/
  unproven : Bool := false
  deriving DecidableEq, Repr

/-- The model of one zone and its identification. -/
structure Model where
  /-- 08 Table 8.1 (R220): θ, 17 parameters. Reset 0.0. -/
  theta : List F32 := List.replicate 17 0#32
  /-- 08 R224: covariance, upper triangle row by row, 153 values. Reset 0.0, as `TRACE` reads (Table 8.9); a reset of the model sets it
  to `P0` × I (R226). -/
  p : List F32 := List.replicate 153 0#32
  /-- 08 Table 8.9: `N_REG`. Reset 0. -/
  nReg : Nat := 0
  /-- 08 R224: RMS squared. Reset 0.0. -/
  rms2 : F32 := 0#32
  /-- 08 Table 8.9: `SKIPPED`. Reset 0. -/
  skipped : Nat := 0
  /-- 08 Table 8.9: `OUTLIERS`. Reset 0. -/
  outliers : Nat := 0
  /-- 08 R224: run of outliers. Reset 0. -/
  run : Nat := 0
  /-- 08 Table 8.9: `STABLE`. Reset false. -/
  stable : Bool := false
  /-- 08 Table 8.9: `MODEL_OK`. Reset false. -/
  ok : Bool := false
  /-- 08 Table 8.9: `H_MS`. Reset 60,000. -/
  hMs : Nat := 60000
  /-- 08 R227: regressions since the last record write. Reset 0. -/
  sinceSave : Nat := 0
  /-- 08 R239: `ID_RESET` waits for the next regression. Reset false. -/
  resetDue : Bool := false
  /-- 08 R223: y at the step boundaries, newest first, none where it was NaN, since the zone's history began. Reset empty. -/
  ys : List (Option F32) := []
  /-- 08 R223: the step under way. Reset empty. -/
  acc : StepAcc := {}
  /-- 08 R223: the ended step whose regression is due. Reset none. -/
  due : Option StepAcc := none
  /-- 08 Table 8.10: `N_A` that the model was identified with. Reset 1. -/
  na : Nat := 1
  /-- 08 R226: the model was recalled at its default and is reset at ready. Reset true. -/
  recalledDflt : Bool := true
  /-- 08 R238: the neighbour entries. Reset removed. -/
  nbrs : List NbrState := List.replicate 4 {}
  deriving DecidableEq, Repr

/-- The plan a zone holds (R234, Table 8.11). -/
structure Plan where
  /-- predicted temperatures y_1 … y_N -/
  ys : List F32
  /-- per step, the inputs in % / 100; none where the input is not plan-driven -/
  us : List (List (Option F32))
  /-- `PERIOD_COUNT` at which step 0 began -/
  base : Nat
  deriving DecidableEq, Repr

/-- Plans with the grid of their solve. -/
structure PlanSet where
  /-- 13 R373: the plan of each zone. Reset none. -/
  plans : List (Option Plan) := List.replicate 32 none
  /-- 13 R373: number of steps of the solve. Reset 0. -/
  nSteps : Nat := 0
  /-- 13 R373: number of its blocks. Reset 0. -/
  nBlocks : Nat := 0
  /-- 13 R373: its step in ms. Reset 0. -/
  hMs : Nat := 0
  deriving DecidableEq, Repr

/-- A zone's solver variables, kept as the warm start (R230). -/
structure Warm where
  /-- 08 R230: x, zu, yu: input-major, blocks ascending. Reset empty (0 when none). -/
  x : List F32 := []
  zu : List F32 := []
  yu : List F32 := []
  /-- 08 R230: zt, yt by step. Reset empty. -/
  zt : List F32 := []
  yt : List F32 := []
  /-- 08 R230: block temperatures of the previous plan. Reset empty. -/
  yhat : List F32 := []
  deriving DecidableEq, Repr

/-- What a solve uses of one zone, taken at its t0 (R228–R230). -/
structure SolveZone where
  z : Nat
  na : Nat
  theta : List F32
  /-- x_0: y, Δy_{k−1}, … -/
  x0 : List F32
  /-- outdoor temperature; none when the term is removed -/
  yo : Option F32
  /-- per neighbour entry: none when the term is removed, a local zone of the solve, or block temperatures -/
  nbLocal : List (Option Nat)
  nbFlat : List (Option (List F32))
  /-- bounds per input and the current command, in % / 100 -/
  lo : List F32
  hi : List F32
  cur : List F32
  /-- the inputs that the plan drives -/
  driven : List Bool
  /-- energy weights -/
  ew : List F32
  /-- comfort band per step -/
  bh : List F32
  bc : List F32
  /-- zone temperature, the start of Ŷ -/
  y0 : F32
  deriving DecidableEq, Repr

/-- A solve under way. -/
structure Solve where
  startAt : Nat
  period : Nat
  nSteps : Nat
  nBlocks : Nat
  zones : List SolveZone
  deriving DecidableEq, Repr

/-- The predictive engine. -/
structure Predict where
  /-- 08 Table 8.6: `PE_STATE`. Reset 0. -/
  st : Nat := 0
  /-- 08 Table 8.6: `LAST_RESULT`. Reset 0. -/
  result : Nat := 0
  /-- 08 Table 8.6: `ZONES_PLANNED`. Reset 0. -/
  planned : Nat := 0
  /-- 08 Table 8.6: `ITER_LAST`. Reset 0. -/
  iter : Nat := 0
  /-- 08 Table 8.6: `SOLVE_US`. Reset 0. -/
  solveUs : Nat := 0
  /-- 08 Table 8.6: `ITER_EFF`. Reset 200. -/
  iterEff : Nat := 200
  /-- 08 Table 8.6: `LAST_SOLVE_PERIOD`. Reset 0. -/
  lastSolve : Nat := 0
  /-- 08 Table 8.6: `SOLVES`. Reset 0. -/
  solves : Nat := 0
  /-- 08 Table 8.6: `FAILS`. Reset 0. -/
  fails : Nat := 0
  /-- 08 Table 8.6: `R_T_MAX`. Reset 0.0. -/
  rT : F32 := 0#32
  /-- 08 Table 8.6: `R_D_MAX`. Reset 0.0. -/
  rD : F32 := 0#32
  /-- 08 Table 8.6: `IN_PLAN`. Reset 0. -/
  inPlan : List Bool := List.replicate 32 false
  /-- 08 Table 8.6: `FALLEN_BACK`. Reset 0. -/
  fallen : List Bool := List.replicate 32 false
  /-- 08 Table 8.9: `FAIL_RUN` per zone. Reset 0. -/
  failRun : List Nat := List.replicate 32 0
  /-- 08 Table 8.9: `PLAN_SRC` per zone. Reset 0. -/
  src : List Nat := List.replicate 32 0
  /-- 13 R373: plans and grid as they stood at t0 of the period, for the boundary states that describe the period before. Reset none. -/
  told : PlanSet := {}
  /-- 08 R234: plans held. Reset none. -/
  plans : List (Option Plan) := List.replicate 32 none
  /-- 08 Table 8.11: horizon and blocks of the last solve, and its h. Reset 48, 12, 60,000 (the defaults). -/
  nSteps : Nat := 48
  nBlocks : Nat := 12
  hMs : Nat := 60000
  /-- 08 R230: warm starts, preserved with the plan buffer. Reset empty. -/
  warm : List Warm := List.replicate 32 {}
  /-- 08 R230: the solve under way. Reset none. -/
  solve : Option Solve := none
  /-- 08 Table 5.1: the 32 models. Reset as R226. -/
  models : List Model := List.replicate 32 {}
  /-- 08 R227, R33: model blocks of stream `0x03` that wait, each with its zone, its bytes and the `PERIOD_COUNT` of its Changeover. Reset empty. -/
  blocks : List (Nat × List Byte × Nat) := []
  /-- 08 R222: latest `GOOD` value of `OUT_PT` since the main domain started. Reset none. -/
  outT : Option F32 := none
  deriving DecidableEq, Repr

/-! ### Operator panel (chapter 11) -/

/-- An encoder decoder. -/
structure Enc where
  /-- 11 Table 11.7: `COUNT`. Reset 0. -/
  count : Int := 0
  /-- 11 Table 11.7: `VELOCITY`. Reset 0.0. -/
  vel : F32 := 0#32
  /-- 11 R307: `COUNT` at the last velocity window's end. Reset 0. -/
  velCount : Int := 0
  /-- 11 R307: model time of that end. Reset 0. -/
  velAt : Nat := 0
  /-- 11 Table 11.7: `ERRORS`. Reset 0. -/
  errors : Nat := 0
  /-- 11 R306: `ENC_ERROR` has been logged in this period. Reset false. -/
  errLog : Bool := false
  /-- 11 Table 11.7: `A`, filtered. Reset false. -/
  a : Bool := false
  /-- 11 Table 11.7: `B`, filtered. Reset false. -/
  b : Bool := false
  /-- 11 R306: level of each line at its last sample. Reset false. -/
  rawA : Bool := false
  rawB : Bool := false
  /-- 11 R306: time in µs for which each line has held that level, 1,000 at most. Reset 0. -/
  runA : Nat := 0
  runB : Nat := 0
  /-- 11 R306: model time of the last sample. Reset 0. -/
  at_ : Nat := 0
  /-- 11 R307: counts not yet turned into steps. Reset 0. -/
  rem : Int := 0
  /-- 11 R307: steps since the last `ENC_STEPS`. Reset 0. -/
  steps : Int := 0
  /-- 11 R307: model time of the last `ENC_STEPS`. Reset none. -/
  stepsAt : Option Nat := none
  deriving DecidableEq, Repr

/-- The key matrix and the encoders. -/
structure Panel where
  /-- 11 Table 11.4: `KEYS_LO`, `KEYS_HI`: debounced state, bit per key. Reset 0. -/
  keys : Nat := 0
  /-- 11 R299: debounce counts. Reset 0. -/
  cnt : List Nat := List.replicate 64 0
  /-- 11 R301: per key, scans without a rectangle in a row in which the raw level differed from the debounced state. Reset 0. -/
  diff : List Nat := List.replicate 64 0
  /-- 11 R303: per key, model time since which it is down. Reset none. -/
  down : List (Option Nat) := List.replicate 64 none
  /-- 11 Table 11.4: `STUCK_LO`, `STUCK_HI`. Reset 0. -/
  stuck : Nat := 0
  /-- 11 Table 11.4: `FROZEN_KSO`. Reset 0. -/
  frozenO : Nat := 0
  /-- 11 Table 11.4: `FROZEN_KSI`. Reset 0. -/
  frozenI : Nat := 0
  /-- 11 R301: consecutive scans without a rectangle while marks stand. Reset 0. -/
  clean : Nat := 0
  /-- 11 Table 11.4: `GHOSTS`. Reset 0. -/
  ghosts : Nat := 0
  /-- 11 Table 11.4: `OVERRUNS`. Reset 0. -/
  overruns : Nat := 0
  /-- 11 Table 11.4: `CHANGES`. Reset 0. -/
  changes : Nat := 0
  /-- 11 Table 11.4: `SEL_ZONE`. Reset 0. -/
  sel : Nat := 0
  /-- 11 R300: change buffer of 16 events, oldest first: code and key. Reset empty. -/
  buf : List (Nat × Nat) := []
  /-- 11 R300: changes lost since the buffer was last empty. Reset 0. -/
  lost : Nat := 0
  /-- 11 R298: model time of the last scan. Reset none. -/
  scanAt : Option Nat := none
  /-- 11 R306: the four encoders. Reset 0. -/
  encs : List Enc := List.replicate 4 {}
  deriving DecidableEq, Repr

/-! ### CAN ports and the Timetable (chapter 12) -/

/-- What a transmit frame is for. -/
inductive TxUse where
  | fabric (cls : Nat)      -- Junction's own traffic
  | reference               -- the reference message
  | raw                     -- the raw interface (R346)
  | siding                  -- the Siding heartbeat (R418)
  deriving DecidableEq, Repr

/-- A frame in a dedicated buffer or in the transmit queue. -/
structure TxItem where
  queue : Bool
  idx : Nat
  frame : CanFrame
  use : TxUse
  /-- 12 R330: single attempt whatever the port's mode -/
  oneShot : Bool := false
  /-- 12 R329: a cancel is latched -/
  cancel : Bool := false
  /-- order in which it was written -/
  num : Nat := 0
  deriving DecidableEq, Repr

/-- A receive element: header words and data (Table 12.14). -/
structure RxElem where
  h0 : Nat
  h1 : Nat
  data : List Byte
  deriving DecidableEq, Repr

/-- Port states (Table 12.8). -/
inductive CanSt where
  | off | integrating | active | passive | busOff | held | restricted | listen | lowPower
  deriving DecidableEq, Repr

/-- The `STATE` code. -/
def CanSt.code : CanSt → Nat
  | .off => 0 | .integrating => 1 | .active => 2 | .passive => 3 | .busOff => 4 | .held => 5
  | .restricted => 6 | .listen => 7 | .lowPower => 8

/-- The raw CAN registers (Table 12.13). -/
structure RawCan where
  /-- 12 Table 12.13: `CAPTURE`. Reset false. -/
  capture : Bool := false
  /-- 12 Table 12.13: `RAW_MODE`. Reset 0. -/
  mode : Nat := 0
  /-- 12 Table 12.13: `XTD`, `FDF`, `BRS`, `ID` as the word at 0x08. Reset 0. -/
  hdr : Nat := 0
  /-- 12 Table 12.13: `RTR`. Reset false. -/
  rtr : Bool := false
  /-- 12 Table 12.13: `DLC`. Reset 0. -/
  dlc : Nat := 0
  /-- 12 Table 12.13: `RESULT`. Reset 0. -/
  result : Nat := 0
  /-- 12 Table 12.13: `FAIL_LEC`. Reset 0. -/
  failLec : Nat := 0
  /-- 12 Table 12.13: `TX_DATA0`–`TX_DATA15`. Reset 0. -/
  tx : List Nat := List.replicate 16 0
  /-- 12 R346: capture ring, oldest first, at most 16. Reset empty. -/
  ring : List RxElem := []
  /-- 12 Table 12.13: `CAPTURE_LOST`. Reset 0. -/
  lost : Nat := 0
  deriving DecidableEq, Repr

/-- Timetable states (Table 12.12). -/
inductive TtSt where
  | off | waitRef | running | lost
  deriving DecidableEq, Repr

/-- The `TT_STATE` code. -/
def TtSt.code : TtSt → Nat
  | .off => 0 | .waitRef => 1 | .running => 2 | .lost => 3

/-- The Timetable of one port. -/
structure Tt where
  /-- 12 Table 12.12: `TT_STATE`. Reset off. -/
  st : TtSt := .off
  /-- 12 Table 12.12: `MASTER`. Reset false. -/
  master : Bool := false
  /-- 12 R343: active matrix, the bytes of Table 12.5. Reset none. -/
  active : Option (List Byte) := none
  /-- 12 R343: pending matrix. Reset none. -/
  pend : Option (List Byte) := none
  /-- 12 R344, R33: `PERIOD_COUNT` of each Changeover for which a commit waits. Reset empty. -/
  commit : List Nat := []
  /-- 12 Table 12.12: `CYCLE`. Reset 0. -/
  cycle : Nat := 0
  /-- 12 Table 12.12: `MISS_RUN`. Reset 0. -/
  missRun : Nat := 0
  /-- 12 Table 12.12: `WINDOW_MISS`. Reset 0. -/
  windowMiss : Nat := 0
  /-- 12 Table 12.12: `REF_MISS`. Reset 0. -/
  refMiss : Nat := 0
  /-- 12 Table 12.12: `CYC_JUMPS`. Reset 0. -/
  cycJumps : Nat := 0
  /-- 12 Table 12.12: `TT_DROPS`. Reset 0. -/
  drops : Nat := 0
  /-- 12 R338: model time at which the cycle time restarted. Reset 0. -/
  cycAt : Nat := 0
  /-- 12 R341: windows of the cycle that have started; none before the first. Reset none. -/
  win : Option Nat := none
  /-- 12 Table 12.4 (R322): window table of the message RAM, start and length of each window in NTU. Reset 0. -/
  winTable : List (Nat × Nat) := List.replicate 32 (0, 0)
  /-- 12 Table 12.4 (R322): the two banks of cells of the message RAM, one basic cycle each. Reset 0. -/
  banks : List (List Nat) := List.replicate 2 (List.replicate 32 0)
  /-- 12 R322: the bank of cells that the port reads. Reset 0. -/
  bank : Nat := 0
  /-- 12 R342: `TT_WINDOW_MISS` has been logged in this period. Reset false. -/
  missLog : Bool := false
  deriving DecidableEq, Repr

/-- Counts of one kind in a zone period, for the events logged once per port and period. -/
structure CanLog where
  /-- 12 R325: frames lost to a full FIFO in this period, and the FIFO. Reset 0. -/
  ovf : Nat := 0
  /-- 12 Table 12.15: FIFO of the last of them. Reset 0. -/
  ovfFifo : Nat := 0
  /-- 12 R324: frames truncated in this period. Reset 0. -/
  trunc : Nat := 0
  /-- 12 R318: frames discarded in this period. Reset 0. -/
  implaus : Nat := 0
  /-- 12 R328: failures in this period. Reset 0. -/
  fail : Nat := 0
  /-- 12 Table 12.15: cause of the last failure. Reset 0. -/
  cause : Nat := 0
  /-- 12 R321: delay measurements failed in this period. Reset 0. -/
  tdc : Nat := 0
  /-- 13 R351: fabric frames discarded in this period. Reset 0. -/
  bad : Nat := 0
  /-- 13 Table 13.12: first test failed by one of them. Reset 0. -/
  test : Nat := 0
  deriving DecidableEq, Repr

/-- One CAN port. -/
structure Port where
  /-- 12 Table 12.8: `STATE`. Reset off. -/
  st : CanSt := .off
  /-- 12 Table 12.8: `TEC`. Reset 0. -/
  tec : Nat := 0
  /-- 12 Table 12.8: `REC`. Reset 0. -/
  recv : Nat := 0
  /-- 12 Table 12.8: `LEC`. Reset 0. -/
  lec : Nat := 0
  /-- 12 Table 12.8: `TDCV`. Reset 0. -/
  tdcv : Nat := 0
  /-- 12 Table 12.8: `SEG_ALONE`. Reset false. -/
  alone : Bool := false
  /-- 12 R332: model time of the last frame sent under `SEGMENT_ALONE`. Reset none. -/
  aloneAt : Option Nat := none
  /-- 12 Table 12.8: `TXD_TIMEOUT`. Reset false. -/
  txdTmo : Bool := false
  /-- 12 Table 12.8: `ACK_RUN`. Reset 0. -/
  ackRun : Nat := 0
  /-- 12 R334: starts of the automatic recoveries of the last 60 s. Reset empty. -/
  recovs : List Nat := []
  /-- 12 R334: model time at which the recovery under way started. Reset 0. -/
  offAt : Nat := 0
  /-- 12 R334: the recovery under way was started by `CAN_RECOVER`. Reset false. -/
  byCommand : Bool := false
  /-- 12 R334: recovered, and no frame has completed since. Reset false. -/
  afterOff : Bool := false
  /-- 12 Table 12.10: `TX_FRAMES`. Reset 0. -/
  txFrames : Nat := 0
  /-- 12 Table 12.10: `RX_FRAMES`. Reset 0. -/
  rxFrames : Nat := 0
  /-- 12 Table 12.10: `TX_FAILS`. Reset 0. -/
  txFails : Nat := 0
  /-- 12 Table 12.10: `TRUNC_COUNT`. Reset 0. -/
  truncs : Nat := 0
  /-- 12 Table 12.10: `RX_OVF`. Reset 0. -/
  rxOvf : Nat := 0
  /-- 12 Table 12.10: `RX_IMPLAUS`. Reset 0. -/
  implaus : Nat := 0
  /-- 12 Table 12.10: `BUS_OFFS`. Reset 0. -/
  busOffs : Nat := 0
  /-- 12 Table 12.10: `TDC_FAILS`. Reset 0. -/
  tdcFails : Nat := 0
  /-- 12 Table 12.10: `RAM_PARITY`. Reset 0. -/
  ramParity : Nat := 0
  /-- 12 Table 12.10: `ADDR_CLASH`. Reset 0. -/
  clash : Nat := 0
  /-- 12 R323: acceptance rules, three words each. Reset all disabled. -/
  rules : List (Nat × Nat × Nat) := List.replicate 48 (0, 0, 0)
  /-- 12 R322: receive FIFO 0. Reset empty. -/
  fifo0 : List RxElem := []
  /-- 12 R322: receive FIFO 1. Reset empty. -/
  fifo1 : List RxElem := []
  /-- 02 Table 2.2 (R44): `Q-FABI` of the port. Reset empty. -/
  qFabi : List (QE RxElem) := []
  /-- 02 Table 2.2 (R44): `Q-FABO` of the port. Reset empty. -/
  qFabo : List (QE TxItem) := []
  /-- 13 R368: Junction's backlog by class, at most 128 frames. Reset empty. -/
  backlog : List TxItem := []
  /-- 12 R327: frames in dedicated buffers and queue entries. Reset empty. -/
  tx : List TxItem := []
  /-- 12 R327: number of the next frame written. Reset 0. -/
  txNum : Nat := 0
  /-- 12 R327: the frame being sent: from the queue, and its index. Reset none. -/
  air : Option (Bool × Nat) := none
  /-- 12 Table 12.14: model time of the start of frame of the frame being sent. Reset 0. -/
  airAt : Nat := 0
  /-- 12 R342: end of the window of the frame being sent; the frame is a Timetable frame. Reset false. -/
  airTt : Bool := false
  /-- 12 R328: completion ring, oldest first, at most 64 words. Reset empty. -/
  comp : List Nat := []
  /-- 12 Table 12.11: `WAKE_FEC`. Reset false. -/
  wakeFec : Bool := false
  /-- 12 R337: frame error counter of selective wake. Reset 0. -/
  wakeErr : Nat := 0
  /-- 12 R335: armed in low power for the pattern, for the frame. Reset false. -/
  armP : Bool := false
  armF : Bool := false
  /-- 12 R344: a configuration change takes the port off the bus. Reset false. -/
  reconf : Bool := false
  /-- 12 R346: raw interface. Reset as Table 12.13. -/
  raw : RawCan := {}
  /-- 12 R338: Timetable. Reset off. -/
  tt : Tt := {}
  /-- 12 R347: counts of this period. Reset 0. -/
  log : CanLog := {}
  deriving DecidableEq, Repr

/-! ### Xiel fabric (chapter 13) -/

/-- A neighbour heard on a port (R356, Table 13.4). -/
structure Nbr where
  node : Nat
  port : Nat
  uid : Nat
  xf : Nat
  stratum : Nat
  tmPrio : Nat
  rootPrio : Nat
  rootUid : Nat
  rootNode : Nat
  periodMs : Nat
  conflict : Bool
  masterHere : Bool
  wallValid : Bool
  wallEpoch : Int
  heardAt : Nat
  /-- the neighbour's references are missing, so it is no candidate for master (R359) -/
  dropped : Bool := false
  deriving DecidableEq, Repr

/-- A route table entry (Table 13.5). -/
structure Route where
  /-- 13 Table 13.5: `STATE`. Reset 0. -/
  st : Nat := 0
  /-- 13 Table 13.5: `PORT`. Reset 0. -/
  port : Nat := 0
  /-- 13 Table 13.5: `HOPS`. Reset 0. -/
  hops : Nat := 0
  /-- 13 Table 13.5: `NEXT_HOP`. Reset 0. -/
  next : Nat := 0
  /-- 13 Table 13.5: `METRIC`. Reset 0. -/
  metric : Nat := 0
  /-- 13 Table 13.5: `VER`. Reset 0. -/
  ver : Nat := 0
  /-- 13 R365: model time of the last refresh. Reset 0. -/
  at_ : Nat := 0
  /-- 13 R366: model time of the withdrawal. Reset 0. -/
  goneAt : Nat := 0
  deriving DecidableEq, Repr

/-- A relayed request that this node gathers, or one of its own that waits (R370). -/
structure PartXact where
  src : Nat
  seq : Nat
  request : Bool
  count : Nat
  frags : List (Nat × List Byte)
  since : Nat
  deriving DecidableEq, Repr

/-- A transaction this node originated (R370, R371). -/
structure Xact where
  node : Nat
  seq : Nat
  /-- concatenated request, empty for `ECHO` -/
  body : List Byte
  /-- model time of the first send and of the last repeat -/
  since : Nat
  lastAt : Nat
  tmoMs : Nat
  hdr : ReqHdr
  /-- hops and version of the route taken -/
  hops : Nat
  ver : Nat
  deriving DecidableEq, Repr

/-- A kept response of a relayed transaction (R371). -/
structure KeptXact where
  src : Nat
  seq : Nat
  resp : Option (List Byte)
  deriving DecidableEq, Repr

/-- A boundary-state subscription (R372). -/
structure Subscr where
  node : Nat
  mask : Nat
  at_ : Nat
  deriving DecidableEq, Repr

/-- A claim under way (R354). -/
structure Claim where
  cand : Nat
  src : Nat
  seq : Nat
  /-- model time of the first `CLAIM` -/
  since : Nat
  /-- `CLAIM` frames sent: 1–3 -/
  sent : Nat
  /-- the node yields an address that it holds (R355) -/
  lost : Bool := false
  deriving DecidableEq, Repr

/-- Junction's fabric state. -/
structure Fabric where
  /-- 13 Table 13.9: `NODE`. Reset 0. -/
  node : Nat := 0
  /-- 13 Table 13.9: `ADDR_SRC`. Reset 3. -/
  addrSrc : Nat := 3
  /-- 13 R354: claim under way. Reset none. -/
  claim : Option Claim := none
  /-- 13 R355: address that replaces `NODE` at the next Changeover, with its source. Reset none. -/
  newNode : Option (Nat × Nat) := none
  /-- 13 R353: address last held, of record 5 of region 0; 0 none. Reset 0. -/
  lastHeld : Nat := 0
  /-- 13 Table 13.9: `STRATUM`. Reset 15. -/
  stratum : Nat := 15
  /-- 13 R358: root followed: priority, UID, address; none without one. Reset none. -/
  root : Option (Nat × Nat × Nat) := none
  /-- 13 R358: model time at which a master of the root was last heard. Reset 0. -/
  rootAt : Nat := 0
  /-- 13 R356: neighbours. Reset empty. -/
  nbrs : List Nbr := []
  /-- 13 R354: addresses heard in heartbeats, claims and routes. Reset empty. -/
  heard : List Nat := []
  /-- 13 R354: claims forwarded: source, sequence, UID, newest first, at most 64. Reset empty. -/
  floods : List (Nat × Nat × Nat × Nat) := []
  /-- 13 R363: active route table: index and entry, empty entries unlisted. Reset empty. -/
  routes : List (Nat × Route) := []
  /-- 13 R366: shadow table. Reset empty. -/
  shadow : List (Nat × Route) := []
  /-- 13 R364: `ADV_GEN`. Reset 0. -/
  advGen : Nat := 0
  /-- 13 R364: model time of the last advertisement per port. Reset none. -/
  advAt : List (Option Nat) := List.replicate 3 none
  /-- 13 R364: a change waits to be advertised per port. Reset false. -/
  advDue : List Bool := List.replicate 3 false
  /-- 13 R348: `SEQ` of the next frame originated. Reset 1. -/
  seq : Nat := 1
  /-- 13 R356: model time of the last heartbeat. Reset none. -/
  hbAt : Option Nat := none
  /-- 13 R360: fabric time minus model time, µs. Reset 0. -/
  offset : Int := 0
  /-- 13 R360: fabric time has been taken from a reference, or the node is root. Reset false. -/
  timed : Bool := false
  /-- 13 R357, R360: fabric time has been taken from a reference. Reset false. -/
  refTaken : Bool := false
  /-- 13 R360: model time of the last reference that time was taken from. Reset 0. -/
  servoAt : Nat := 0
  /-- 13 R357: a fabric frame or reference was received between recall end and ready. Reset false. -/
  heardAny : Bool := false
  /-- 13 Table 13.9: `TIME_PORT`. Reset 0. -/
  timePort : Nat := 0
  /-- 13 R359: this node finds itself best on the port. Reset false. -/
  tmDue : List Bool := List.replicate 3 false
  /-- 13 R361: period conflict. Reset false. -/
  conflict : Bool := false
  /-- 13 R361: the period distributed by the root. Reset none. -/
  rootPeriod : Option Nat := none
  /-- 13 R362: `WALL_EPOCH` of the root as this node holds or sets it; none not valid. Reset none. -/
  wall : Option Int := none
  /-- 13 Table 13.9: `HOP_EXPIRED`. Reset 0. -/
  hopExpired : Nat := 0
  /-- 13 Table 13.9: `NO_ROUTE`. Reset 0. -/
  noRoute : Nat := 0
  /-- 13 Table 13.9: `CHECK_FAILS`. Reset 0. -/
  checkFails : Nat := 0
  /-- 13 Table 13.9: `HDR_BAD`. Reset 0. -/
  hdrBad : Nat := 0
  /-- 13 Table 13.9: `FAB_TRUNC`. Reset 0. -/
  trunc : Nat := 0
  /-- 13 Table 13.9: `BACKLOG_DROPS`. Reset 0. -/
  drops : Nat := 0
  /-- 13 Table 13.9: `BS_LATE`. Reset 0. -/
  bsLate : Nat := 0
  /-- 13 Table 13.9: `ADDR_CONFLICTS`. Reset 0. -/
  conflicts : Nat := 0
  /-- 13 Table 13.11: `NBR_LOSSES` per port. Reset 0. -/
  losses : List Nat := List.replicate 3 0
  /-- 13 R371: partial transactions held, at most 8. Reset empty. -/
  parts : List PartXact := []
  /-- 13 R370: transactions originated. Reset empty. -/
  xacts : List Xact := []
  /-- 13 R371: last 16 transactions served, newest first. Reset empty. -/
  served : List KeptXact := []
  /-- 13 R372: subscriptions, at most 64. Reset empty. -/
  subs : List Subscr := []
  /-- 13 R372: model time of the last `BS_SUB` round. Reset none. -/
  subAt : Option Nat := none
  /-- 13 R372: `PERIOD_COUNT` whose boundary states have been sent. Reset none. -/
  bsSent : Option Nat := none
  /-- 13 R359: model time of the last reference event frame per port. Reset none. -/
  refAt : List (Option Nat) := List.replicate 3 none
  /-- 13 R375, R33: `PERIOD_COUNT` of each Changeover for which rediscovery waits. Reset empty. -/
  rediscover : List Nat := []
  deriving DecidableEq, Repr

/-! ### Record store (chapter 14) -/

/-- One record write on its way to the cells (R382, R383). -/
structure RecEntry where
  region : Nat
  record : Nat
  /-- offset of the bytes inside the record; `whole` replaces the record's content -/
  offset : Nat := 0
  whole : Bool := true
  data : List Byte := []
  /-- the copy carries the `DEFAULT` flag -/
  dflt : Bool := false
  /-- a command write (R383) -/
  cmd : Bool := false
  /-- number by which a waiting request finds its write; 0 for none -/
  tag : Nat := 0
  deriving DecidableEq, Repr

/-- The hot values (Table 14.9). -/
structure Hot where
  /-- 14 Table 14.9 (R394): `SAVED` of the recalled record. Reset false. -/
  saved : Bool := false
  /-- 14 Table 14.9 (R394): seconds towards the next `VSUP_HOURS` increment. Reset 0. -/
  vsupSec : Nat := 0
  /-- 14 Table 14.9 (R394): seconds towards the next `MAINLINE_HOURS` increment. Reset 0. -/
  mainSec : Nat := 0
  /-- 14 Table 14.9 (R394): `STROKES_LIFE`. Reset 0. -/
  strokes : List Nat := List.replicate 24 0
  /-- 14 Table 14.9 (R394): `VFAILS_LIFE`. Reset 0. -/
  vfails : List Nat := List.replicate 24 0
  /-- 14 Table 14.9 (R394): `FAN_RUN_LIFE`. Reset 0. -/
  fanRun : List Nat := List.replicate 12 0
  /-- 14 Table 14.9 (R394): `FAN_STALLS_LIFE`. Reset 0. -/
  fanStalls : List Nat := List.replicate 12 0
  /-- 14 Table 14.9 (R394): `OCC_S_LIFE`. Reset 0. -/
  occS : List Nat := List.replicate 32 0
  deriving DecidableEq, Repr

/-- The record store and its controller. -/
structure RecStore where
  /-- 14 R377: the 256 KiB of ferroelectric cells. Reset DESIGN CHOICE all 0, every record at default (log 3). -/
  cells : Mem := []
  /-- 02 Table 2.2 (R44): `Q-REC`. Reset empty. -/
  queue : List (QE RecEntry) := []
  /-- 02 Table 2.2 (R44): writes that wait for a `Q-REC` credit of their producer. Reset empty. -/
  waiting : List (QE RecEntry) := []
  /-- 02 R42: writes to be repeated in a later period after a poisoned entry. Reset empty. -/
  again : List (QE RecEntry) := []
  /-- 14 R383: write list. Reset empty. -/
  wlist : List RecEntry := []
  /-- 14 R383: the write whose copy is being written. Reset none. -/
  cur : Option RecEntry := none
  /-- 14 R384: model time at which that copy ends. Reset 0. -/
  curEnd : Nat := 0
  /-- 14 R387: records marked `DUP_SEQ`. Reset empty. -/
  dups : List (Nat × Nat) := []
  /-- 14 Table 14.11 (R400): `DEFAULTS` per region. Reset 0. -/
  defaults : List Nat := List.replicate 32 0
  /-- 14 Table 14.11 (R400): `MIGRATED` per region. Reset 0. -/
  migrated : List Nat := List.replicate 32 0
  /-- 14 R388: converted records to be written back in the first period. Reset empty. -/
  toMigrate : List RecEntry := []
  /-- 14 Table 14.11 (R400): `WRITES` per region. Reset 0. -/
  writes : List Nat := List.replicate 32 0
  /-- 14 R397: wrong password attempts per region. Reset 0. -/
  wrong : List Nat := List.replicate 32 0
  /-- 05 R135: regions unlocked for reading, one bit each. Reset 0. -/
  unlockR : Nat := 0
  /-- 05 R135: regions unlocked for writing, one bit each. Reset 0. -/
  unlockW : Nat := 0
  /-- 14 Table 14.13 (R401): `RECALL_US`. Reset 0. -/
  recallUs : Nat := 0
  /-- 14 Table 14.13 (R401): band of the pulse in force. Reset 1. -/
  band : Nat := 1
  /-- 14 Table 14.13 (R401): `LIST_HIGH`. Reset 0. -/
  listHigh : Nat := 0
  /-- 14 Table 14.13 (R401): `LOG_SKIPPED`. Reset 0. -/
  logSkipped : Nat := 0
  /-- 14 Table 14.13 (R401): `SAVE_DROPPED`. Reset 0. -/
  saveDropped : Nat := 0
  /-- 14 Table 14.13 (R401): `COPIES`. Reset 0. -/
  copies : Nat := 0
  /-- 14 R393: the store log's next number. Reset 1. -/
  logNum : Nat := 1
  /-- 14 R393: record that takes the next log entry. Reset 0. -/
  logRec : Nat := 0
  /-- 14 R393: log entries written in this period. Reset 0. -/
  logDone : Nat := 0
  /-- 14 R393: events of this period beyond the seventh. Reset empty. -/
  logHeld : List LogEntry := []
  /-- 14 R382: number of the next tagged command write. Reset 1. -/
  nextTag : Nat := 1
  hot : Hot := {}
  /-- 14 R392: model time from which `VSUP` time counts on beyond `VSUP_SEC`. Reset 0. -/
  vsupFrom : Nat := 0
  /-- 14 R392: model time from which Mainline time counts on beyond `MAIN_SEC`; none outside Mainline. Reset none. -/
  mainFrom : Option Nat := none
  deriving DecidableEq, Repr

/-! ### Guard and thermal management (chapter 15) -/

/-- One guard zone as Guard holds it. -/
structure GZone where
  /-- 15 R407: the configuration group that Guard has applied, 8 words. Reset the defaults of Table 15.11. -/
  cfg : List Nat := [0x50000000, 0x40A00000, 0x420C0000, 0x141E0000, 0x03E80F89, 0xFFFF, 0xFFFF, 0xFFFF]
  /-- 15 Table 15.10: `G_CARRIED`. Reset false. -/
  carried : Bool := false
  /-- 15 Table 15.10: `G_FROST`. Reset false. -/
  frost : Bool := false
  /-- 15 Table 15.10: `G_PURGE`. Reset false. -/
  purge : Bool := false
  /-- 15 Table 15.10: `G_INPUT_BAD`. Reset false. -/
  bad : Bool := false
  /-- 15 R412: consecutive invalid samples. Reset 0. -/
  badRun : Nat := 0
  /-- 15 R412: consecutive valid samples. Reset 0. -/
  goodRun : Nat := 0
  /-- 15 R412: T of the last valid sample. Reset NaN. -/
  t : F32 := 0x7FC00000#32
  /-- 15 Table 15.10: `G_T`. Reset NaN. -/
  repT : F32 := 0x7FC00000#32
  /-- 15 Table 15.10: `G_V`. Reset 0.0. -/
  repV : F32 := 0#32
  /-- 15 R408: model time of the last `GUARD_TEMP`. Reset 0. -/
  repAt : Nat := 0
  /-- 15 R412: model time of the last sample; none before the first. Reset none. -/
  sampleAt : Option Nat := none
  /-- 15 R405: item last sent per slot: none before a take. Reset none. -/
  sent : List (Option (Option Nat)) := List.replicate 3 none
  /-- 15 R409: after a reset of the island the input is to be sampled and the take items sent again. Reset false. -/
  mustTake : Bool := false
  /-- 15 R409: stages taken under the configuration from before a reset of the island, which are released when the take items are out. Reset empty. -/
  owed : List Stage := []
  /-- 15 Table 15.10 (R408): `G_FROST`, `G_PURGE` and `G_INPUT_BAD` as `SB` builds them from Guard's events. Reset false. -/
  repFrost : Bool := false
  repPurge : Bool := false
  repBad : Bool := false
  deriving DecidableEq, Repr

/-- The heartbeat patterns of Table 15.1. -/
inductive Beat where
  | none | control | hold
  deriving DecidableEq, Repr

/-- The Guard island. -/
structure Guard where
  /-- 15 Table 15.8: `G_READY`. Reset false. -/
  ready : Bool := false
  /-- 03 Table 3.3: both cores have been released since `VSUP` became valid. Reset false. -/
  released : Bool := false
  /-- 15 R410: Guard has been ready since `VSUP` became valid; from then on its bias flows. Reset false. -/
  biasOn : Bool := false
  /-- 15 R407: copies read and not yet applied: record, `SEQ`, data. Reset empty. -/
  toApply : List (Nat × Nat × List Byte) := []
  /-- 15 R409: the island is in reset, with the cause for `GUARD_RESET`. Reset none. -/
  inReset : Option Nat := none
  /-- 15 Table 15.8: `HB_SEEN`. Reset 0. -/
  hb : Nat := 0
  /-- 15 R404: pattern that `SB` sends. Reset none. -/
  beat : Beat := .none
  /-- 15 R404: every guard zone has been computed and the zone work has ended. Reset false. -/
  ctlDue : Bool := false
  /-- 15 R404: model time of the last toggle; none before the first. Reset none. -/
  toggleAt : Option Nat := none
  /-- 15 R404: consecutive intervals within 2.5–8.0 ms. Reset 0. -/
  holdRun : Nat := 0
  /-- 15 R404: consecutive intervals within 0.5–2.0 ms. Reset 0. -/
  ctlRun : Nat := 0
  /-- 15 Table 15.8: `TAKEOVERS`. Reset 0. -/
  takeovers : Nat := 0
  /-- 15 Table 15.8: `HB_EXPIRIES`. Reset 0. -/
  expiries : Nat := 0
  /-- 15 Table 15.8: `ISLAND_RESETS`. Reset 0. -/
  resets : Nat := 0
  /-- 15 Table 15.8: `UNAVAIL_MS` in µs. Reset 0. -/
  unavailUs : Nat := 0
  /-- 15 R416: the basic function is unavailable since. Reset none. -/
  unavailAt : Option Nat := none
  /-- 15 R407: `HB_TMO_MS` applied. Reset 50. -/
  hbTmo : Nat := 50
  /-- 15 R407: word of region 7 record 9 applied. Reset 0xF000_0000. -/
  crit : Nat := 0xF0000000
  /-- 15 R407: `SEQ` of the copy applied per record of region 7; 0 none. Reset 0. -/
  seqs : List Nat := List.replicate 10 0
  /-- 15 R407: model time of the last read of region 7. Reset 0. -/
  readAt : Nat := 0
  /-- 15 R404: model time from which Guard watches for a toggle when it has seen none. Reset 0. -/
  watchFrom : Nat := 0
  /-- 15 Tables 15.8 and 15.10 (R408): `CARRIED`, `TAKEOVERS` and `ISLAND_RESETS` as `SB` builds them from Guard's events. Reset 0. -/
  repCarried : Nat := 0
  repTakes : Nat := 0
  repResets : Nat := 0
  /-- 15 R412: Guard's own band from die sensors 0 and 8. Reset 1. -/
  band : Nat := 1
  /-- 15 R412: Guard's own readings of die sensors 0 and 8. Reset NaN. -/
  t0 : F32 := 0x7FC00000#32
  t8 : F32 := 0x7FC00000#32
  /-- 15 R430: guard zones 0–7. Reset not carried. -/
  zones : List GZone := List.replicate 8 {}
  deriving DecidableEq, Repr

/-- One die sensor (Table 15.14). -/
structure Die where
  /-- 15 Table 15.14: `T_DIE`. Reset NaN. -/
  t : F32 := 0x7FC00000#32
  /-- 15 R421: previous reading in thousandths of °C. Reset none. -/
  prev : Option Int := none
  /-- 15 Table 15.14: `S_FAILED`. Reset false. -/
  failed : Bool := false
  /-- 15 Table 15.14: `F_CAUSE`. Reset 0. -/
  cause : Nat := 0
  /-- 15 Table 15.14: `FAILURES`. Reset 0. -/
  failures : Nat := 0
  /-- 15 Table 15.14: `T_PEAK`. Reset NaN. -/
  peak : F32 := 0x7FC00000#32
  /-- 15 R421: consecutive samples that pass all tests. Reset 0. -/
  good : Nat := 0
  /-- 15 R421: model time of the last conversion. Reset 0. -/
  at_ : Nat := 0
  /-- 15 R421, R427: the last conversion failed its hardware self-check. Reset false. -/
  selfBad : Bool := false
  deriving DecidableEq, Repr

/-- One limit group (R424). -/
structure Limit where
  /-- 15 R424: f in eighths, 2–8. Reset 8. -/
  f : Nat := 8
  /-- 15 R424: model time of the last evaluation; none before the first. Reset none. -/
  evalAt : Option Nat := none
  /-- 15 R424: model time of the last step down. Reset none. -/
  stepAt : Option Nat := none
  /-- 15 R424: release timer in ms. Reset 0. -/
  rel : Nat := 0
  /-- 15 Table 15.4: f at 25 % with T_g at or above `THROTTLE_C` since. Reset none. -/
  floorAt : Option Nat := none
  /-- 15 R419: T_g below `THROTTLE_C` − 10 °C with no sensor failed since. Reset none. -/
  coolAt : Option Nat := none
  deriving DecidableEq, Repr

/-- Thermal management. -/
structure Thermal where
  /-- 15 R420: die sensors 0–8. Reset NaN. -/
  dies : List Die := List.replicate 9 {}
  /-- 15 R424: `G0`–`G3`, fan groups A and B. Reset 100 %. -/
  lims : List Limit := List.replicate 6 {}
  /-- 15 Table 15.12: `THROTTLE_STEPS`. Reset 0. -/
  steps : Nat := 0
  /-- 15 Table 15.12: `P_PKG`. Reset 0.0. -/
  pkg : F32 := 0#32
  /-- 15 R426: model time of the last estimate; none before the first. Reset none. -/
  estAt : Option Nat := none
  /-- 15 R426: above 5 W since. Reset none. -/
  hotAt : Option Nat := none
  /-- 15 R426: `THERMAL_BUDGET` has been logged. Reset false. -/
  hotLog : Bool := false
  /-- 15 R419: mode that a thermal Siding left. Reset Mainline. -/
  sidingFrom : Mode := .mainline
  /-- 15 R418: model time of the last Siding heartbeat. Reset none. -/
  sidingHb : Option Nat := none
  /-- 15 R428: Buffer Stop latched, with the sensor that tripped. Reset none. -/
  bufStop : Option Nat := none
  /-- 15 R428: the flag of the `VBKP` domain. Reset false. -/
  bufFlag : Bool := false
  /-- 15 R428: Buffer Stop comparators armed. Reset false. -/
  armed : Bool := false
  deriving DecidableEq, Repr

/-! ### Straps (chapter 16) -/

/-- The straps as sampled (Table 16.6). -/
structure Straps where
  /-- 16 Table 10.11: `CT_STRAP`. Reset 7 (open, Table 16.5; log 4). -/
  ct : Nat := 7
  /-- 16 Table 10.11: `CTSEL`. Reset false (open; log 4). -/
  ctsel : Bool := false
  /-- 16 Table 16.6: `NA_STRAP`. Reset 0 (open; log 4). -/
  na : Nat := 0
  /-- 16 Table 16.6: `SVC_N_STRAP`. Reset true (open; log 4). -/
  svcN : Bool := true
  /-- 16 Table 16.6: `PROF_L_STRAP`. Reset false (open; log 4). -/
  profL : Bool := false
  /-- 16 Table 16.6: `UNSTABLE`. Reset 0. -/
  unstable : Nat := 0
  /-- 16 Table 16.6: `SAMPLED_AT`. Reset false. -/
  sampledAt : Bool := false
  /-- 16 R439: how many of eight samples each strap pin gives, in the order of `UNSTABLE`, as last heard; a pin not listed is open. Reset empty (open; log 4). -/
  pins : List Nat := []
  deriving DecidableEq, Repr

/-! ### The whole state -/

/-- An accepted configuration write that waits (R125). -/
structure CfgWrite where
  obj : Nat
  /-- the words given, from word 0 on -/
  words : List Word
  /-- 1 for the Changeover of period `co`, 2 for the next start -/
  takes : Nat
  co : Nat
  /-- 14 R398: the write comes from a configuration image, and all of it takes effect at the Changeover -/
  late : Bool := false
  deriving DecidableEq, Repr

/-- The state of the block. -/
structure State where
  /-- model time in µs (log 1). Reset 0. -/
  now : Nat := 0
  pw : Power := {}
  rtc : Rtc := {}
  mn : Main := {}
  per : Period := {}
  /-- 02 Table 2.2 (R44): `Q-EVT`, rings P0–P3, oldest first. Reset empty. -/
  qEvt : List (List EvtEntry) := List.replicate 4 []
  /-- 02 R45: the twelve `Q-EVT` producers. Reset empty buffers. -/
  prods : List EvtProd := List.replicate 12 {}
  /-- 02 R48: statistics of the eleven queues. Reset 0. -/
  qst : List QStat := List.replicate 11 {}
  host : HostLink := {}
  crc : RawCrc := {}
  rs : RecStore := {}
  /-- 15 R423: temperature band, 0–4 for `TB0`–`TB4`. Reset 1 (`BAND` of Table 14.13). -/
  band : Nat := 1
  se : Sense := {}
  zs : Zones := {}
  act : Act := {}
  pr : Predict := {}
  pn : Panel := {}
  /-- 12 R312: ports `CAN0`–`CAN2`. Reset off. -/
  cans : List Port := List.replicate 3 {}
  fb : Fabric := {}
  gd : Guard := {}
  th : Thermal := {}
  st : Straps := {}
  /-- 05 R125: values in force of the configuration words that differ from their defaults, by object identifier × 64 + word, ascending. Reset empty (every field at the default its table gives). -/
  cfg : List (Nat × Word) := []
  /-- 05 R125: accepted configuration writes that wait for their moment, in the order of execution. Reset empty. -/
  cfgPend : List CfgWrite := []
  /-- 03 R70: flash bank A, 4 MiB. Reset DESIGN CHOICE all 0 (log 3). -/
  flashA : Mem := []
  /-- 03 R70: flash bank B, 4 MiB. Reset DESIGN CHOICE all 0 (log 3). -/
  flashB : Mem := []
  /-- The commands waiting, first in first out (the block's queue). Reset empty. -/
  pending : List Instr := []
  /-- The model's own counter of free values (log 2). Reset DESIGN CHOICE 0. -/
  freeCtr : Nat := 0
  deriving DecidableEq, Repr

/-- Why the block stops. -/
inductive Fault where
  /-- Raised by VSUP_VALID, and by a wake, when `TEST_EN` is sampled high: the production test state is not described (R441). Safe: the
  run stops where the part goes on in a state of its own. -/
  | productionTest
  deriving DecidableEq, Repr

/-- Why a command is turned away. -/
inductive Refusal where
  /-- A row without a meaning. Safe: the run stops. -/
  | notModelled (mnemonic : String)
  deriving DecidableEq, Repr

/-- What a meaning answers. -/
abbrev Out := Host.Outcome State Fault Refusal

/-- The block right after reset: the moment `VSUP` becomes valid, straps open, nothing recalled (log 4). -/
def State.reset : State := {}

end Sys2Proof.Machine
end

