-- ==== Sys2Proof/Machine/Ops.lean ====
section
/-!
DEFINITION. Sys2Proof/Machine/Ops.lean: the shared operations: time, the configuration words in force, queue statistics,
record write requests, events from their producers to the host event log, and the doorbell bits of the host link.
-/
namespace Sys2Proof.Machine
open Sys2Proof

/-! ### Lists by index -/

/-- Element `i` changed by `f`; the list unchanged when it is shorter. -/
def lmod {α : Type} (l : List α) (i : Nat) (f : α → α) : List α := l.modify i f

/-- Element `i` replaced. -/
def lset {α : Type} (l : List α) (i : Nat) (a : α) : List α := l.set i a

/-! ### Time -/

/-- A timed command arrives at its due instant: model time moves forward to it (log 1). -/
def State.advTo (s : State) (t : Nat) : State := { s with now := max s.now t }

/-- The 48-bit RTC count, 32,768 per s (R18, R141). -/
def rtcCount (s : State) : Nat :=
  (s.rtc.base + (s.now - s.rtc.at_) * 32768 / 1000000) % 2 ^ 48

/-- Seconds of RTC time, bits [46:15] of the count (Table 5.15). -/
def rtcSeconds (s : State) : Nat := bits (rtcCount s) 46 15

/-- Milliseconds within the second (Table 5.15). -/
def rtcMillis (s : State) : Nat := (rtcCount s % 32768) * 1000 / 32768

/-- The next free value's number (log 2). -/
def State.freeNext (s : State) : State := { s with freeCtr := s.freeCtr + 1 }

/-! ### Modes and phases -/

/-- The main domain runs its engines: ready, in Platform or Mainline. -/
def State.zonesRun (s : State) : Bool :=
  s.mn.phase == .run && (s.mn.mode == .platform || s.mn.mode == .mainline)

/-- The SPI target answers: from the start of the `SB` boot ROM on (R100). -/
def State.spiAlive (s : State) : Bool :=
  s.pw.vio && (match s.mn.phase with
  | .off => false
  | .held => false
  | _ => true)

/-- tc, the end of the work of the period that runs (R26). -/
def State.tc (s : State) : Nat := s.per.t0 + s.per.lenUs - 2000

/-- Between tc and the next t0 what reaches a queue belongs to the next period (R29). -/
def State.pastTc (s : State) : Bool := s.per.running && (s.per.inCo || s.tc ≤ s.now)

/-- From tc to the drain of the Changeover producers hold the events that they raise (R29). -/
def State.evtsWait (s : State) : Bool := s.per.running && !s.per.inCo && s.tc ≤ s.now

/-- True where Guard runs: its island has `VSUP` (R15). -/
def State.vsupOk (s : State) : Bool := s.pw.vsup && !s.pw.latch

/-! ### Configuration words in force (R125) -/

/-- Looks a key up in an ascending association list. -/
def assocGet : List (Nat × Word) → Nat → Option Word
  | [], _ => none
  | (k, w) :: l, a => if k == a then some w else assocGet l a

/-- Sets a key in an ascending association list. -/
def assocSet (a : Nat) (v : Word) : List (Nat × Word) → List (Nat × Word)
  | [] => [(a, v)]
  | (k, w) :: l => if a < k then (a, v) :: (k, w) :: l else if a = k then (a, v) :: l else (k, w) :: assocSet a v l

/-- Removes a key. -/
def assocDel (a : Nat) (l : List (Nat × Word)) : List (Nat × Word) := l.filter fun p => p.1 != a

/-- The store key of a word of a field group. -/
def cfgKey (obj word : Nat) : Nat := obj * 64 + word

/-- The identifier of field group `g` of an instance (R123). -/
def objId (cls inst g : Nat) : Nat := cls * 2 ^ 24 + inst * 2 ^ 12 + g

/-! ### Queue statistics (R48) -/

/-- Changes the statistics of queue `q`. -/
def State.modQ (s : State) (q : Nat) (f : QStat → QStat) : State := { s with qst := lmod s.qst q f }

/-- Notes the total occupancy of a queue after an entry was written. -/
def State.noteHigh (s : State) (q occ : Nat) : State := s.modQ q fun x => { x with high := sat 16 (max x.high occ) }

/-- Counts a write delayed or replaced for lack of credit. -/
def State.noteStall (s : State) (q : Nat) : State := s.modQ q fun x => { x with stalls := sat 32 (x.stalls + 1) }

/-- Entries of a ring that hold a producer's credits. -/
def held {α : Type} (ring : List (QE α)) (prod : Nat) : Nat := (ring.filter fun e => e.prod == prod).length

/-- Entries of a `Q-EVT` ring that hold a producer's credits. -/
def heldEvt (ring : List EvtEntry) (prod : Nat) : Nat := (ring.filter fun e => e.prod == prod).length

/-! ### Record write requests -/

/-- `Q-REC` producer numbers: 0 `SB`, 1–4 `ZC0`–`ZC3`, 5 `PE`, 6 `JN`; credits as Table 2.2. -/
def recCredits (prod : Nat) : Nat := if prod == 0 then 16 else if prod ≤ 6 then 8 else 0

/-- A producer writes an entry into `Q-REC` while it holds a credit, and waits otherwise (R44). -/
def State.postRec (s : State) (prod : Nat) (e : RecEntry) : State :=
  let qe : QE RecEntry := { val := e, prod := prod }
  if held s.rs.queue prod < recCredits prod && held s.rs.waiting prod == 0 then
    State.noteHigh { s with rs.queue := s.rs.queue ++ [qe] } 4 (s.rs.queue.length + 1)
  else State.noteStall { s with rs.waiting := s.rs.waiting ++ [qe] } 4

/-- Waiting writes whose producer has a credit again enter `Q-REC`, in order. -/
def State.refillRec (s : State) : State :=
  s.rs.waiting.foldl (fun t qe =>
    if held t.rs.queue qe.prod < recCredits qe.prod then
      State.noteHigh { t with rs.queue := t.rs.queue ++ [qe] } 4 (t.rs.queue.length + 1)
    else { t with rs.waiting := t.rs.waiting ++ [qe] }) { s with rs.waiting := [] }

/-! ### The host event log and the store log -/

/-- The 20 bytes of a log entry (Table 5.15), with a given sequence number. -/
def LogEntry.bytesWith (e : LogEntry) (seqno : Nat) : List Byte :=
  leBytes 2 e.code ++ leBytes 2 (e.pri * 2 ^ 14 + b2n e.poisoned * 2 ^ 13 + e.inst % 4096) ++ leBytes 4 seqno ++
    leBytes 4 e.timeS ++ leBytes 2 e.timeMs ++ leBytes 2 e.rsv ++ leBytes 4 e.arg

/-- Doorbell bits are set in `DB_STATUS` (Table 4.3). -/
def State.ring (s : State) (mask : Nat) : State := { s with host.db := s.host.db ||| mask }

/-- `HOST_IRQ_N` is low while an enabled doorbell bit is set (R102) and the target answers (R100). -/
def State.irqLow (s : State) : Bool := s.spiAlive && (s.host.db &&& s.host.irqMask) != 0

/-- One event into the store log of region 5 (R393). -/
def State.storeLog (s : State) (e : LogEntry) : State :=
  let s1 := s.postRec 0 { region := 5, record := s.rs.logRec, data := e.bytesWith s.rs.logNum }
  { s1 with rs.logNum := (s1.rs.logNum + 1) % 2 ^ 32, rs.logRec := (s1.rs.logRec + 1) % 153,
            rs.logDone := s1.rs.logDone + 1 }

/-- No zone period runs that would bound the store log: Siding and Buffer Stop (R393, log 20). -/
def State.logFree (s : State) : Bool := s.mn.mode == .siding || s.mn.mode == .bufferStop

/-- An event of priority 0 or 1 qualifies for the store log: the first seven of a period are written at once, the rest
wait for the end of the period, when the eighth entry is decided (R393, log 20). Before ready they wait until the store
log's next number is known. -/
def State.toStoreLog (s : State) (e : LogEntry) : State :=
  if e.pri ≤ 1 then
    (if (s.rs.logDone < 7 || s.logFree) && s.mn.ready then s.storeLog e else { s with rs.logHeld := s.rs.logHeld ++ [e] })
  else s

/-- The eighth store-log entry of the period (R393). -/
def State.lastLog (s : State) : State :=
  match s.rs.logHeld with
  | [] => s
  | [e] => State.storeLog { s with rs.logHeld := [] } e
  | e :: _ =>
    let n := s.rs.logHeld.length
    let x : LogEntry := { e with code := evRecLogSkipped, inst := 0, pri := evPri evRecLogSkipped, poisoned := false,
                                 timeS := rtcSeconds s, timeMs := rtcMillis s, rsv := 0, arg := n }
    State.storeLog { s with rs.logHeld := [], rs.logSkipped := sat 16 (s.rs.logSkipped + n) } x

/-- An event enters the host event log (R150), rings `DB_EVT` under the filter (R141) and qualifies for the store log. -/
def State.logEntry (s : State) (code inst pri : Nat) (poisoned : Bool) (rsv arg : Nat) : State :=
  let e : LogEntry := { code := code, inst := inst, pri := pri, poisoned := poisoned, seqno := s.host.seqno,
                        timeS := rtcSeconds s, timeMs := rtcMillis s, rsv := rsv, arg := arg }
  let l := s.host.log ++ [e]
  let s1 := { s with host.log := l.drop (l.length - 1024), host.seqno := (s.host.seqno + 1) % 2 ^ 32 }
  let s2 := if pri ≤ s1.host.minPri then s1.ring 0x200 else s1
  s2.toStoreLog e

/-- An event that `SB` itself raises: `SB` is no producer of Table 2.3, so it logs the event directly (log 13). -/
def State.sbEvent (s : State) (code inst arg : Nat) : State := s.logEntry code inst (evPri code) false 0 (arg % 2 ^ 32)

/-! ### `Q-EVT` (R45, R460) -/

/-- `Q-EVT` credits by producer and priority (Table 2.3). -/
def evtCredits (prod pri : Nat) : Nat :=
  (match prod with
   | 0 => [16, 8, 8, 8]
   | 1 => [8, 8, 16, 32]
   | 2 => [4, 12, 24, 48]
   | 3 => [4, 4, 16, 24]
   | _ => [4, 4, 8, 18]).getD pri 0

/-- The entry of an event (R460). -/
def mkEvt (prod code inst arg : Nat) : EvtEntry :=
  let w0 := wd (code % 2 ^ 16 + (inst % 2 ^ 12) * 2 ^ 16 + (evPri code % 4) * 2 ^ 28)
  let w1 := wd arg
  { w0 := w0, w1 := w1, p0 := parityOf w0, p1 := parityOf w1, prod := prod }

/-- The priority an entry carries. -/
def EvtEntry.pri (e : EvtEntry) : Nat := bits e.w0.toNat 29 28

/-- The event crossings of Guard and of `DE` stand still while `CORE` is lost (R18). -/
def State.crosses (s : State) (prod : Nat) : Bool := prod ≤ 1 && s.pw.coreLost

/-- True when a producer holds a credit at a priority for an event that reaches its ring. -/
def State.evtCredit (s : State) (prod pri : Nat) : Bool :=
  !s.crosses prod && heldEvt (s.qEvt.getD pri []) prod < evtCredits prod pri

/-- True when a producer holds a credit and its crossing, which stands still, has a place of its 16 (R18, R44). -/
def State.crossCredit (s : State) (prod pri : Nat) : Bool :=
  let c := (s.prods.getD prod {}).cross
  s.crosses prod && c.length < 16 &&
    heldEvt (s.qEvt.getD pri []) prod + (c.filter fun e => e.pri == pri).length < evtCredits prod pri

/-- A producer can send an event of a priority. -/
def State.evtGoes (s : State) (prod pri : Nat) : Bool := s.evtCredit prod pri || s.crossCredit prod pri

/-- An entry enters its ring. -/
def State.enqEvt (s : State) (e : EvtEntry) : State :=
  let q := lmod s.qEvt e.pri (· ++ [e])
  State.noteHigh { s with qEvt := q } 3 (q.map List.length).sum

/-- Changes a producer's buffer. -/
def State.modProd (s : State) (prod : Nat) (f : EvtProd → EvtProd) : State := { s with prods := lmod s.prods prod f }

/-- An entry leaves its producer: into its ring, or into the crossing that stands still. -/
def State.sendEvt (s : State) (prod : Nat) (e : EvtEntry) : State :=
  if s.crosses prod then s.modProd prod fun x => { x with cross := x.cross ++ [e] } else s.enqEvt e

/-- What stood in the crossings of Guard and of `DE` reaches `Q-EVT` when `CORE` has returned (R18). -/
def State.crossEvts (s : State) : State :=
  [0, 1].foldl (fun (t : State) k =>
    ((t.prods.getD k {}).cross).foldl State.enqEvt (t.modProd k fun x => { x with cross := [] })) s

/-- The buffer has a place of its eight (R45). -/
def EvtProd.room (p : EvtProd) : Bool := p.held.length + p.late.length < 8

/-- A producer raises an event: it is sent on a credit, held otherwise in the buffer of eight, and counted when that is
full (R45). The buffer is one sequence: an event with a credit of its own still goes behind the events held before it (log 66).
Between tc and the drain of the Changeover it is held whatever the credit (R29). -/
def State.raise (s : State) (prod code inst arg : Nat) : State :=
  let e := mkEvt prod code inst arg
  let p := s.prods.getD prod {}
  if !s.evtsWait && p.held.isEmpty && p.lost == 0 && s.evtGoes prod e.pri then s.sendEvt prod e
  else
    let s1 := if s.evtsWait then s else s.noteStall 3
    if p.room then s1.modProd prod fun x => if s.evtsWait then { x with late := x.late ++ [e] } else { x with held := x.held ++ [e] }
    else (s1.modProd prod fun x => { x with lost := x.lost + 1 }).modQ 3 fun x => { x with ovf := sat 16 (x.ovf + 1) }

/-- `Q-EVT` has drained, or no Changeover is left to wait for: what was held since tc is held like any other event (R29). -/
def EvtProd.freed (p : EvtProd) : EvtProd := { p with held := p.held ++ p.late, late := [] }

/-- Every producer's events held since tc may go. -/
def State.freeLate (s : State) : State := { s with prods := s.prods.map EvtProd.freed }

/-- The producer number of the peripheral event merger and of the engines (R45). -/
def prGD : Nat := 0
def prDE : Nat := 1
def prPeri : Nat := 2
def prJN : Nat := 3
def prZC (c : Nat) : Nat := 4 + c
def prPE : Nat := 8
def prSE (k : Nat) : Nat := 9 + k
def prRec : Nat := 11

/-- Sends held events in order while credits last; `n` bounds the sends. -/
def State.sendHeld (s : State) (prod : Nat) : Nat → State
  | 0 => s
  | n + 1 =>
    match (s.prods.getD prod {}).held with
    | [] => s
    | e :: rest =>
      if s.evtGoes prod e.pri then State.sendHeld ((s.modProd prod fun x => { x with held := rest }).sendEvt prod e) prod n else s

/-- After the buffer has emptied, one overflow event carries the count (R45). -/
def State.sendOverflow (s : State) (prod : Nat) : State :=
  let p := s.prods.getD prod {}
  if p.held.isEmpty && p.late.isEmpty && p.lost != 0 && s.evtGoes prod 1 then
    (s.modProd prod fun x => { x with lost := 0 }).sendEvt prod (mkEvt prod evEvtOverflow 0 (prod * 2 ^ 24 + p.lost % 2 ^ 24))
  else s

/-- The oldest entry of the highest non-empty ring (R39). -/
def popEvt : List (List EvtEntry) → Option (EvtEntry × List (List EvtEntry))
  | [] => none
  | [] :: rs =>
    match popEvt rs with
    | none => none
    | some (e, rs') => some (e, [] :: rs')
  | (e :: r) :: rs => some (e, r :: rs)

/-- A poisoned entry was delivered (R41). -/
def State.notePoison (s : State) (q : Nat) : State :=
  s.modQ q fun x => { x with poison := sat 16 (x.poison + 1), poisonSeen := true }

/-- A poisoned entry of a queue other than `Q-EVT`: its consumer raises one event (R42). -/
def State.poisonEvent (s : State) (prod q : Nat) : State := (s.notePoison q).raise prod evQueuePoison 0 q

/-- A read of an empty queue (R43): counted, and logged at most once per queue and period. -/
def State.underrunBy (s : State) (prod q : Nat) : State :=
  let first := !(s.qst.getD q {}).underLogged
  let s1 := s.modQ q fun x => { x with underrun := sat 16 (x.underrun + 1), underSeen := true, underLogged := true }
  if first then s1.raise prod evQueueUnderrun 0 q else s1

/-- `SB` reads an empty `Q-EVT`. -/
def State.underrunEvt (s : State) : State :=
  let first := !(s.qst.getD 3 {}).underLogged
  let s1 := s.modQ 3 fun x => { x with underrun := sat 16 (x.underrun + 1), underSeen := true, underLogged := true }
  if first then s1.sbEvent evQueueUnderrun 0 3 else s1

/-- `SB` takes one entry from `Q-EVT` into the log (R150, R460); `hook` is what `SB` does with the event when it is not
poisoned, given its code, instance and argument. -/
def State.takeEvt (hook : State → Nat → Nat → Nat → State) (s : State) : State :=
  match popEvt s.qEvt with
  | none => s.underrunEvt
  | some (e, q) =>
    let s1 := { s with qEvt := q }
    let bad := parityOf e.w0 != e.p0 || parityOf e.w1 != e.p1
    let w0 := e.w0.toNat
    let s2 := if bad then s1.notePoison 3 else s1
    let s3 := s2.logEntry (bits w0 15 0) (bits w0 27 16) (bits w0 29 28) bad (if bad then bits w0 31 16 else 0) e.w1.toNat
    if bad then s3 else hook s3 (bits w0 15 0) (bits w0 27 16) e.w1.toNat

/-- `n` entries at most are taken from `Q-EVT`. -/
def State.takeEvts (hook : State → Nat → Nat → Nat → State) (s : State) : Nat → State
  | 0 => s
  | n + 1 => if (s.qEvt.map List.length).sum == 0 then s else State.takeEvts hook (s.takeEvt hook) n

end Sys2Proof.Machine
end

