-- ==== Sys2Proof/Machine/HostLink.lean ====
section
/-!
DEFINITION. Sys2Proof/Machine/HostLink.lean: the SPI target (R94–R100, R461), the hardware registers (R101), the slots
and doorbells (R105), the window and its descriptors (R111–R116), responses and the kept sequence (R104, R107), the end
of window transfers (R118, R119) and the host's talk (R120).
-/
namespace Sys2Proof.Machine
open Sys2Proof

/-! ### Status codes (Table 5.17) -/

def stOk : Nat := 0x00
def stBusy : Nat := 0x01
def stBusyRecall : Nat := 0x02
def stBadCheck : Nat := 0x03
def stBadVersion : Nat := 0x04
def stBadObject : Nat := 0x05
def stRange : Nat := 0x06
def stDenied : Nat := 0x07
def stCancelled : Nat := 0x08
def stNotInMode : Nat := 0x09
def stTimeout : Nat := 0x0A
def stUnreachable : Nat := 0x0B
def stPartial : Nat := 0x0C

/-! ### Errors (Table 4.4, R461) -/

/-- The flag a cause sets, with `DB_ERR`. -/
def errFlag (cause : Nat) (s : State) : State :=
  let s1 := s.ring 0x1000
  if cause == 0x05 || cause == 0x09 || cause == 0x0A then { s1 with host.ownErr := true }
  else if cause == 0x06 then { s1 with host.slotErr := true }
  else { s1 with host.spiErr := true }

/-- The causes of one transaction in byte order: every flag is set and `ERR_INFO` takes the first (R461). -/
def errReport (l : List (Nat × Nat)) (s : State) : State :=
  match l with
  | [] => s
  | (c, a) :: _ => { l.foldl (fun t p => errFlag p.1 t) s with host.errCause := c, host.errAddr := a % 2 ^ 24 }

/-! ### Responses (R104, R105, R107) -/

/-- Header and payload bytes of a response in device-to-host slot `slot`. -/
def responseBytes (slot : Nat) (h : ReqHdr) (payload : List Byte) : List Byte :=
  let hd := leBytes 1 h.opcode ++ [1#8] ++ leBytes 2 payload.length ++ leBytes 4 h.seq ++ leBytes 4 h.object
  hd ++ leBytes 4 (mailboxCheck (8 + slot) h.seq hd payload) ++ payload

/-- Writes response bytes into a device-to-host slot, then sets `DB_RESP` and clears `H2D_BUSY` in one step (R105). -/
def State.deliver (s : State) (slot : Nat) (b : List Byte) : State :=
  State.ring { s with host.d2h := s.host.d2h.writeBytes (256 * slot) b, host.busy := putBit s.host.busy slot false }
    (2 ^ slot)

/-- Answers a request with a status word and data; `keep` says that the request passed its check, so that it becomes
the kept request of its slot. `BAD_CHECKS` counts the host's requests answered `BAD_CHECK`, at whatever step (R121). -/
def State.respondKeep (s : State) (keep : Bool) (h : ReqHdr) (status detail : Nat) (data : List Byte) : State :=
  match h.origin with
  | .host slot =>
    let b := responseBytes slot h (leBytes 1 status ++ [0#8] ++ leBytes 2 detail ++ data)
    let s0 := s.deliver slot b
    let s1 := if status == stBadCheck then { s0 with host.badChecks := sat 16 (s0.host.badChecks + 1) } else s0
    if keep then { s1 with host.kept := lset s1.host.kept slot (some (h.seq, b)) } else s1
  | .fabric node xact =>
    { s with host.replies := s.host.replies ++
        [{ node := node, xact := xact, opcode := h.opcode, object := h.object, status := status, detail := detail,
           data := data }] }
  | .panel _ => s

/-- Answers a request that passed its check. -/
def State.respond (s : State) (h : ReqHdr) (status detail : Nat) (data : List Byte) : State :=
  s.respondKeep true h status detail data

/-! ### Talk (R120) -/

/-- The host talks: `LINK_LOST` clears and its end is logged. -/
def State.talk (s : State) : State :=
  let s1 := { s with host.talkAt := s.now }
  if s.host.linkLost then ({ s1 with host.linkLost := false }).sbEvent evLinkBack 0 0 else s1

/-! ### Window descriptors (Table 4.8) -/

/-- Window offset of descriptor `d`. -/
def State.descAt (s : State) (d : Nat) : Nat := s.host.wdescBase * 512 + 8 * d

/-- Word `k` of descriptor `d`. -/
def State.descWord (s : State) (d k : Nat) : Nat := s.host.window.le (s.descAt d + 4 * k) 4

/-- `OWNER`: 0 `FREE`, 1 `HOST`, 2 `DEVICE`, 3 `LOCKED`. -/
def State.owner (s : State) (d : Nat) : Nat := bits (s.descWord d 0) 31 30
def State.descSizeU (s : State) (d : Nat) : Nat := bits (s.descWord d 0) 23 16
def State.descBaseU (s : State) (d : Nat) : Nat := bits (s.descWord d 0) 9 0
/-- Buffer size in bytes. -/
def State.descSize (s : State) (d : Nat) : Nat := (s.descSizeU d + 1) * 256
/-- Window offset of the buffer. -/
def State.descBase (s : State) (d : Nat) : Nat := s.descBaseU d * 256
def State.descUse (s : State) (d : Nat) : Nat := bits (s.descWord d 1) 23 20
def State.descLast (s : State) (d : Nat) : Bool := bitOf (s.descWord d 1) 19
def State.descFill (s : State) (d : Nat) : Nat := bits (s.descWord d 1) 16 0

/-- Writes a descriptor word. -/
def State.setDescWord (s : State) (d k v : Nat) : State :=
  { s with host.window := s.host.window.writeBytes (s.descAt d + 4 * k) (leBytes 4 v) }

/-- Sets `OWNER`. -/
def State.setOwner (s : State) (d o : Nat) : State := s.setDescWord d 0 (putBits (s.descWord d 0) 31 30 o)

/-- Sets `FILL` and `LAST`. -/
def State.setFill (s : State) (d fill : Nat) (last : Bool) : State :=
  s.setDescWord d 1 (putBit (putBits (s.descWord d 1) 16 0 fill) 19 last)

/-- The device hands a buffer to `HOST`: `HSEQ`, the handover bit and the doorbell (R113). -/
def State.handToHost (s : State) (d : Nat) : State :=
  let w1 := s.descWord d 1
  let s1 := (s.setOwner d 1).setDescWord d 1 (putBits w1 31 24 (bits w1 31 24 + 1))
  State.ring { s1 with host.handover := s1.host.handover ||| 2 ^ d, host.idle := lset s1.host.idle d 0 }
    (if bits w1 23 20 == 1 then 0x100 else 0x400)

/-- The window range of a buffer with given units overlaps the descriptor table or another buffer that is not `FREE`, or
passes the end of the window (Table 4.9). -/
def State.descClash (s : State) (d sizeU baseU : Nat) : Bool :=
  let lo := baseU * 256
  let hi := lo + (sizeU + 1) * 256
  let t := s.host.wdescBase * 512
  hi > 262144 || (lo < t + 512 && t < hi) ||
    (List.range 64).any fun e => e != d && s.owner e != 0 && lo < s.descBase e + s.descSize e && s.descBase e < hi

/-! ### The end of a window transfer (R118, R119) -/

/-- The request field at fault when a transfer ends with `RANGE`, as an offset in its slot: `TOTAL` for a wrong byte count, `STREAM` for
content that is refused (R104, Table 5.17; log 65). -/
def Xfer.atFault (x : Xfer) (count : Bool) : Nat := if !count then 17 else if x.stream ≥ 0x100 then 20 else 24

/-- Ends the transfer through descriptor `d` with a status; a buffer in use is the device's again (R113), and the ends of R119 are
logged. -/
def State.endXferAt (s : State) (d status detail : Nat) : State :=
  match s.host.xfers.find? (fun x => x.desc == d) with
  | none => s
  | some x =>
    let s0 := if s.owner d == 3 then s.setOwner d 2 else s
    let s1 := { s0 with host.xfers := s0.host.xfers.filter fun y => y.desc != d }
    let data :=
      if x.stream ≥ 0x100 then []
      else if status == stOk || status == stTimeout || status == stCancelled || status == stRange then
        leBytes 4 x.moved ++ leBytes 2 x.chunks ++ [0#8, 0#8]
      else []
    let s2 := s1.respond x.hdr status detail data
    if status == stTimeout || status == stCancelled then s2.sbEvent evXferEnded 0 (status * 256 + d) else s2

/-- An end with any status but `RANGE`. -/
def State.endXfer (s : State) (d status : Nat) : State := s.endXferAt d status 0

/-- The function behind some transfers is disabled: they end `CANCELLED` (R119, R33). Which function stands behind which stream is
this model's reading (log 67): the fabric behind 0x04, the port's Timetable or the port itself behind 0x05, a region's layout behind
0x06, prediction behind 0x03 and 0x08; no function that can be disabled stands behind 0x00, 0x01, 0x02 and 0x07. -/
def State.cancelXfers (s : State) (f : Xfer → Bool) : State :=
  ((s.host.xfers.filter f).map (·.desc)).foldl (fun t d => t.endXfer d stCancelled) s

/-! ### Host writes to descriptors (R115) -/

/-- A refused descriptor write (cause 0x09). -/
def descRefuse (d k : Nat) (s : State) : State :=
  errReport [(0x09, 0x10000 + s.descAt d + 4 * k)] s

/-- The transfer through `d` goes on: the host has handed the buffer back (R118). -/
def Xfer.resume (d : Nat) (x : Xfer) : Xfer := if x.desc == d then { x with waitsHost := false } else x

/-- A whole word 0 written by the host; answers none when it is refused (Table 4.9). A resize is judged by the overlap test alone,
whatever `FILL` and `USE` of word 1 then say (log 65). A move that keeps `SIZE_U` also ends the transfer through the buffer `CANCELLED`,
as a resize does (R119; log 67). -/
def descWrite0 (d v : Nat) (s : State) : Option State :=
  let o := s.owner d
  let n := bits v 31 30
  let sizeU := bits v 23 16
  let baseU := bits v 9 0
  if bits v 29 24 != 0 || bits v 15 10 != 0 || n == 3 then none
  else
    match o, n with
    | 0, 0 => if sizeU == 0 && baseU == 0 then some (s.setDescWord d 0 v) else none
    | 0, 1 => if s.descClash d sizeU baseU then none else some ((s.setDescWord d 0 v).setDescWord d 1 0)
    | 1, 1 =>
      if s.descClash d sizeU baseU then none
      else if sizeU == s.descSizeU d && baseU == s.descBaseU d then some s
      else some ((s.setDescWord d 0 v).endXfer d stCancelled)
    | 1, 2 =>
      if sizeU == s.descSizeU d && baseU == s.descBaseU d then
        let s1 := s.setDescWord d 0 v
        let s2 := { s1 with host.idle := lset s1.host.idle d 1,
                            host.xfers := s1.host.xfers.map (Xfer.resume d) }
        let s3 := if s2.host.xfers.any (fun x => x.desc == d) then s2.setOwner d 3 else s2
        some s3.talk
      else none
    | 1, 0 => some (((s.setDescWord d 0 (putBits v 31 30 0)).setDescWord d 1 0).endXfer d stCancelled)
    | _, _ => none

/-- A whole word 1 written by the host; none when refused. -/
def descWrite1 (d v : Nat) (s : State) : Option State :=
  let w := s.descWord d 1
  let use := bits v 23 20
  let others := ((List.range 64).filter fun e => e != d && s.owner e != 0 && s.descUse e == 1).length
  if s.owner d != 1 || bits v 18 17 != 0 || use > 1 || bits v 16 0 > s.descSize d ||
      (use == 1 && (s.descSizeU d < 8 || others ≥ 2)) then none
  else some (s.setDescWord d 1 (putBits v 31 24 (bits w 31 24)))

/-- A descriptor word written by the host, `k` 0 or 1. -/
def descWrite (d k v : Nat) (s : State) : Option State := if k == 0 then descWrite0 d v s else descWrite1 d v s

/-! ### Hardware registers (Table 4.3) -/

/-- `STATUS`. -/
def State.statusReg (s : State) (guardHold : Bool) : Nat :=
  s.mn.mode.code * 2 ^ 24 + s.mn.startCause * 2 ^ 16 + s.host.proto * 2 ^ 8 + b2n s.mn.ready * 2 ^ 7 +
    b2n (s.mn.phase == .recall) * 2 ^ 6 + b2n guardHold * 2 ^ 5 + b2n s.host.linkLost * 2 ^ 4 +
    b2n s.host.ownErr * 8 + b2n s.host.spiErr * 4 + b2n s.host.slotErr * 2 + b2n s.host.start

/-- The register at word index `r` of the hardware registers. -/
def State.hwReg (s : State) (r : Nat) : Nat :=
  match r with
  | 0 => 0x32244301
  | 1 => s.mn.fwId
  | 2 => bits Config.uid.toNat 31 0
  | 3 => bits Config.uid.toNat 63 32
  | 4 => s.statusReg s.host.holdSeen
  | 6 => s.host.busy
  | 7 => s.host.db
  | 8 => s.host.irqMask
  | 9 => bits s.host.handover 31 0
  | 10 => bits s.host.handover 63 32
  | 11 => s.host.wdescBase * 512 + b2n s.host.wdescValid
  | 12 => s.host.errCause * 2 ^ 24 + s.host.errAddr
  | _ => 0

/-- Write 1 to clear (R13). -/
def w1c (old v : Nat) : Nat := old - (old &&& v)

/-- `STATUS`: the flags named are cleared. -/
def wrStatus (v : Nat) (s : State) : State :=
  { s with host.ownErr := s.host.ownErr && !bitOf v 3, host.spiErr := s.host.spiErr && !bitOf v 2,
           host.slotErr := s.host.slotErr && !bitOf v 1, host.start := s.host.start && !bitOf v 0 }

/-- `H2D_DB`: rings the slots of the set bits in ascending order; a bit for a busy slot is ignored (R105, R106). -/
def ringSlots (v : Nat) : Nat → State → State
  | 0, s => s
  | k + 1, s =>
    let n := 7 - k
    let s1 :=
      if !bitOf v n then s
      else if bitOf s.host.busy n then s
      else { s with host.busy := putBit s.host.busy n true, host.db := putBit s.host.db n false,
                    host.reqs := s.host.reqs ++ [{ origin := .host n }] }
    ringSlots v k s1

/-- `H2D_DB` written with `v`. -/
def wrH2dDb (v : Nat) (s : State) : State :=
  let busyHit := (v &&& s.host.busy) % 256 != 0
  let s1 := ringSlots (v % 256) 8 s
  if busyHit then errReport [(0x06, 0x14)] s1 else s1

/-- The doorbell status register. -/
def wrDb (v : Nat) (s : State) : State := { s with host.db := w1c s.host.db (v % 2 ^ 13) }

/-- `IRQ_MASK`. -/
def wrIrqMask (v : Nat) (s : State) : State := { s with host.irqMask := v % 2 ^ 13 }

/-- `HANDOVER_LO` and `HANDOVER_HI`. -/
def wrHandover (hi : Bool) (v : Nat) (s : State) : State :=
  { s with host.handover := w1c s.host.handover (if hi then v * 2 ^ 32 else v) }

/-- `WDESC` (R111). A refused write is reported at the register's first byte (log 65). -/
def wrWdesc (v : Nat) (s : State) : State :=
  let base := bits v 17 9
  let valid := bitOf v 0
  let inUse := s.host.wdescValid && (List.range 64).any fun d => s.owner d != 0
  let changes := base != s.host.wdescBase || (s.host.wdescValid && !valid)
  if inUse && changes then errReport [(0x0A, 0x2C)] s
  else
    let zero := valid && (!s.host.wdescValid || base != s.host.wdescBase)
    let s1 := { s with host.wdescBase := base, host.wdescValid := valid }
    if zero then { s1 with host.window := s1.host.window.writeBytes (base * 512) (List.replicate 512 0#8),
                           host.idle := List.replicate 64 0 }
    else s1

/-- A whole register write by word index. -/
def wrReg (r v : Nat) (s : State) : State :=
  match r with
  | 4 => wrStatus v s
  | 5 => wrH2dDb v s
  | 7 => wrDb v s
  | 8 => wrIrqMask v s
  | 9 => wrHandover false v s
  | 10 => wrHandover true v s
  | 11 => wrWdesc v s
  | _ => s

/-! ### SPI regions (Table 4.2, R97, R98) -/

/-- The regions of R98. -/
inductive SpiRegion where
  | regs | h2d (n : Nat) | d2h (n : Nat) | window | unmapped
  deriving DecidableEq, Repr

/-- The region of an address, with its first and last address. -/
def spiRegion (a : Nat) : SpiRegion × Nat × Nat :=
  if a < 0x40 then (.regs, 0, 0x3F)
  else if a < 0x1000 then (.unmapped, 0x40, 0xFFF)
  else if a < 0x1800 then (.h2d ((a - 0x1000) / 256), 0x1000 + (a - 0x1000) / 256 * 256, 0x10FF + (a - 0x1000) / 256 * 256)
  else if a < 0x2000 then (.d2h ((a - 0x1800) / 256), 0x1800 + (a - 0x1800) / 256 * 256, 0x18FF + (a - 0x1800) / 256 * 256)
  else if a < 0x10000 then (.unmapped, 0x2000, 0xFFFF)
  else if a < 0x50000 then (.window, 0x10000, 0x4FFFF)
  else (.unmapped, 0x50000, 0xFFFFFF)

/-- The limits that a transaction of `n` bytes from `a` breaks whatever its region (R98, R461). When the 4,097th byte is also the first
beyond the region, cause 0x02 is reported first (log 65). -/
def limitErrs (a n : Nat) : List (Nat × Nat) :=
  let last := (spiRegion a).2.2
  (if a + n > last + 1 && last + 1 < a + 4096 then [(0x01, last + 1)] else []) ++ (if n > 4096 then [(0x02, a + 4096)] else []) ++
    (if a + n > last + 1 && a + 4096 ≤ last + 1 then [(0x01, last + 1)] else [])

/-- The number of data bytes a transaction moves inside its region. -/
def spiLen (a n : Nat) : Nat := min (min n 4096) ((spiRegion a).2.2 + 1 - a)

/-- A window offset inside a buffer that belongs to `HOST`. -/
def State.hostByte (s : State) (off : Nat) : Bool :=
  (List.range 64).any fun d => s.owner d == 1 && s.descBase d ≤ off && off < s.descBase d + s.descSize d

/-- A window offset inside the descriptor table. -/
def State.tableByte (s : State) (off : Nat) : Bool :=
  s.host.wdescBase * 512 ≤ off && off < s.host.wdescBase * 512 + 512

/-- One byte as a host read sees it. -/
def State.spiByte (s : State) (a : Nat) : Byte :=
  match (spiRegion a).1 with
  | .regs => (leBytes 4 (s.hwReg (a / 4))).getD (a % 4) 0#8
  | .h2d _ => s.host.h2d.read (a - 0x1000)
  | .d2h _ => s.host.d2h.read (a - 0x1800)
  | .window =>
    if s.host.wdescValid && (s.hostByte (a - 0x10000) || s.tableByte (a - 0x10000)) then s.host.window.read (a - 0x10000) else 0#8
  | .unmapped => 0#8

/-- The first byte of a read that the region refuses. -/
def State.readErrs (s : State) (a n : Nat) : List (Nat × Nat) :=
  match (spiRegion a).1 with
  | .unmapped => if n == 0 then [] else [(0x08, a)]
  | .window =>
    match (List.range n).find? fun k => !(s.host.wdescValid && (s.hostByte (a + k - 0x10000) || s.tableByte (a + k - 0x10000))) with
    | some k => [(0x05, a + k)]
    | none => []
  | _ => []

/-- A read transaction of `n` bytes: the data driven, zeros beyond the limits, and the errors. -/
def spiReadOp (a n : Nat) (s : State) : State :=
  let len := spiLen a n
  let data := (List.range n).map fun k => if k < len then s.spiByte (a + k) else 0#8
  errReport (s.readErrs a len ++ limitErrs a n) { s with host.lastRead := data }

/-- Whole registers of a write are applied in order; a register cut short at either end leaves an error. A write with a complete
address and no data leaves the error of the register that its address lies inside, and none at an aligned address (log 68). -/
def spiWriteRegs (a : Nat) (data : List Byte) : Nat → Nat → State → List (Nat × Nat) → State × List (Nat × Nat)
  | 0, _, s, es => (s, es)
  | k + 1, r, s, es =>
    let lo := 4 * r
    if lo + 4 ≤ a || a + data.length ≤ lo then spiWriteRegs a data k (r + 1) s es
    else if a ≤ lo && lo + 4 ≤ a + data.length then
      let before := s.host.errCause
      let s1 := wrReg r (leAt data (lo - a) 4) { s with host.errCause := 0 }
      let e := if s1.host.errCause == 0 then [] else [(s1.host.errCause, s1.host.errAddr)]
      spiWriteRegs a data k (r + 1) { s1 with host.errCause := before, host.errAddr := s.host.errAddr } (es ++ e)
    else spiWriteRegs a data k (r + 1) s (es ++ [(0x07, lo)])

/-- Descriptor words of a window write, `k` words of the table left, word index `w` of the table. A write with a complete address
and no data leaves the error of the word that its address lies inside, and none at an aligned address (log 68). -/
def spiWriteDescs (a : Nat) (data : List Byte) : Nat → Nat → State → List (Nat × Nat) → State × List (Nat × Nat)
  | 0, _, s, es => (s, es)
  | k + 1, w, s, es =>
    let lo := 0x10000 + s.host.wdescBase * 512 + 4 * w
    if lo + 4 ≤ a || a + data.length ≤ lo then spiWriteDescs a data k (w + 1) s es
    else if a ≤ lo && lo + 4 ≤ a + data.length then
      match descWrite (w / 2) (w % 2) (leAt data (lo - a) 4) s with
      | some s1 => spiWriteDescs a data k (w + 1) s1 es
      | none => spiWriteDescs a data k (w + 1) s (es ++ [(0x09, lo)])
    else spiWriteDescs a data k (w + 1) s (es ++ [(0x09, max lo a)])

/-- Plain buffer bytes of a window write; bytes outside are discarded. -/
def spiWriteBuf (a : Nat) : List Byte → State → List (Nat × Nat) → State × List (Nat × Nat)
  | [], s, es => (s, es)
  | b :: bs, s, es =>
    let off := a - 0x10000
    if s.host.wdescValid && s.tableByte off then spiWriteBuf (a + 1) bs s es
    else if s.host.wdescValid && s.hostByte off then
      spiWriteBuf (a + 1) bs { s with host.window := s.host.window.write off b } es
    else spiWriteBuf (a + 1) bs s (if es.isEmpty then [(0x05, a)] else es)

/-- Errors of one transaction in byte order: a stable insertion by address. -/
def errInsert (e : Nat × Nat) : List (Nat × Nat) → List (Nat × Nat)
  | [] => [e]
  | x :: l => if e.2 < x.2 then e :: x :: l else x :: errInsert e l

/-- Sorted by address. -/
def errSort (l : List (Nat × Nat)) : List (Nat × Nat) := l.foldl (fun acc e => errInsert e acc) []

/-- A write transaction, applied when it ends (R99). -/
def spiWriteOp (a : Nat) (data : List Byte) (s : State) : State :=
  let n := data.length
  let d := data.take (spiLen a n)
  let r := spiRegion a
  let (s1, es) :=
    match r.1 with
    | .regs => spiWriteRegs a d 16 0 s []
    | .h2d k =>
      if d.isEmpty then (s, [])
      else if bitOf s.host.busy k then (s, [(0x06, a)])
      else ({ s with host.h2d := s.host.h2d.writeBytes (a - 0x1000) d }, [])
    | .d2h _ => (s, if d.isEmpty then [] else [(0x0B, a)])
    | .window =>
      let t := 0x10000 + s.host.wdescBase * 512
      if s.host.wdescValid then
        let b := spiWriteBuf a (d.take (t - a)) s []
        let c := spiWriteDescs a d 128 0 b.1 b.2
        let e := spiWriteBuf (max a (t + 512)) (d.drop (t + 512 - a)) c.1 []
        (e.1, c.2 ++ e.2)
      else spiWriteBuf a d s []
    | .unmapped => (s, if d.isEmpty then [] else [(0x08, a)])
  errReport (errSort (es ++ limitErrs a n)) s1

end Sys2Proof.Machine
end

