-- ==== Sys2Proof/Machine/Fields.lean ====
section
/-!
DEFINITION. Sys2Proof/Machine/Fields.lean: the field tables of the objects: for each field its word, bits, access,
default and accepted range, as the spec's field tables give them; reading a field in force (R125).
-/
namespace Sys2Proof.Machine
open Sys2Proof

/-- Access codes. -/
inductive Acc where
  | rw | ro | w1c | wo
  deriving DecidableEq, Repr

/-- What a field accepts; its default is always accepted (R110). -/
inductive Rng where
  | any
  | nat (lo hi : Nat)
  | step (lo hi by_ : Nat)
  | natx (lo hi : Nat) (more : List Nat)
  | oneOf (l : List Nat)
  | sint (lo hi : Int)
  | flt (lo hi : F32)
  | fltx (lo hi : F32) (more : List F32)
  | fin
  | ge0
  | gt0
  deriving DecidableEq, Repr

/-- A field of a group: word, bits [hi:lo], access, default, accepted values. -/
structure Fld where
  word : Nat
  hi : Nat
  lo : Nat
  acc : Acc
  dflt : Nat
  rng : Rng
  deriving DecidableEq, Repr

/-- A field group: its length in words, the `TAKES` of its writes, its fields. -/
structure Grp where
  words : Nat
  takes : Nat
  flds : List Fld
  deriving DecidableEq, Repr

/-- True for a value a field accepts (R110). -/
def Fld.accepts (f : Fld) (v : Nat) : Bool :=
  v == f.dflt || (match f.rng with
  | .any => true
  | .nat lo hi => decide (lo ≤ v) && decide (v ≤ hi)
  | .step lo hi k => decide (lo ≤ v) && decide (v ≤ hi) && v % k == 0
  | .natx lo hi l => (decide (lo ≤ v) && decide (v ≤ hi)) || l.contains v
  | .oneOf l => l.contains v
  | .sint lo hi => decide (lo ≤ sgn (f.hi + 1 - f.lo) v) && decide (sgn (f.hi + 1 - f.lo) v ≤ hi)
  | .flt lo hi => fLe lo (wd v) && fLe (wd v) hi
  | .fltx lo hi l => (fLe lo (wd v) && fLe (wd v) hi) || l.contains (wd v)
  | .fin => !fNotFinite (wd v)
  | .ge0 => !fNotFinite (wd v) && fLe fZero (wd v)
  | .gt0 => !fNotFinite (wd v) && fLt fZero (wd v))

/-- The default word `w` of a group. -/
def Grp.dfltWord (g : Grp) (w : Nat) : Nat :=
  (g.flds.filter fun f => f.word == w && f.acc == .rw).foldl (fun a f => putBits a f.hi f.lo f.dflt) 0

/-- A field in force on an object. -/
def State.cf (s : State) (obj : Nat) (f : Fld) : Nat :=
  match assocGet s.cfg (cfgKey obj f.word) with
  | some w => bits w.toNat f.hi f.lo
  | none => f.dflt

/-- A one-bit field in force. -/
def State.cfb (s : State) (obj : Nat) (f : Fld) : Bool := s.cf obj f != 0

/-- A binary32 field in force. -/
def State.cff (s : State) (obj : Nat) (f : Fld) : F32 := wd (s.cf obj f)

/-- The field at a further word of a repeated layout. -/
def Fld.at_ (f : Fld) (off : Nat) : Fld := { f with word := f.word + off }


/-! ### Class 0x11, group 0x010 (Table 1.7) -/

/-- `PERIOD_MS`. -/
def Fd.period.PERIOD_MS : Fld := ⟨0, 15, 0, .rw, 1000, .step 250 10000 10⟩
/-- `ZONE_AT_PCT`. -/
def Fd.period.ZONE_AT_PCT : Fld := ⟨1, 23, 16, .rw, 75, .nat 10 80⟩
/-- `PLAN_EVERY`. -/
def Fd.period.PLAN_EVERY : Fld := ⟨1, 15, 0, .rw, 60, .nat 10 600⟩
/-- `CORE_ACTIVE`. -/
def Fd.period.CORE_ACTIVE : Fld := ⟨2, 7, 4, .ro, 15, .any⟩
/-- `CORE_ENABLE`. -/
def Fd.period.CORE_ENABLE : Fld := ⟨2, 3, 0, .rw, 15, .nat 1 15⟩
/-- `CO_LAST_US`. -/
def Fd.period.CO_LAST_US : Fld := ⟨3, 31, 16, .ro, 0, .any⟩
/-- `CO_MAX_US`. -/
def Fd.period.CO_MAX_US : Fld := ⟨3, 15, 0, .ro, 0, .any⟩
/-- `SKEW_US`. -/
def Fd.period.SKEW_US : Fld := ⟨4, 31, 16, .ro, 0, .any⟩
/-- `OVERRUNS`. -/
def Fd.period.OVERRUNS : Fld := ⟨4, 15, 0, .ro, 0, .any⟩
/-- `PERIOD_COUNT`. -/
def Fd.period.PERIOD_COUNT : Fld := ⟨5, 31, 0, .ro, 0, .any⟩
def grpPeriodFlds0 : List Fld :=
  [Fd.period.PERIOD_MS, Fd.period.ZONE_AT_PCT, Fd.period.PLAN_EVERY, Fd.period.CORE_ACTIVE, Fd.period.CORE_ENABLE, Fd.period.CO_LAST_US, Fd.period.CO_MAX_US, Fd.period.SKEW_US, Fd.period.OVERRUNS, Fd.period.PERIOD_COUNT]
/-- The group of class 0x11, number 0x010. -/
def grpPeriod : Grp :=
  ⟨6, 1, grpPeriodFlds0⟩

/-! ### Class 0x11, group 0x020 (Table 2.5) -/

/-- `HIGH_WATER`. -/
def Fd.qstat.HIGH_WATER : Fld := ⟨0, 31, 16, .ro, 0, .any⟩
/-- `OCCUPANCY`. -/
def Fd.qstat.OCCUPANCY : Fld := ⟨0, 15, 0, .ro, 0, .any⟩
/-- `POISON_COUNT`. -/
def Fd.qstat.POISON_COUNT : Fld := ⟨1, 31, 16, .ro, 0, .any⟩
/-- `UNDERRUN_COUNT`. -/
def Fd.qstat.UNDERRUN_COUNT : Fld := ⟨1, 15, 0, .ro, 0, .any⟩
/-- `CREDIT_STALLS`. -/
def Fd.qstat.CREDIT_STALLS : Fld := ⟨2, 31, 0, .ro, 0, .any⟩
/-- `OVF_EVENTS`. -/
def Fd.qstat.OVF_EVENTS : Fld := ⟨3, 31, 16, .ro, 0, .any⟩
/-- `POISON_SEEN`. -/
def Fd.qstat.POISON_SEEN : Fld := ⟨3, 1, 1, .w1c, 0, .any⟩
/-- `UNDERRUN_SEEN`. -/
def Fd.qstat.UNDERRUN_SEEN : Fld := ⟨3, 0, 0, .w1c, 0, .any⟩
def grpQstatFlds0 : List Fld :=
  [Fd.qstat.HIGH_WATER, Fd.qstat.OCCUPANCY, Fd.qstat.POISON_COUNT, Fd.qstat.UNDERRUN_COUNT, Fd.qstat.CREDIT_STALLS, Fd.qstat.OVF_EVENTS, Fd.qstat.POISON_SEEN, Fd.qstat.UNDERRUN_SEEN]
/-- The group of class 0x11, number 0x020. -/
def grpQstat : Grp :=
  ⟨4, 0, grpQstatFlds0⟩

/-! ### Class 0x11, group 0x030 (Table 3.7) -/

/-- `MODE`. -/
def Fd.power.MODE : Fld := ⟨0, 27, 24, .ro, 2, .any⟩
/-- `BOOT_MODE`. -/
def Fd.power.BOOT_MODE : Fld := ⟨0, 23, 20, .rw, 4, .oneOf [3, 4]⟩
/-- `LAST_MODE`. -/
def Fd.power.LAST_MODE : Fld := ⟨0, 19, 16, .ro, 0, .any⟩
/-- `VSAVE_DV`. -/
def Fd.power.VSAVE_DV : Fld := ⟨0, 15, 8, .rw, 80, .nat 65 120⟩
/-- `PLAT_DIV`. -/
def Fd.power.PLAT_DIV : Fld := ⟨0, 4, 1, .rw, 4, .nat 1 15⟩
/-- `GZ_STBY_OK`. -/
def Fd.power.GZ_STBY_OK : Fld := ⟨0, 0, 0, .rw, 0, .any⟩
/-- `ARM_WUF`. -/
def Fd.power.ARM_WUF : Fld := ⟨1, 13, 11, .rw, 0, .any⟩
/-- `ARM_WUP`. -/
def Fd.power.ARM_WUP : Fld := ⟨1, 10, 8, .rw, 0, .any⟩
/-- `ARM_WAKE_N`. -/
def Fd.power.ARM_WAKE_N : Fld := ⟨1, 2, 2, .rw, 1, .any⟩
/-- `ARM_RTC`. -/
def Fd.power.ARM_RTC : Fld := ⟨1, 1, 1, .rw, 0, .any⟩
/-- `SAVE_ARMED`. -/
def Fd.power.SAVE_ARMED : Fld := ⟨1, 0, 0, .ro, 0, .any⟩
/-- `RTC_ALARM`. -/
def Fd.power.RTC_ALARM : Fld := ⟨2, 31, 0, .rw, 0, .any⟩
/-- `RESTARTS`. -/
def Fd.power.RESTARTS : Fld := ⟨3, 31, 16, .ro, 0, .any⟩
/-- `START_CAUSE`. -/
def Fd.power.START_CAUSE : Fld := ⟨3, 7, 0, .ro, 0, .any⟩
/-- `STATE_B`. -/
def Fd.power.STATE_B : Fld := ⟨4, 11, 8, .ro, 0, .any⟩
/-- `STATE_A`. -/
def Fd.power.STATE_A : Fld := ⟨4, 7, 4, .ro, 0, .any⟩
/-- `BANK_RUN`. -/
def Fd.power.BANK_RUN : Fld := ⟨4, 0, 0, .ro, 0, .any⟩
/-- `SAVE_LAST_US`. -/
def Fd.power.SAVE_LAST_US : Fld := ⟨5, 31, 16, .ro, 0, .any⟩
/-- `SAVE_COUNT`. -/
def Fd.power.SAVE_COUNT : Fld := ⟨5, 15, 0, .ro, 0, .any⟩
def grpPowerFlds0 : List Fld :=
  [Fd.power.MODE, Fd.power.BOOT_MODE, Fd.power.LAST_MODE, Fd.power.VSAVE_DV, Fd.power.PLAT_DIV, Fd.power.GZ_STBY_OK, Fd.power.ARM_WUF, Fd.power.ARM_WUP, Fd.power.ARM_WAKE_N, Fd.power.ARM_RTC, Fd.power.SAVE_ARMED, Fd.power.RTC_ALARM, Fd.power.RESTARTS, Fd.power.START_CAUSE, Fd.power.STATE_B, Fd.power.STATE_A, Fd.power.BANK_RUN, Fd.power.SAVE_LAST_US, Fd.power.SAVE_COUNT]
/-- The group of class 0x11, number 0x030. -/
def grpPower : Grp :=
  ⟨6, 0, grpPowerFlds0⟩

/-! ### Class 0x11, group 0x040 (Table 4.12) -/

/-- `LINK_TMO_S`. -/
def Fd.hostlink.LINK_TMO_S : Fld := ⟨0, 31, 16, .rw, 30, .natx 1 600 [0]⟩
/-- `XFER_TMO_MS`. -/
def Fd.hostlink.XFER_TMO_MS : Fld := ⟨0, 15, 0, .rw, 1000, .nat 10 60000⟩
/-- `SNAP_SKIPPED`. -/
def Fd.hostlink.SNAP_SKIPPED : Fld := ⟨1, 31, 16, .ro, 0, .any⟩
/-- `LINK_LOSSES`. -/
def Fd.hostlink.LINK_LOSSES : Fld := ⟨1, 15, 0, .ro, 0, .any⟩
/-- `SESSION`. -/
def Fd.hostlink.SESSION : Fld := ⟨2, 31, 0, .ro, 0, .any⟩
/-- `BAD_CHECKS`. -/
def Fd.hostlink.BAD_CHECKS : Fld := ⟨3, 31, 16, .ro, 0, .any⟩
/-- `PROTO`. -/
def Fd.hostlink.PROTO : Fld := ⟨3, 15, 8, .ro, 0, .any⟩
def grpHostlinkFlds0 : List Fld :=
  [Fd.hostlink.LINK_TMO_S, Fd.hostlink.XFER_TMO_MS, Fd.hostlink.SNAP_SKIPPED, Fd.hostlink.LINK_LOSSES, Fd.hostlink.SESSION, Fd.hostlink.BAD_CHECKS, Fd.hostlink.PROTO]
/-- The group of class 0x11, number 0x040. -/
def grpHostlink : Grp :=
  ⟨4, 0, grpHostlinkFlds0⟩

/-! ### Class 0x11, group 0x0B0 (Table 5.21) -/

/-- `PROF_STORED`. -/
def Fd.profile.PROF_STORED : Fld := ⟨0, 2, 2, .rw, 0, .any⟩
/-- `PROF_SRC`. -/
def Fd.profile.PROF_SRC : Fld := ⟨0, 1, 1, .ro, 0, .any⟩
/-- `PROF_ACTIVE`. -/
def Fd.profile.PROF_ACTIVE : Fld := ⟨0, 0, 0, .ro, 0, .any⟩
def grpProfileFlds0 : List Fld :=
  [Fd.profile.PROF_STORED, Fd.profile.PROF_SRC, Fd.profile.PROF_ACTIVE]
/-- The group of class 0x11, number 0x0B0. -/
def grpProfile : Grp :=
  ⟨1, 2, grpProfileFlds0⟩

/-! ### Class 0x0E, group 0x020 (Table 14.12) -/

/-- `REC_LEN`. -/
def Fd.recCfg.REC_LEN : Fld := ⟨0, 15, 0, .rw, 60, .step 4 496 4⟩
def grpRecCfgFlds0 : List Fld :=
  [Fd.recCfg.REC_LEN]
/-- The group of class 0x0E, number 0x020. -/
def grpRecCfg : Grp :=
  ⟨1, 1, grpRecCfgFlds0⟩

/-! ### Class 0x0E, group 0x010 (Table 14.11) -/

/-- `BASE`. -/
def Fd.recStat.BASE : Fld := ⟨0, 31, 0, .ro, 0, .any⟩
/-- `SIZE`. -/
def Fd.recStat.SIZE : Fld := ⟨1, 31, 0, .ro, 0, .any⟩
/-- `RECORDS`. -/
def Fd.recStat.RECORDS : Fld := ⟨2, 31, 16, .ro, 0, .any⟩
/-- `REC_MAX`. -/
def Fd.recStat.REC_MAX : Fld := ⟨2, 15, 0, .ro, 0, .any⟩
/-- `DUP_SEQS`. -/
def Fd.recStat.DUP_SEQS : Fld := ⟨3, 31, 16, .ro, 0, .any⟩
/-- `DEFAULTS`. -/
def Fd.recStat.DEFAULTS : Fld := ⟨3, 15, 0, .ro, 0, .any⟩
/-- `MIGRATED`. -/
def Fd.recStat.MIGRATED : Fld := ⟨4, 31, 16, .ro, 0, .any⟩
/-- `LOCKS`. -/
def Fd.recStat.LOCKS : Fld := ⟨4, 15, 8, .ro, 0, .any⟩
/-- `ATTEMPTS`. -/
def Fd.recStat.ATTEMPTS : Fld := ⟨4, 7, 0, .ro, 8, .any⟩
/-- `WRITES`. -/
def Fd.recStat.WRITES : Fld := ⟨5, 31, 0, .ro, 0, .any⟩
def grpRecStatFlds0 : List Fld :=
  [Fd.recStat.BASE, Fd.recStat.SIZE, Fd.recStat.RECORDS, Fd.recStat.REC_MAX, Fd.recStat.DUP_SEQS, Fd.recStat.DEFAULTS, Fd.recStat.MIGRATED, Fd.recStat.LOCKS, Fd.recStat.ATTEMPTS, Fd.recStat.WRITES]
/-- The group of class 0x0E, number 0x010. -/
def grpRecStat : Grp :=
  ⟨6, 0, grpRecStatFlds0⟩

/-! ### Class 0x11, group 0x090 (Table 14.13) -/

/-- `RECALL_US`. -/
def Fd.recSys.RECALL_US : Fld := ⟨0, 31, 16, .ro, 0, .any⟩
/-- `BAND`. -/
def Fd.recSys.BAND : Fld := ⟨0, 2, 0, .ro, 1, .any⟩
/-- `LIST`. -/
def Fd.recSys.LIST : Fld := ⟨1, 31, 16, .ro, 0, .any⟩
/-- `LIST_HIGH`. -/
def Fd.recSys.LIST_HIGH : Fld := ⟨1, 15, 0, .ro, 0, .any⟩
/-- `LOG_SKIPPED`. -/
def Fd.recSys.LOG_SKIPPED : Fld := ⟨2, 31, 16, .ro, 0, .any⟩
/-- `SAVE_DROPPED`. -/
def Fd.recSys.SAVE_DROPPED : Fld := ⟨2, 15, 0, .ro, 0, .any⟩
/-- `COPIES`. -/
def Fd.recSys.COPIES : Fld := ⟨3, 31, 0, .ro, 0, .any⟩
def grpRecSysFlds0 : List Fld :=
  [Fd.recSys.RECALL_US, Fd.recSys.BAND, Fd.recSys.LIST, Fd.recSys.LIST_HIGH, Fd.recSys.LOG_SKIPPED, Fd.recSys.SAVE_DROPPED, Fd.recSys.COPIES]
/-- The group of class 0x11, number 0x090. -/
def grpRecSys : Grp :=
  ⟨4, 0, grpRecSysFlds0⟩

/-! ### Class 0x02, group 0x010 (Table 6.6) -/

/-- `VALUE`. -/
def Fd.ptValue.VALUE : Fld := ⟨0, 31, 0, .ro, 2143289344, .any⟩
/-- `STATUS`. -/
def Fd.ptValue.STATUS : Fld := ⟨1, 31, 30, .ro, 3, .any⟩
/-- `CAUSE`. -/
def Fd.ptValue.CAUSE : Fld := ⟨1, 27, 24, .ro, 6, .any⟩
/-- `AGE_MS`. -/
def Fd.ptValue.AGE_MS : Fld := ⟨1, 23, 0, .ro, 16777215, .any⟩
/-- `RAW`. -/
def Fd.ptValue.RAW : Fld := ⟨2, 31, 0, .ro, 2143289344, .any⟩
/-- `SAMPLES`. -/
def Fd.ptValue.SAMPLES : Fld := ⟨3, 31, 0, .ro, 0, .any⟩
/-- `REJECTS`. -/
def Fd.ptValue.REJECTS : Fld := ⟨4, 31, 16, .ro, 0, .any⟩
/-- `SETTLE_DISCARDS`. -/
def Fd.ptValue.SETTLE_DISCARDS : Fld := ⟨4, 15, 0, .ro, 0, .any⟩
def grpPtValueFlds0 : List Fld :=
  [Fd.ptValue.VALUE, Fd.ptValue.STATUS, Fd.ptValue.CAUSE, Fd.ptValue.AGE_MS, Fd.ptValue.RAW, Fd.ptValue.SAMPLES, Fd.ptValue.REJECTS, Fd.ptValue.SETTLE_DISCARDS]
/-- The group of class 0x02, number 0x010. -/
def grpPtValue : Grp :=
  ⟨5, 0, grpPtValueFlds0⟩

/-! ### Class 0x02, group 0x020 (Table 6.7) -/

/-- `SRC_TYPE`. -/
def Fd.ptSource.SRC_TYPE : Fld := ⟨0, 31, 28, .rw, 0, .nat 0 6⟩
/-- `DIVIDER`. -/
def Fd.ptSource.DIVIDER : Fld := ⟨0, 19, 12, .rw, 1, .nat 1 255⟩
/-- `SRC_INDEX`. -/
def Fd.ptSource.SRC_INDEX : Fld := ⟨0, 11, 0, .rw, 0, .nat 0 4095⟩
/-- `SRC_CFG`. -/
def Fd.ptSource.SRC_CFG : Fld := ⟨1, 31, 0, .rw, 0, .any⟩
/-- `R_REF`. -/
def Fd.ptSource.R_REF : Fld := ⟨2, 31, 0, .rw, 1148846080, .flt 0x3F800000#32 0x49742400#32⟩
def grpPtSourceFlds0 : List Fld :=
  [Fd.ptSource.SRC_TYPE, Fd.ptSource.DIVIDER, Fd.ptSource.SRC_INDEX, Fd.ptSource.SRC_CFG, Fd.ptSource.R_REF]
/-- The group of class 0x02, number 0x020. -/
def grpPtSource : Grp :=
  ⟨3, 1, grpPtSourceFlds0⟩

/-! ### Class 0x02, group 0x030 (Table 6.9) -/

/-- `METHOD`. -/
def Fd.ptLin.METHOD : Fld := ⟨0, 31, 28, .rw, 0, .nat 0 6⟩
/-- `COMP_POINT`. -/
def Fd.ptLin.COMP_POINT : Fld := ⟨0, 7, 0, .rw, 255, .natx 0 159 [255]⟩
/-- `C0`. -/
def Fd.ptLin.C0 : Fld := ⟨1, 31, 0, .rw, 0, .any⟩
/-- `C1`. -/
def Fd.ptLin.C1 : Fld := ⟨2, 31, 0, .rw, 1065353216, .any⟩
/-- `C2`. -/
def Fd.ptLin.C2 : Fld := ⟨3, 31, 0, .rw, 0, .any⟩
/-- `C3`. -/
def Fd.ptLin.C3 : Fld := ⟨4, 31, 0, .rw, 0, .any⟩
def grpPtLinFlds0 : List Fld :=
  [Fd.ptLin.METHOD, Fd.ptLin.COMP_POINT, Fd.ptLin.C0, Fd.ptLin.C1, Fd.ptLin.C2, Fd.ptLin.C3]
/-- The group of class 0x02, number 0x030. -/
def grpPtLin : Grp :=
  ⟨5, 1, grpPtLinFlds0⟩

/-! ### Class 0x02, group 0x040 (Table 6.9) -/

/-- `LO`. -/
def Fd.ptCheck.LO : Fld := ⟨0, 31, 0, .rw, 3259498496, .any⟩
/-- `HI`. -/
def Fd.ptCheck.HI : Fld := ⟨1, 31, 0, .rw, 1125515264, .any⟩
/-- `RATE_MAX`. -/
def Fd.ptCheck.RATE_MAX : Fld := ⟨2, 31, 0, .rw, 1092616192, .ge0⟩
/-- `TAU_S`. -/
def Fd.ptCheck.TAU_S : Fld := ⟨3, 31, 0, .rw, 1073741824, .flt 0x00000000#32 0x45610000#32⟩
/-- `STALE_DS`. -/
def Fd.ptCheck.STALE_DS : Fld := ⟨4, 31, 16, .rw, 50, .nat 1 65535⟩
/-- `PUB_MS`. -/
def Fd.ptCheck.PUB_MS : Fld := ⟨4, 15, 0, .rw, 100, .nat 10 10000⟩
/-- `RECOVER_N`. -/
def Fd.ptCheck.RECOVER_N : Fld := ⟨5, 31, 24, .rw, 3, .nat 1 255⟩
/-- `RATE_HOLD`. -/
def Fd.ptCheck.RATE_HOLD : Fld := ⟨5, 23, 16, .rw, 3, .nat 1 255⟩
/-- `FAIL_N`. -/
def Fd.ptCheck.FAIL_N : Fld := ⟨5, 15, 8, .rw, 3, .nat 1 255⟩
/-- `MEDIAN3`. -/
def Fd.ptCheck.MEDIAN3 : Fld := ⟨5, 0, 0, .rw, 0, .any⟩
def grpPtCheckFlds0 : List Fld :=
  [Fd.ptCheck.LO, Fd.ptCheck.HI, Fd.ptCheck.RATE_MAX, Fd.ptCheck.TAU_S, Fd.ptCheck.STALE_DS, Fd.ptCheck.PUB_MS, Fd.ptCheck.RECOVER_N, Fd.ptCheck.RATE_HOLD, Fd.ptCheck.FAIL_N, Fd.ptCheck.MEDIAN3]
/-- The group of class 0x02, number 0x040. -/
def grpPtCheck : Grp :=
  ⟨6, 1, grpPtCheckFlds0⟩

/-! ### Class 0x02, group 0x050 (Table 6.9) -/

/-- `N_BP`. -/
def Fd.ptTable.N_BP : Fld := ⟨0, 4, 0, .rw, 2, .nat 2 16⟩
/-- `X0`. -/
def Fd.ptTable.X0 : Fld := ⟨1, 31, 0, .rw, 0, .any⟩
/-- `Y0`. -/
def Fd.ptTable.Y0 : Fld := ⟨2, 31, 0, .rw, 0, .any⟩
/-- `X1`. -/
def Fd.ptTable.X1 : Fld := ⟨3, 31, 0, .rw, 1065353216, .any⟩
/-- `Y1`. -/
def Fd.ptTable.Y1 : Fld := ⟨4, 31, 0, .rw, 1065353216, .any⟩
/-- `X2`. -/
def Fd.ptTable.X2 : Fld := ⟨5, 31, 0, .rw, 1073741824, .any⟩
/-- `Y2`. -/
def Fd.ptTable.Y2 : Fld := ⟨6, 31, 0, .rw, 1073741824, .any⟩
/-- `X3`. -/
def Fd.ptTable.X3 : Fld := ⟨7, 31, 0, .rw, 1077936128, .any⟩
/-- `Y3`. -/
def Fd.ptTable.Y3 : Fld := ⟨8, 31, 0, .rw, 1077936128, .any⟩
/-- `X4`. -/
def Fd.ptTable.X4 : Fld := ⟨9, 31, 0, .rw, 1082130432, .any⟩
/-- `Y4`. -/
def Fd.ptTable.Y4 : Fld := ⟨10, 31, 0, .rw, 1082130432, .any⟩
/-- `X5`. -/
def Fd.ptTable.X5 : Fld := ⟨11, 31, 0, .rw, 1084227584, .any⟩
/-- `Y5`. -/
def Fd.ptTable.Y5 : Fld := ⟨12, 31, 0, .rw, 1084227584, .any⟩
/-- `X6`. -/
def Fd.ptTable.X6 : Fld := ⟨13, 31, 0, .rw, 1086324736, .any⟩
/-- `Y6`. -/
def Fd.ptTable.Y6 : Fld := ⟨14, 31, 0, .rw, 1086324736, .any⟩
/-- `X7`. -/
def Fd.ptTable.X7 : Fld := ⟨15, 31, 0, .rw, 1088421888, .any⟩
/-- `Y7`. -/
def Fd.ptTable.Y7 : Fld := ⟨16, 31, 0, .rw, 1088421888, .any⟩
/-- `X8`. -/
def Fd.ptTable.X8 : Fld := ⟨17, 31, 0, .rw, 1090519040, .any⟩
/-- `Y8`. -/
def Fd.ptTable.Y8 : Fld := ⟨18, 31, 0, .rw, 1090519040, .any⟩
/-- `X9`. -/
def Fd.ptTable.X9 : Fld := ⟨19, 31, 0, .rw, 1091567616, .any⟩
/-- `Y9`. -/
def Fd.ptTable.Y9 : Fld := ⟨20, 31, 0, .rw, 1091567616, .any⟩
/-- `X10`. -/
def Fd.ptTable.X10 : Fld := ⟨21, 31, 0, .rw, 1092616192, .any⟩
/-- `Y10`. -/
def Fd.ptTable.Y10 : Fld := ⟨22, 31, 0, .rw, 1092616192, .any⟩
/-- `X11`. -/
def Fd.ptTable.X11 : Fld := ⟨23, 31, 0, .rw, 1093664768, .any⟩
/-- `Y11`. -/
def Fd.ptTable.Y11 : Fld := ⟨24, 31, 0, .rw, 1093664768, .any⟩
/-- `X12`. -/
def Fd.ptTable.X12 : Fld := ⟨25, 31, 0, .rw, 1094713344, .any⟩
/-- `Y12`. -/
def Fd.ptTable.Y12 : Fld := ⟨26, 31, 0, .rw, 1094713344, .any⟩
/-- `X13`. -/
def Fd.ptTable.X13 : Fld := ⟨27, 31, 0, .rw, 1095761920, .any⟩
/-- `Y13`. -/
def Fd.ptTable.Y13 : Fld := ⟨28, 31, 0, .rw, 1095761920, .any⟩
/-- `X14`. -/
def Fd.ptTable.X14 : Fld := ⟨29, 31, 0, .rw, 1096810496, .any⟩
/-- `Y14`. -/
def Fd.ptTable.Y14 : Fld := ⟨30, 31, 0, .rw, 1096810496, .any⟩
/-- `X15`. -/
def Fd.ptTable.X15 : Fld := ⟨31, 31, 0, .rw, 1097859072, .any⟩
/-- `Y15`. -/
def Fd.ptTable.Y15 : Fld := ⟨32, 31, 0, .rw, 1097859072, .any⟩
def grpPtTableFlds0 : List Fld :=
  [Fd.ptTable.N_BP, Fd.ptTable.X0, Fd.ptTable.Y0, Fd.ptTable.X1, Fd.ptTable.Y1, Fd.ptTable.X2, Fd.ptTable.Y2, Fd.ptTable.X3, Fd.ptTable.Y3, Fd.ptTable.X4, Fd.ptTable.Y4, Fd.ptTable.X5, Fd.ptTable.Y5, Fd.ptTable.X6, Fd.ptTable.Y6, Fd.ptTable.X7, Fd.ptTable.Y7, Fd.ptTable.X8, Fd.ptTable.Y8, Fd.ptTable.X9, Fd.ptTable.Y9, Fd.ptTable.X10, Fd.ptTable.Y10, Fd.ptTable.X11, Fd.ptTable.Y11, Fd.ptTable.X12, Fd.ptTable.Y12, Fd.ptTable.X13, Fd.ptTable.Y13, Fd.ptTable.X14, Fd.ptTable.Y14, Fd.ptTable.X15, Fd.ptTable.Y15]
/-- The group of class 0x02, number 0x050. -/
def grpPtTable : Grp :=
  ⟨33, 1, grpPtTableFlds0⟩

/-! ### Class 0x02, group 0x060 (Table 6.10) -/

/-- `BUS`. -/
def Fd.ptI2c.BUS : Fld := ⟨0, 31, 30, .rw, 0, .any⟩
/-- `ADDR`. -/
def Fd.ptI2c.ADDR : Fld := ⟨0, 27, 21, .rw, 0, .nat 8 119⟩
/-- `W_LEN`. -/
def Fd.ptI2c.W_LEN : Fld := ⟨0, 20, 18, .rw, 0, .nat 0 4⟩
/-- `R_LEN`. -/
def Fd.ptI2c.R_LEN : Fld := ⟨0, 17, 14, .rw, 1, .nat 1 8⟩
/-- `WAIT_MS`. -/
def Fd.ptI2c.WAIT_MS : Fld := ⟨0, 7, 0, .rw, 0, .any⟩
/-- `WBYTES`. -/
def Fd.ptI2c.WBYTES : Fld := ⟨1, 31, 0, .rw, 0, .any⟩
/-- `STRETCH_US`. -/
def Fd.ptI2c.STRETCH_US : Fld := ⟨2, 31, 16, .rw, 1000, .nat 0 10000⟩
/-- `CRC_POLY`. -/
def Fd.ptI2c.CRC_POLY : Fld := ⟨2, 15, 8, .rw, 7, .any⟩
/-- `CRC_INIT`. -/
def Fd.ptI2c.CRC_INIT : Fld := ⟨2, 7, 0, .rw, 0, .any⟩
/-- `CRC_GROUP`. -/
def Fd.ptI2c.CRC_GROUP : Fld := ⟨3, 31, 28, .rw, 0, .nat 0 7⟩
def grpPtI2cFlds0 : List Fld :=
  [Fd.ptI2c.BUS, Fd.ptI2c.ADDR, Fd.ptI2c.W_LEN, Fd.ptI2c.R_LEN, Fd.ptI2c.WAIT_MS, Fd.ptI2c.WBYTES, Fd.ptI2c.STRETCH_US, Fd.ptI2c.CRC_POLY, Fd.ptI2c.CRC_INIT, Fd.ptI2c.CRC_GROUP]
/-- The group of class 0x02, number 0x060. -/
def grpPtI2c : Grp :=
  ⟨4, 1, grpPtI2cFlds0⟩

/-! ### Class 0x11, group 0x050 (Table 6.11) -/

/-- `EXC_MODE`. -/
def Fd.frontEnd.EXC_MODE : Fld := ⟨0, 11, 8, .rw, 0, .any⟩
/-- `SCAN_MODE`. -/
def Fd.frontEnd.SCAN_MODE : Fld := ⟨0, 7, 0, .rw, 0, .any⟩
/-- `TRIG_SRC`. -/
def Fd.frontEnd.TRIG_SRC : Fld := ⟨1, 31, 0, .rw, 0, .any⟩
/-- `I2C_SPEED`. -/
def Fd.frontEnd.I2C_SPEED : Fld := ⟨2, 7, 0, .rw, 85, .any⟩
/-- `CIREF_PF`. -/
def Fd.frontEnd.CIREF_PF : Fld := ⟨3, 31, 0, .rw, 1130102784, .flt 0x42C80000#32 0x43EB0000#32⟩
/-- `SEQ_TRIG_LOST`. -/
def Fd.frontEnd.SEQ_TRIG_LOST : Fld := ⟨4, 31, 16, .ro, 0, .any⟩
/-- `SEQ_SKIPS`. -/
def Fd.frontEnd.SEQ_SKIPS : Fld := ⟨4, 15, 0, .ro, 0, .any⟩
/-- `I2C_ERRORS`. -/
def Fd.frontEnd.I2C_ERRORS : Fld := ⟨5, 31, 0, .ro, 0, .any⟩
def grpFrontEndFlds0 : List Fld :=
  [Fd.frontEnd.EXC_MODE, Fd.frontEnd.SCAN_MODE, Fd.frontEnd.TRIG_SRC, Fd.frontEnd.I2C_SPEED, Fd.frontEnd.CIREF_PF, Fd.frontEnd.SEQ_TRIG_LOST, Fd.frontEnd.SEQ_SKIPS, Fd.frontEnd.I2C_ERRORS]
/-- The group of class 0x11, number 0x050. -/
def grpFrontEnd : Grp :=
  ⟨6, 1, grpFrontEndFlds0⟩

/-! ### Class 0x11, group 0x060 (as its chapter gives it) -/

/-- `INTERLEAVE0`. -/
def Fd.sar.INTERLEAVE0 : Fld := ⟨0, 16, 16, .rw, 1, .any⟩
/-- `AVG0`. -/
def Fd.sar.AVG0 : Fld := ⟨0, 15, 12, .rw, 0, .nat 0 6⟩
/-- `ACQ_CLK0`. -/
def Fd.sar.ACQ_CLK0 : Fld := ⟨0, 6, 0, .rw, 8, .nat 4 124⟩
/-- `INTERLEAVE1`. -/
def Fd.sar.INTERLEAVE1 : Fld := ⟨1, 16, 16, .rw, 1, .any⟩
/-- `AVG1`. -/
def Fd.sar.AVG1 : Fld := ⟨1, 15, 12, .rw, 0, .nat 0 6⟩
/-- `ACQ_CLK1`. -/
def Fd.sar.ACQ_CLK1 : Fld := ⟨1, 6, 0, .rw, 8, .nat 4 124⟩
/-- `INTERLEAVE2`. -/
def Fd.sar.INTERLEAVE2 : Fld := ⟨2, 16, 16, .rw, 1, .any⟩
/-- `AVG2`. -/
def Fd.sar.AVG2 : Fld := ⟨2, 15, 12, .rw, 0, .nat 0 6⟩
/-- `ACQ_CLK2`. -/
def Fd.sar.ACQ_CLK2 : Fld := ⟨2, 6, 0, .rw, 8, .nat 4 124⟩
/-- `INTERLEAVE3`. -/
def Fd.sar.INTERLEAVE3 : Fld := ⟨3, 16, 16, .rw, 1, .any⟩
/-- `AVG3`. -/
def Fd.sar.AVG3 : Fld := ⟨3, 15, 12, .rw, 0, .nat 0 6⟩
/-- `ACQ_CLK3`. -/
def Fd.sar.ACQ_CLK3 : Fld := ⟨3, 6, 0, .rw, 8, .nat 4 124⟩
/-- `INTERLEAVE4`. -/
def Fd.sar.INTERLEAVE4 : Fld := ⟨4, 16, 16, .rw, 1, .any⟩
/-- `AVG4`. -/
def Fd.sar.AVG4 : Fld := ⟨4, 15, 12, .rw, 0, .nat 0 6⟩
/-- `ACQ_CLK4`. -/
def Fd.sar.ACQ_CLK4 : Fld := ⟨4, 6, 0, .rw, 8, .nat 4 124⟩
/-- `INTERLEAVE5`. -/
def Fd.sar.INTERLEAVE5 : Fld := ⟨5, 16, 16, .rw, 1, .any⟩
/-- `AVG5`. -/
def Fd.sar.AVG5 : Fld := ⟨5, 15, 12, .rw, 0, .nat 0 6⟩
/-- `ACQ_CLK5`. -/
def Fd.sar.ACQ_CLK5 : Fld := ⟨5, 6, 0, .rw, 8, .nat 4 124⟩
/-- `TRIG_LOST0`. -/
def Fd.sar.TRIG_LOST0 : Fld := ⟨6, 31, 16, .ro, 0, .any⟩
/-- `OVR_COUNT0`. -/
def Fd.sar.OVR_COUNT0 : Fld := ⟨6, 15, 0, .ro, 0, .any⟩
/-- `TRIG_LOST1`. -/
def Fd.sar.TRIG_LOST1 : Fld := ⟨7, 31, 16, .ro, 0, .any⟩
/-- `OVR_COUNT1`. -/
def Fd.sar.OVR_COUNT1 : Fld := ⟨7, 15, 0, .ro, 0, .any⟩
/-- `TRIG_LOST2`. -/
def Fd.sar.TRIG_LOST2 : Fld := ⟨8, 31, 16, .ro, 0, .any⟩
/-- `OVR_COUNT2`. -/
def Fd.sar.OVR_COUNT2 : Fld := ⟨8, 15, 0, .ro, 0, .any⟩
/-- `TRIG_LOST3`. -/
def Fd.sar.TRIG_LOST3 : Fld := ⟨9, 31, 16, .ro, 0, .any⟩
/-- `OVR_COUNT3`. -/
def Fd.sar.OVR_COUNT3 : Fld := ⟨9, 15, 0, .ro, 0, .any⟩
/-- `TRIG_LOST4`. -/
def Fd.sar.TRIG_LOST4 : Fld := ⟨10, 31, 16, .ro, 0, .any⟩
/-- `OVR_COUNT4`. -/
def Fd.sar.OVR_COUNT4 : Fld := ⟨10, 15, 0, .ro, 0, .any⟩
/-- `TRIG_LOST5`. -/
def Fd.sar.TRIG_LOST5 : Fld := ⟨11, 31, 16, .ro, 0, .any⟩
/-- `OVR_COUNT5`. -/
def Fd.sar.OVR_COUNT5 : Fld := ⟨11, 15, 0, .ro, 0, .any⟩
def grpSarFlds0 : List Fld :=
  [Fd.sar.INTERLEAVE0, Fd.sar.AVG0, Fd.sar.ACQ_CLK0, Fd.sar.INTERLEAVE1, Fd.sar.AVG1, Fd.sar.ACQ_CLK1, Fd.sar.INTERLEAVE2, Fd.sar.AVG2, Fd.sar.ACQ_CLK2, Fd.sar.INTERLEAVE3, Fd.sar.AVG3, Fd.sar.ACQ_CLK3, Fd.sar.INTERLEAVE4, Fd.sar.AVG4, Fd.sar.ACQ_CLK4, Fd.sar.INTERLEAVE5, Fd.sar.AVG5, Fd.sar.ACQ_CLK5, Fd.sar.TRIG_LOST0, Fd.sar.OVR_COUNT0, Fd.sar.TRIG_LOST1, Fd.sar.OVR_COUNT1, Fd.sar.TRIG_LOST2, Fd.sar.OVR_COUNT2, Fd.sar.TRIG_LOST3, Fd.sar.OVR_COUNT3, Fd.sar.TRIG_LOST4, Fd.sar.OVR_COUNT4, Fd.sar.TRIG_LOST5, Fd.sar.OVR_COUNT5]
/-- The group of class 0x11, number 0x060. -/
def grpSar : Grp :=
  ⟨12, 1, grpSarFlds0⟩

/-! ### Class 0x01, group 0x020 (Table 7.2) -/

/-- `ENABLE`. -/
def Fd.znConf.ENABLE : Fld := ⟨0, 31, 31, .rw, 0, .any⟩
/-- `PRES_EN`. -/
def Fd.znConf.PRES_EN : Fld := ⟨0, 30, 30, .rw, 1, .any⟩
/-- `PLAN_EN`. -/
def Fd.znConf.PLAN_EN : Fld := ⟨0, 29, 29, .rw, 1, .any⟩
/-- `PRES_ECO`. -/
def Fd.znConf.PRES_ECO : Fld := ⟨0, 28, 28, .rw, 0, .any⟩
/-- `DEF_STATE`. -/
def Fd.znConf.DEF_STATE : Fld := ⟨0, 27, 26, .rw, 1, .any⟩
/-- `SCHED`. -/
def Fd.znConf.SCHED : Fld := ⟨0, 7, 0, .rw, 255, .natx 0 31 [255]⟩
/-- `VACANT_HOLD_S`. -/
def Fd.znConf.VACANT_HOLD_S : Fld := ⟨1, 31, 16, .rw, 900, .any⟩
/-- `UNPROVEN_N`. -/
def Fd.znConf.UNPROVEN_N : Fld := ⟨1, 15, 8, .rw, 3, .nat 1 255⟩
def grpZnConfFlds0 : List Fld :=
  [Fd.znConf.ENABLE, Fd.znConf.PRES_EN, Fd.znConf.PLAN_EN, Fd.znConf.PRES_ECO, Fd.znConf.DEF_STATE, Fd.znConf.SCHED, Fd.znConf.VACANT_HOLD_S, Fd.znConf.UNPROVEN_N]
/-- The group of class 0x01, number 0x020. -/
def grpZnConf : Grp :=
  ⟨2, 1, grpZnConfFlds0⟩

/-! ### Class 0x01, group 0x030 (Table 7.3) -/

/-- `T_PT`. -/
def Fd.znPts.T_PT : Fld := ⟨0, 31, 24, .rw, 255, .natx 0 159 [255]⟩
/-- `T_ALT`. -/
def Fd.znPts.T_ALT : Fld := ⟨0, 23, 16, .rw, 255, .natx 0 159 [255]⟩
/-- `RH_PT`. -/
def Fd.znPts.RH_PT : Fld := ⟨0, 15, 8, .rw, 255, .natx 0 159 [255]⟩
/-- `CO2_PT`. -/
def Fd.znPts.CO2_PT : Fld := ⟨0, 7, 0, .rw, 255, .natx 0 159 [255]⟩
def grpZnPtsFlds0 : List Fld :=
  [Fd.znPts.T_PT, Fd.znPts.T_ALT, Fd.znPts.RH_PT, Fd.znPts.CO2_PT]
/-- The group of class 0x01, number 0x030. -/
def grpZnPts : Grp :=
  ⟨1, 1, grpZnPtsFlds0⟩

/-! ### Class 0x01, group 0x040 (as its chapter gives it) -/

/-- `A_CLASS0`. -/
def Fd.znAct.A_CLASS0 : Fld := ⟨0, 31, 24, .rw, 0, .oneOf [0, 4, 5, 6]⟩
/-- `A_INST0`. -/
def Fd.znAct.A_INST0 : Fld := ⟨0, 23, 12, .rw, 0, .any⟩
/-- `A_ROLE0`. -/
def Fd.znAct.A_ROLE0 : Fld := ⟨0, 11, 10, .rw, 0, .any⟩
/-- `A_PLAN0`. -/
def Fd.znAct.A_PLAN0 : Fld := ⟨0, 9, 9, .rw, 1, .any⟩
/-- `A_LOOP0`. -/
def Fd.znAct.A_LOOP0 : Fld := ⟨0, 7, 0, .ro, 255, .any⟩
/-- `PROOF_PT0`. -/
def Fd.znAct.PROOF_PT0 : Fld := ⟨1, 31, 24, .rw, 255, .natx 0 159 [255]⟩
/-- `LIMIT_PT0`. -/
def Fd.znAct.LIMIT_PT0 : Fld := ⟨1, 23, 16, .rw, 255, .natx 0 159 [255]⟩
/-- `ON_PCT0`. -/
def Fd.znAct.ON_PCT0 : Fld := ⟨1, 15, 8, .rw, 50, .nat 11 100⟩
/-- `A_CLASS1`. -/
def Fd.znAct.A_CLASS1 : Fld := ⟨2, 31, 24, .rw, 0, .oneOf [0, 4, 5, 6]⟩
/-- `A_INST1`. -/
def Fd.znAct.A_INST1 : Fld := ⟨2, 23, 12, .rw, 0, .any⟩
/-- `A_ROLE1`. -/
def Fd.znAct.A_ROLE1 : Fld := ⟨2, 11, 10, .rw, 0, .any⟩
/-- `A_PLAN1`. -/
def Fd.znAct.A_PLAN1 : Fld := ⟨2, 9, 9, .rw, 1, .any⟩
/-- `A_LOOP1`. -/
def Fd.znAct.A_LOOP1 : Fld := ⟨2, 7, 0, .ro, 255, .any⟩
/-- `PROOF_PT1`. -/
def Fd.znAct.PROOF_PT1 : Fld := ⟨3, 31, 24, .rw, 255, .natx 0 159 [255]⟩
/-- `LIMIT_PT1`. -/
def Fd.znAct.LIMIT_PT1 : Fld := ⟨3, 23, 16, .rw, 255, .natx 0 159 [255]⟩
/-- `ON_PCT1`. -/
def Fd.znAct.ON_PCT1 : Fld := ⟨3, 15, 8, .rw, 50, .nat 11 100⟩
/-- `A_CLASS2`. -/
def Fd.znAct.A_CLASS2 : Fld := ⟨4, 31, 24, .rw, 0, .oneOf [0, 4, 5, 6]⟩
/-- `A_INST2`. -/
def Fd.znAct.A_INST2 : Fld := ⟨4, 23, 12, .rw, 0, .any⟩
/-- `A_ROLE2`. -/
def Fd.znAct.A_ROLE2 : Fld := ⟨4, 11, 10, .rw, 0, .any⟩
/-- `A_PLAN2`. -/
def Fd.znAct.A_PLAN2 : Fld := ⟨4, 9, 9, .rw, 1, .any⟩
/-- `A_LOOP2`. -/
def Fd.znAct.A_LOOP2 : Fld := ⟨4, 7, 0, .ro, 255, .any⟩
/-- `PROOF_PT2`. -/
def Fd.znAct.PROOF_PT2 : Fld := ⟨5, 31, 24, .rw, 255, .natx 0 159 [255]⟩
/-- `LIMIT_PT2`. -/
def Fd.znAct.LIMIT_PT2 : Fld := ⟨5, 23, 16, .rw, 255, .natx 0 159 [255]⟩
/-- `ON_PCT2`. -/
def Fd.znAct.ON_PCT2 : Fld := ⟨5, 15, 8, .rw, 50, .nat 11 100⟩
/-- `A_CLASS3`. -/
def Fd.znAct.A_CLASS3 : Fld := ⟨6, 31, 24, .rw, 0, .oneOf [0, 4, 5, 6]⟩
/-- `A_INST3`. -/
def Fd.znAct.A_INST3 : Fld := ⟨6, 23, 12, .rw, 0, .any⟩
/-- `A_ROLE3`. -/
def Fd.znAct.A_ROLE3 : Fld := ⟨6, 11, 10, .rw, 0, .any⟩
/-- `A_PLAN3`. -/
def Fd.znAct.A_PLAN3 : Fld := ⟨6, 9, 9, .rw, 1, .any⟩
/-- `A_LOOP3`. -/
def Fd.znAct.A_LOOP3 : Fld := ⟨6, 7, 0, .ro, 255, .any⟩
/-- `PROOF_PT3`. -/
def Fd.znAct.PROOF_PT3 : Fld := ⟨7, 31, 24, .rw, 255, .natx 0 159 [255]⟩
/-- `LIMIT_PT3`. -/
def Fd.znAct.LIMIT_PT3 : Fld := ⟨7, 23, 16, .rw, 255, .natx 0 159 [255]⟩
/-- `ON_PCT3`. -/
def Fd.znAct.ON_PCT3 : Fld := ⟨7, 15, 8, .rw, 50, .nat 11 100⟩
def grpZnActFlds0 : List Fld :=
  [Fd.znAct.A_CLASS0, Fd.znAct.A_INST0, Fd.znAct.A_ROLE0, Fd.znAct.A_PLAN0, Fd.znAct.A_LOOP0, Fd.znAct.PROOF_PT0, Fd.znAct.LIMIT_PT0, Fd.znAct.ON_PCT0, Fd.znAct.A_CLASS1, Fd.znAct.A_INST1, Fd.znAct.A_ROLE1, Fd.znAct.A_PLAN1, Fd.znAct.A_LOOP1, Fd.znAct.PROOF_PT1, Fd.znAct.LIMIT_PT1, Fd.znAct.ON_PCT1, Fd.znAct.A_CLASS2, Fd.znAct.A_INST2, Fd.znAct.A_ROLE2, Fd.znAct.A_PLAN2, Fd.znAct.A_LOOP2, Fd.znAct.PROOF_PT2, Fd.znAct.LIMIT_PT2, Fd.znAct.ON_PCT2, Fd.znAct.A_CLASS3, Fd.znAct.A_INST3, Fd.znAct.A_ROLE3, Fd.znAct.A_PLAN3, Fd.znAct.A_LOOP3, Fd.znAct.PROOF_PT3, Fd.znAct.LIMIT_PT3, Fd.znAct.ON_PCT3]
/-- The group of class 0x01, number 0x040. -/
def grpZnAct : Grp :=
  ⟨8, 1, grpZnActFlds0⟩

/-! ### Class 0x02, group 0x070 (Table 7.5) -/

/-- `BOUND_ZONES`. -/
def Fd.ptBind.BOUND_ZONES : Fld := ⟨0, 31, 0, .ro, 0, .any⟩
/-- `BOUND_USES`. -/
def Fd.ptBind.BOUND_USES : Fld := ⟨1, 7, 0, .ro, 0, .any⟩
def grpPtBindFlds0 : List Fld :=
  [Fd.ptBind.BOUND_ZONES, Fd.ptBind.BOUND_USES]
/-- The group of class 0x02, number 0x070. -/
def grpPtBind : Grp :=
  ⟨2, 0, grpPtBindFlds0⟩

/-! ### Class 0x08, group 0x020 (Table 7.6) -/

/-- `PIR0_PT`. -/
def Fd.presConf.PIR0_PT : Fld := ⟨0, 31, 24, .rw, 255, .natx 0 159 [255]⟩
/-- `PIR1_PT`. -/
def Fd.presConf.PIR1_PT : Fld := ⟨0, 23, 16, .rw, 255, .natx 0 159 [255]⟩
/-- `DOOR_PT`. -/
def Fd.presConf.DOOR_PT : Fld := ⟨0, 15, 8, .rw, 255, .natx 0 159 [255]⟩
/-- `P_PRIOR`. -/
def Fd.presConf.P_PRIOR : Fld := ⟨1, 31, 0, .rw, 1036831949, .flt 0x3C23D70A#32 0x3F7D70A4#32⟩
/-- `TAU_DECAY_S`. -/
def Fd.presConf.TAU_DECAY_S : Fld := ⟨2, 31, 0, .rw, 1147207680, .flt 0x41200000#32 0x47A8C000#32⟩
/-- `W_PIR`. -/
def Fd.presConf.W_PIR : Fld := ⟨3, 31, 0, .rw, 1073741824, .flt 0x00000000#32 0x41200000#32⟩
/-- `W_CO2`. -/
def Fd.presConf.W_CO2 : Fld := ⟨4, 31, 0, .rw, 1065353216, .flt 0x00000000#32 0x41200000#32⟩
/-- `S0`. -/
def Fd.presConf.S0 : Fld := ⟨5, 31, 0, .rw, 1101004800, .flt 0x00000000#32 0x447A0000#32⟩
/-- `S_SPAN`. -/
def Fd.presConf.S_SPAN : Fld := ⟨6, 31, 0, .rw, 1109393408, .flt 0x3F800000#32 0x447A0000#32⟩
/-- `W_PANEL`. -/
def Fd.presConf.W_PANEL : Fld := ⟨7, 31, 0, .rw, 1082130432, .flt 0x00000000#32 0x41200000#32⟩
/-- `W_DOOR`. -/
def Fd.presConf.W_DOOR : Fld := ⟨8, 31, 0, .rw, 1077936128, .flt 0x00000000#32 0x41200000#32⟩
/-- `DOOR_WIN_S`. -/
def Fd.presConf.DOOR_WIN_S : Fld := ⟨9, 31, 16, .rw, 120, .nat 10 3600⟩
/-- `P_ON`. -/
def Fd.presConf.P_ON : Fld := ⟨9, 15, 8, .rw, 70, .nat 1 99⟩
/-- `P_OFF`. -/
def Fd.presConf.P_OFF : Fld := ⟨9, 7, 0, .rw, 30, .nat 1 99⟩
/-- `CO2_WIN_S`. -/
def Fd.presConf.CO2_WIN_S : Fld := ⟨10, 31, 16, .rw, 300, .nat 60 3600⟩
/-- `L_MAX`. -/
def Fd.presConf.L_MAX : Fld := ⟨11, 31, 0, .rw, 1086324736, .flt 0x3F800000#32 0x41200000#32⟩
def grpPresConfFlds0 : List Fld :=
  [Fd.presConf.PIR0_PT, Fd.presConf.PIR1_PT, Fd.presConf.DOOR_PT, Fd.presConf.P_PRIOR, Fd.presConf.TAU_DECAY_S, Fd.presConf.W_PIR, Fd.presConf.W_CO2, Fd.presConf.S0, Fd.presConf.S_SPAN, Fd.presConf.W_PANEL, Fd.presConf.W_DOOR, Fd.presConf.DOOR_WIN_S, Fd.presConf.P_ON, Fd.presConf.P_OFF, Fd.presConf.CO2_WIN_S, Fd.presConf.L_MAX]
/-- The group of class 0x08, number 0x020. -/
def grpPresConf : Grp :=
  ⟨12, 1, grpPresConfFlds0⟩

/-! ### Class 0x08, group 0x010 (Table 7.7) -/

/-- `P`. -/
def Fd.presStat.P : Fld := ⟨0, 31, 0, .ro, 0, .any⟩
/-- `L`. -/
def Fd.presStat.L : Fld := ⟨1, 31, 0, .ro, 0, .any⟩
/-- `OCCUPIED`. -/
def Fd.presStat.OCCUPIED : Fld := ⟨2, 31, 31, .ro, 0, .any⟩
/-- `DOOR_WIN`. -/
def Fd.presStat.DOOR_WIN : Fld := ⟨2, 30, 30, .ro, 0, .any⟩
/-- `SINCE_S`. -/
def Fd.presStat.SINCE_S : Fld := ⟨2, 23, 0, .ro, 0, .any⟩
/-- `EV_PIR`. -/
def Fd.presStat.EV_PIR : Fld := ⟨3, 31, 31, .ro, 0, .any⟩
/-- `EV_CO2_UP`. -/
def Fd.presStat.EV_CO2_UP : Fld := ⟨3, 30, 30, .ro, 0, .any⟩
/-- `EV_CO2_DOWN`. -/
def Fd.presStat.EV_CO2_DOWN : Fld := ⟨3, 29, 29, .ro, 0, .any⟩
/-- `EV_PANEL`. -/
def Fd.presStat.EV_PANEL : Fld := ⟨3, 28, 28, .ro, 0, .any⟩
/-- `EV_DOOR`. -/
def Fd.presStat.EV_DOOR : Fld := ⟨3, 27, 27, .ro, 0, .any⟩
def grpPresStatFlds0 : List Fld :=
  [Fd.presStat.P, Fd.presStat.L, Fd.presStat.OCCUPIED, Fd.presStat.DOOR_WIN, Fd.presStat.SINCE_S, Fd.presStat.EV_PIR, Fd.presStat.EV_CO2_UP, Fd.presStat.EV_CO2_DOWN, Fd.presStat.EV_PANEL, Fd.presStat.EV_DOOR]
/-- The group of class 0x08, number 0x010. -/
def grpPresStat : Grp :=
  ⟨4, 0, grpPresStatFlds0⟩

/-! ### Class 0x07, group 0x010 (as its chapter gives it) -/

/-- `N_ENT`. -/
def Fd.sched.N_ENT : Fld := ⟨0, 5, 0, .rw, 0, .nat 0 48⟩
/-- `STATE0`. -/
def Fd.sched.STATE0 : Fld := ⟨1, 31, 30, .rw, 0, .any⟩
/-- `DAYS0`. -/
def Fd.sched.DAYS0 : Fld := ⟨1, 29, 23, .rw, 0, .any⟩
/-- `MINUTE0`. -/
def Fd.sched.MINUTE0 : Fld := ⟨1, 10, 0, .rw, 0, .nat 0 1439⟩
/-- `STATE1`. -/
def Fd.sched.STATE1 : Fld := ⟨2, 31, 30, .rw, 0, .any⟩
/-- `DAYS1`. -/
def Fd.sched.DAYS1 : Fld := ⟨2, 29, 23, .rw, 0, .any⟩
/-- `MINUTE1`. -/
def Fd.sched.MINUTE1 : Fld := ⟨2, 10, 0, .rw, 0, .nat 0 1439⟩
/-- `STATE2`. -/
def Fd.sched.STATE2 : Fld := ⟨3, 31, 30, .rw, 0, .any⟩
/-- `DAYS2`. -/
def Fd.sched.DAYS2 : Fld := ⟨3, 29, 23, .rw, 0, .any⟩
/-- `MINUTE2`. -/
def Fd.sched.MINUTE2 : Fld := ⟨3, 10, 0, .rw, 0, .nat 0 1439⟩
/-- `STATE3`. -/
def Fd.sched.STATE3 : Fld := ⟨4, 31, 30, .rw, 0, .any⟩
/-- `DAYS3`. -/
def Fd.sched.DAYS3 : Fld := ⟨4, 29, 23, .rw, 0, .any⟩
/-- `MINUTE3`. -/
def Fd.sched.MINUTE3 : Fld := ⟨4, 10, 0, .rw, 0, .nat 0 1439⟩
/-- `STATE4`. -/
def Fd.sched.STATE4 : Fld := ⟨5, 31, 30, .rw, 0, .any⟩
/-- `DAYS4`. -/
def Fd.sched.DAYS4 : Fld := ⟨5, 29, 23, .rw, 0, .any⟩
/-- `MINUTE4`. -/
def Fd.sched.MINUTE4 : Fld := ⟨5, 10, 0, .rw, 0, .nat 0 1439⟩
/-- `STATE5`. -/
def Fd.sched.STATE5 : Fld := ⟨6, 31, 30, .rw, 0, .any⟩
/-- `DAYS5`. -/
def Fd.sched.DAYS5 : Fld := ⟨6, 29, 23, .rw, 0, .any⟩
/-- `MINUTE5`. -/
def Fd.sched.MINUTE5 : Fld := ⟨6, 10, 0, .rw, 0, .nat 0 1439⟩
/-- `STATE6`. -/
def Fd.sched.STATE6 : Fld := ⟨7, 31, 30, .rw, 0, .any⟩
/-- `DAYS6`. -/
def Fd.sched.DAYS6 : Fld := ⟨7, 29, 23, .rw, 0, .any⟩
/-- `MINUTE6`. -/
def Fd.sched.MINUTE6 : Fld := ⟨7, 10, 0, .rw, 0, .nat 0 1439⟩
/-- `STATE7`. -/
def Fd.sched.STATE7 : Fld := ⟨8, 31, 30, .rw, 0, .any⟩
/-- `DAYS7`. -/
def Fd.sched.DAYS7 : Fld := ⟨8, 29, 23, .rw, 0, .any⟩
/-- `MINUTE7`. -/
def Fd.sched.MINUTE7 : Fld := ⟨8, 10, 0, .rw, 0, .nat 0 1439⟩
/-- `STATE8`. -/
def Fd.sched.STATE8 : Fld := ⟨9, 31, 30, .rw, 0, .any⟩
/-- `DAYS8`. -/
def Fd.sched.DAYS8 : Fld := ⟨9, 29, 23, .rw, 0, .any⟩
/-- `MINUTE8`. -/
def Fd.sched.MINUTE8 : Fld := ⟨9, 10, 0, .rw, 0, .nat 0 1439⟩
/-- `STATE9`. -/
def Fd.sched.STATE9 : Fld := ⟨10, 31, 30, .rw, 0, .any⟩
/-- `DAYS9`. -/
def Fd.sched.DAYS9 : Fld := ⟨10, 29, 23, .rw, 0, .any⟩
/-- `MINUTE9`. -/
def Fd.sched.MINUTE9 : Fld := ⟨10, 10, 0, .rw, 0, .nat 0 1439⟩
/-- `STATE10`. -/
def Fd.sched.STATE10 : Fld := ⟨11, 31, 30, .rw, 0, .any⟩
/-- `DAYS10`. -/
def Fd.sched.DAYS10 : Fld := ⟨11, 29, 23, .rw, 0, .any⟩
/-- `MINUTE10`. -/
def Fd.sched.MINUTE10 : Fld := ⟨11, 10, 0, .rw, 0, .nat 0 1439⟩
/-- `STATE11`. -/
def Fd.sched.STATE11 : Fld := ⟨12, 31, 30, .rw, 0, .any⟩
/-- `DAYS11`. -/
def Fd.sched.DAYS11 : Fld := ⟨12, 29, 23, .rw, 0, .any⟩
/-- `MINUTE11`. -/
def Fd.sched.MINUTE11 : Fld := ⟨12, 10, 0, .rw, 0, .nat 0 1439⟩
/-- `STATE12`. -/
def Fd.sched.STATE12 : Fld := ⟨13, 31, 30, .rw, 0, .any⟩
/-- `DAYS12`. -/
def Fd.sched.DAYS12 : Fld := ⟨13, 29, 23, .rw, 0, .any⟩
/-- `MINUTE12`. -/
def Fd.sched.MINUTE12 : Fld := ⟨13, 10, 0, .rw, 0, .nat 0 1439⟩
/-- `STATE13`. -/
def Fd.sched.STATE13 : Fld := ⟨14, 31, 30, .rw, 0, .any⟩
/-- `DAYS13`. -/
def Fd.sched.DAYS13 : Fld := ⟨14, 29, 23, .rw, 0, .any⟩
/-- `MINUTE13`. -/
def Fd.sched.MINUTE13 : Fld := ⟨14, 10, 0, .rw, 0, .nat 0 1439⟩
/-- `STATE14`. -/
def Fd.sched.STATE14 : Fld := ⟨15, 31, 30, .rw, 0, .any⟩
/-- `DAYS14`. -/
def Fd.sched.DAYS14 : Fld := ⟨15, 29, 23, .rw, 0, .any⟩
/-- `MINUTE14`. -/
def Fd.sched.MINUTE14 : Fld := ⟨15, 10, 0, .rw, 0, .nat 0 1439⟩
/-- `STATE15`. -/
def Fd.sched.STATE15 : Fld := ⟨16, 31, 30, .rw, 0, .any⟩
/-- `DAYS15`. -/
def Fd.sched.DAYS15 : Fld := ⟨16, 29, 23, .rw, 0, .any⟩
/-- `MINUTE15`. -/
def Fd.sched.MINUTE15 : Fld := ⟨16, 10, 0, .rw, 0, .nat 0 1439⟩
/-- `STATE16`. -/
def Fd.sched.STATE16 : Fld := ⟨17, 31, 30, .rw, 0, .any⟩
/-- `DAYS16`. -/
def Fd.sched.DAYS16 : Fld := ⟨17, 29, 23, .rw, 0, .any⟩
/-- `MINUTE16`. -/
def Fd.sched.MINUTE16 : Fld := ⟨17, 10, 0, .rw, 0, .nat 0 1439⟩
/-- `STATE17`. -/
def Fd.sched.STATE17 : Fld := ⟨18, 31, 30, .rw, 0, .any⟩
/-- `DAYS17`. -/
def Fd.sched.DAYS17 : Fld := ⟨18, 29, 23, .rw, 0, .any⟩
/-- `MINUTE17`. -/
def Fd.sched.MINUTE17 : Fld := ⟨18, 10, 0, .rw, 0, .nat 0 1439⟩
/-- `STATE18`. -/
def Fd.sched.STATE18 : Fld := ⟨19, 31, 30, .rw, 0, .any⟩
/-- `DAYS18`. -/
def Fd.sched.DAYS18 : Fld := ⟨19, 29, 23, .rw, 0, .any⟩
/-- `MINUTE18`. -/
def Fd.sched.MINUTE18 : Fld := ⟨19, 10, 0, .rw, 0, .nat 0 1439⟩
/-- `STATE19`. -/
def Fd.sched.STATE19 : Fld := ⟨20, 31, 30, .rw, 0, .any⟩
/-- `DAYS19`. -/
def Fd.sched.DAYS19 : Fld := ⟨20, 29, 23, .rw, 0, .any⟩
/-- `MINUTE19`. -/
def Fd.sched.MINUTE19 : Fld := ⟨20, 10, 0, .rw, 0, .nat 0 1439⟩
/-- `STATE20`. -/
def Fd.sched.STATE20 : Fld := ⟨21, 31, 30, .rw, 0, .any⟩
/-- `DAYS20`. -/
def Fd.sched.DAYS20 : Fld := ⟨21, 29, 23, .rw, 0, .any⟩
/-- `MINUTE20`. -/
def Fd.sched.MINUTE20 : Fld := ⟨21, 10, 0, .rw, 0, .nat 0 1439⟩
/-- `STATE21`. -/
def Fd.sched.STATE21 : Fld := ⟨22, 31, 30, .rw, 0, .any⟩
/-- `DAYS21`. -/
def Fd.sched.DAYS21 : Fld := ⟨22, 29, 23, .rw, 0, .any⟩
/-- `MINUTE21`. -/
def Fd.sched.MINUTE21 : Fld := ⟨22, 10, 0, .rw, 0, .nat 0 1439⟩
/-- `STATE22`. -/
def Fd.sched.STATE22 : Fld := ⟨23, 31, 30, .rw, 0, .any⟩
/-- `DAYS22`. -/
def Fd.sched.DAYS22 : Fld := ⟨23, 29, 23, .rw, 0, .any⟩
/-- `MINUTE22`. -/
def Fd.sched.MINUTE22 : Fld := ⟨23, 10, 0, .rw, 0, .nat 0 1439⟩
/-- `STATE23`. -/
def Fd.sched.STATE23 : Fld := ⟨24, 31, 30, .rw, 0, .any⟩
/-- `DAYS23`. -/
def Fd.sched.DAYS23 : Fld := ⟨24, 29, 23, .rw, 0, .any⟩
/-- `MINUTE23`. -/
def Fd.sched.MINUTE23 : Fld := ⟨24, 10, 0, .rw, 0, .nat 0 1439⟩
/-- `STATE24`. -/
def Fd.sched.STATE24 : Fld := ⟨25, 31, 30, .rw, 0, .any⟩
/-- `DAYS24`. -/
def Fd.sched.DAYS24 : Fld := ⟨25, 29, 23, .rw, 0, .any⟩
/-- `MINUTE24`. -/
def Fd.sched.MINUTE24 : Fld := ⟨25, 10, 0, .rw, 0, .nat 0 1439⟩
/-- `STATE25`. -/
def Fd.sched.STATE25 : Fld := ⟨26, 31, 30, .rw, 0, .any⟩
/-- `DAYS25`. -/
def Fd.sched.DAYS25 : Fld := ⟨26, 29, 23, .rw, 0, .any⟩
/-- `MINUTE25`. -/
def Fd.sched.MINUTE25 : Fld := ⟨26, 10, 0, .rw, 0, .nat 0 1439⟩
/-- `STATE26`. -/
def Fd.sched.STATE26 : Fld := ⟨27, 31, 30, .rw, 0, .any⟩
/-- `DAYS26`. -/
def Fd.sched.DAYS26 : Fld := ⟨27, 29, 23, .rw, 0, .any⟩
/-- `MINUTE26`. -/
def Fd.sched.MINUTE26 : Fld := ⟨27, 10, 0, .rw, 0, .nat 0 1439⟩
/-- `STATE27`. -/
def Fd.sched.STATE27 : Fld := ⟨28, 31, 30, .rw, 0, .any⟩
/-- `DAYS27`. -/
def Fd.sched.DAYS27 : Fld := ⟨28, 29, 23, .rw, 0, .any⟩
/-- `MINUTE27`. -/
def Fd.sched.MINUTE27 : Fld := ⟨28, 10, 0, .rw, 0, .nat 0 1439⟩
/-- `STATE28`. -/
def Fd.sched.STATE28 : Fld := ⟨29, 31, 30, .rw, 0, .any⟩
/-- `DAYS28`. -/
def Fd.sched.DAYS28 : Fld := ⟨29, 29, 23, .rw, 0, .any⟩
/-- `MINUTE28`. -/
def Fd.sched.MINUTE28 : Fld := ⟨29, 10, 0, .rw, 0, .nat 0 1439⟩
/-- `STATE29`. -/
def Fd.sched.STATE29 : Fld := ⟨30, 31, 30, .rw, 0, .any⟩
/-- `DAYS29`. -/
def Fd.sched.DAYS29 : Fld := ⟨30, 29, 23, .rw, 0, .any⟩
/-- `MINUTE29`. -/
def Fd.sched.MINUTE29 : Fld := ⟨30, 10, 0, .rw, 0, .nat 0 1439⟩
/-- `STATE30`. -/
def Fd.sched.STATE30 : Fld := ⟨31, 31, 30, .rw, 0, .any⟩
/-- `DAYS30`. -/
def Fd.sched.DAYS30 : Fld := ⟨31, 29, 23, .rw, 0, .any⟩
/-- `MINUTE30`. -/
def Fd.sched.MINUTE30 : Fld := ⟨31, 10, 0, .rw, 0, .nat 0 1439⟩
/-- `STATE31`. -/
def Fd.sched.STATE31 : Fld := ⟨32, 31, 30, .rw, 0, .any⟩
/-- `DAYS31`. -/
def Fd.sched.DAYS31 : Fld := ⟨32, 29, 23, .rw, 0, .any⟩
/-- `MINUTE31`. -/
def Fd.sched.MINUTE31 : Fld := ⟨32, 10, 0, .rw, 0, .nat 0 1439⟩
/-- `STATE32`. -/
def Fd.sched.STATE32 : Fld := ⟨33, 31, 30, .rw, 0, .any⟩
/-- `DAYS32`. -/
def Fd.sched.DAYS32 : Fld := ⟨33, 29, 23, .rw, 0, .any⟩
/-- `MINUTE32`. -/
def Fd.sched.MINUTE32 : Fld := ⟨33, 10, 0, .rw, 0, .nat 0 1439⟩
/-- `STATE33`. -/
def Fd.sched.STATE33 : Fld := ⟨34, 31, 30, .rw, 0, .any⟩
/-- `DAYS33`. -/
def Fd.sched.DAYS33 : Fld := ⟨34, 29, 23, .rw, 0, .any⟩
/-- `MINUTE33`. -/
def Fd.sched.MINUTE33 : Fld := ⟨34, 10, 0, .rw, 0, .nat 0 1439⟩
/-- `STATE34`. -/
def Fd.sched.STATE34 : Fld := ⟨35, 31, 30, .rw, 0, .any⟩
/-- `DAYS34`. -/
def Fd.sched.DAYS34 : Fld := ⟨35, 29, 23, .rw, 0, .any⟩
/-- `MINUTE34`. -/
def Fd.sched.MINUTE34 : Fld := ⟨35, 10, 0, .rw, 0, .nat 0 1439⟩
/-- `STATE35`. -/
def Fd.sched.STATE35 : Fld := ⟨36, 31, 30, .rw, 0, .any⟩
/-- `DAYS35`. -/
def Fd.sched.DAYS35 : Fld := ⟨36, 29, 23, .rw, 0, .any⟩
/-- `MINUTE35`. -/
def Fd.sched.MINUTE35 : Fld := ⟨36, 10, 0, .rw, 0, .nat 0 1439⟩
/-- `STATE36`. -/
def Fd.sched.STATE36 : Fld := ⟨37, 31, 30, .rw, 0, .any⟩
/-- `DAYS36`. -/
def Fd.sched.DAYS36 : Fld := ⟨37, 29, 23, .rw, 0, .any⟩
/-- `MINUTE36`. -/
def Fd.sched.MINUTE36 : Fld := ⟨37, 10, 0, .rw, 0, .nat 0 1439⟩
/-- `STATE37`. -/
def Fd.sched.STATE37 : Fld := ⟨38, 31, 30, .rw, 0, .any⟩
/-- `DAYS37`. -/
def Fd.sched.DAYS37 : Fld := ⟨38, 29, 23, .rw, 0, .any⟩
/-- `MINUTE37`. -/
def Fd.sched.MINUTE37 : Fld := ⟨38, 10, 0, .rw, 0, .nat 0 1439⟩
/-- `STATE38`. -/
def Fd.sched.STATE38 : Fld := ⟨39, 31, 30, .rw, 0, .any⟩
/-- `DAYS38`. -/
def Fd.sched.DAYS38 : Fld := ⟨39, 29, 23, .rw, 0, .any⟩
/-- `MINUTE38`. -/
def Fd.sched.MINUTE38 : Fld := ⟨39, 10, 0, .rw, 0, .nat 0 1439⟩
/-- `STATE39`. -/
def Fd.sched.STATE39 : Fld := ⟨40, 31, 30, .rw, 0, .any⟩
/-- `DAYS39`. -/
def Fd.sched.DAYS39 : Fld := ⟨40, 29, 23, .rw, 0, .any⟩
/-- `MINUTE39`. -/
def Fd.sched.MINUTE39 : Fld := ⟨40, 10, 0, .rw, 0, .nat 0 1439⟩
/-- `STATE40`. -/
def Fd.sched.STATE40 : Fld := ⟨41, 31, 30, .rw, 0, .any⟩
/-- `DAYS40`. -/
def Fd.sched.DAYS40 : Fld := ⟨41, 29, 23, .rw, 0, .any⟩
/-- `MINUTE40`. -/
def Fd.sched.MINUTE40 : Fld := ⟨41, 10, 0, .rw, 0, .nat 0 1439⟩
/-- `STATE41`. -/
def Fd.sched.STATE41 : Fld := ⟨42, 31, 30, .rw, 0, .any⟩
/-- `DAYS41`. -/
def Fd.sched.DAYS41 : Fld := ⟨42, 29, 23, .rw, 0, .any⟩
/-- `MINUTE41`. -/
def Fd.sched.MINUTE41 : Fld := ⟨42, 10, 0, .rw, 0, .nat 0 1439⟩
/-- `STATE42`. -/
def Fd.sched.STATE42 : Fld := ⟨43, 31, 30, .rw, 0, .any⟩
/-- `DAYS42`. -/
def Fd.sched.DAYS42 : Fld := ⟨43, 29, 23, .rw, 0, .any⟩
/-- `MINUTE42`. -/
def Fd.sched.MINUTE42 : Fld := ⟨43, 10, 0, .rw, 0, .nat 0 1439⟩
/-- `STATE43`. -/
def Fd.sched.STATE43 : Fld := ⟨44, 31, 30, .rw, 0, .any⟩
/-- `DAYS43`. -/
def Fd.sched.DAYS43 : Fld := ⟨44, 29, 23, .rw, 0, .any⟩
/-- `MINUTE43`. -/
def Fd.sched.MINUTE43 : Fld := ⟨44, 10, 0, .rw, 0, .nat 0 1439⟩
/-- `STATE44`. -/
def Fd.sched.STATE44 : Fld := ⟨45, 31, 30, .rw, 0, .any⟩
/-- `DAYS44`. -/
def Fd.sched.DAYS44 : Fld := ⟨45, 29, 23, .rw, 0, .any⟩
/-- `MINUTE44`. -/
def Fd.sched.MINUTE44 : Fld := ⟨45, 10, 0, .rw, 0, .nat 0 1439⟩
/-- `STATE45`. -/
def Fd.sched.STATE45 : Fld := ⟨46, 31, 30, .rw, 0, .any⟩
/-- `DAYS45`. -/
def Fd.sched.DAYS45 : Fld := ⟨46, 29, 23, .rw, 0, .any⟩
/-- `MINUTE45`. -/
def Fd.sched.MINUTE45 : Fld := ⟨46, 10, 0, .rw, 0, .nat 0 1439⟩
/-- `STATE46`. -/
def Fd.sched.STATE46 : Fld := ⟨47, 31, 30, .rw, 0, .any⟩
/-- `DAYS46`. -/
def Fd.sched.DAYS46 : Fld := ⟨47, 29, 23, .rw, 0, .any⟩
/-- `MINUTE46`. -/
def Fd.sched.MINUTE46 : Fld := ⟨47, 10, 0, .rw, 0, .nat 0 1439⟩
/-- `STATE47`. -/
def Fd.sched.STATE47 : Fld := ⟨48, 31, 30, .rw, 0, .any⟩
/-- `DAYS47`. -/
def Fd.sched.DAYS47 : Fld := ⟨48, 29, 23, .rw, 0, .any⟩
/-- `MINUTE47`. -/
def Fd.sched.MINUTE47 : Fld := ⟨48, 10, 0, .rw, 0, .nat 0 1439⟩
def grpSchedFlds0 : List Fld :=
  [Fd.sched.N_ENT, Fd.sched.STATE0, Fd.sched.DAYS0, Fd.sched.MINUTE0, Fd.sched.STATE1, Fd.sched.DAYS1, Fd.sched.MINUTE1, Fd.sched.STATE2, Fd.sched.DAYS2, Fd.sched.MINUTE2, Fd.sched.STATE3, Fd.sched.DAYS3, Fd.sched.MINUTE3, Fd.sched.STATE4, Fd.sched.DAYS4, Fd.sched.MINUTE4, Fd.sched.STATE5, Fd.sched.DAYS5, Fd.sched.MINUTE5, Fd.sched.STATE6, Fd.sched.DAYS6, Fd.sched.MINUTE6, Fd.sched.STATE7, Fd.sched.DAYS7, Fd.sched.MINUTE7, Fd.sched.STATE8, Fd.sched.DAYS8, Fd.sched.MINUTE8, Fd.sched.STATE9, Fd.sched.DAYS9, Fd.sched.MINUTE9, Fd.sched.STATE10, Fd.sched.DAYS10, Fd.sched.MINUTE10, Fd.sched.STATE11, Fd.sched.DAYS11, Fd.sched.MINUTE11, Fd.sched.STATE12, Fd.sched.DAYS12, Fd.sched.MINUTE12]
def grpSchedFlds1 : List Fld :=
  [Fd.sched.STATE13, Fd.sched.DAYS13, Fd.sched.MINUTE13, Fd.sched.STATE14, Fd.sched.DAYS14, Fd.sched.MINUTE14, Fd.sched.STATE15, Fd.sched.DAYS15, Fd.sched.MINUTE15, Fd.sched.STATE16, Fd.sched.DAYS16, Fd.sched.MINUTE16, Fd.sched.STATE17, Fd.sched.DAYS17, Fd.sched.MINUTE17, Fd.sched.STATE18, Fd.sched.DAYS18, Fd.sched.MINUTE18, Fd.sched.STATE19, Fd.sched.DAYS19, Fd.sched.MINUTE19, Fd.sched.STATE20, Fd.sched.DAYS20, Fd.sched.MINUTE20, Fd.sched.STATE21, Fd.sched.DAYS21, Fd.sched.MINUTE21, Fd.sched.STATE22, Fd.sched.DAYS22, Fd.sched.MINUTE22, Fd.sched.STATE23, Fd.sched.DAYS23, Fd.sched.MINUTE23, Fd.sched.STATE24, Fd.sched.DAYS24, Fd.sched.MINUTE24, Fd.sched.STATE25, Fd.sched.DAYS25, Fd.sched.MINUTE25, Fd.sched.STATE26]
def grpSchedFlds2 : List Fld :=
  [Fd.sched.DAYS26, Fd.sched.MINUTE26, Fd.sched.STATE27, Fd.sched.DAYS27, Fd.sched.MINUTE27, Fd.sched.STATE28, Fd.sched.DAYS28, Fd.sched.MINUTE28, Fd.sched.STATE29, Fd.sched.DAYS29, Fd.sched.MINUTE29, Fd.sched.STATE30, Fd.sched.DAYS30, Fd.sched.MINUTE30, Fd.sched.STATE31, Fd.sched.DAYS31, Fd.sched.MINUTE31, Fd.sched.STATE32, Fd.sched.DAYS32, Fd.sched.MINUTE32, Fd.sched.STATE33, Fd.sched.DAYS33, Fd.sched.MINUTE33, Fd.sched.STATE34, Fd.sched.DAYS34, Fd.sched.MINUTE34, Fd.sched.STATE35, Fd.sched.DAYS35, Fd.sched.MINUTE35, Fd.sched.STATE36, Fd.sched.DAYS36, Fd.sched.MINUTE36, Fd.sched.STATE37, Fd.sched.DAYS37, Fd.sched.MINUTE37, Fd.sched.STATE38, Fd.sched.DAYS38, Fd.sched.MINUTE38, Fd.sched.STATE39, Fd.sched.DAYS39]
def grpSchedFlds3 : List Fld :=
  [Fd.sched.MINUTE39, Fd.sched.STATE40, Fd.sched.DAYS40, Fd.sched.MINUTE40, Fd.sched.STATE41, Fd.sched.DAYS41, Fd.sched.MINUTE41, Fd.sched.STATE42, Fd.sched.DAYS42, Fd.sched.MINUTE42, Fd.sched.STATE43, Fd.sched.DAYS43, Fd.sched.MINUTE43, Fd.sched.STATE44, Fd.sched.DAYS44, Fd.sched.MINUTE44, Fd.sched.STATE45, Fd.sched.DAYS45, Fd.sched.MINUTE45, Fd.sched.STATE46, Fd.sched.DAYS46, Fd.sched.MINUTE46, Fd.sched.STATE47, Fd.sched.DAYS47, Fd.sched.MINUTE47]
/-- The group of class 0x07, number 0x010. -/
def grpSched : Grp :=
  ⟨49, 0, grpSchedFlds0 ++ grpSchedFlds1 ++ grpSchedFlds2 ++ grpSchedFlds3⟩

/-! ### Class 0x07, group 0x010 (as its chapter gives it) -/

/-- `YEAR`. -/
def Fd.exday.YEAR : Fld := ⟨0, 31, 25, .rw, 0, .any⟩
/-- `MONTH`. -/
def Fd.exday.MONTH : Fld := ⟨0, 24, 21, .rw, 1, .nat 1 12⟩
/-- `DAY`. -/
def Fd.exday.DAY : Fld := ⟨0, 20, 16, .rw, 1, .nat 1 31⟩
/-- `N_ENT`. -/
def Fd.exday.N_ENT : Fld := ⟨0, 3, 0, .rw, 0, .nat 0 8⟩
/-- `SCHED_MASK`. -/
def Fd.exday.SCHED_MASK : Fld := ⟨1, 31, 0, .rw, 0, .any⟩
/-- `STATE0`. -/
def Fd.exday.STATE0 : Fld := ⟨2, 31, 30, .rw, 0, .any⟩
/-- `MINUTE0`. -/
def Fd.exday.MINUTE0 : Fld := ⟨2, 10, 0, .rw, 0, .nat 0 1439⟩
/-- `STATE1`. -/
def Fd.exday.STATE1 : Fld := ⟨3, 31, 30, .rw, 0, .any⟩
/-- `MINUTE1`. -/
def Fd.exday.MINUTE1 : Fld := ⟨3, 10, 0, .rw, 0, .nat 0 1439⟩
/-- `STATE2`. -/
def Fd.exday.STATE2 : Fld := ⟨4, 31, 30, .rw, 0, .any⟩
/-- `MINUTE2`. -/
def Fd.exday.MINUTE2 : Fld := ⟨4, 10, 0, .rw, 0, .nat 0 1439⟩
/-- `STATE3`. -/
def Fd.exday.STATE3 : Fld := ⟨5, 31, 30, .rw, 0, .any⟩
/-- `MINUTE3`. -/
def Fd.exday.MINUTE3 : Fld := ⟨5, 10, 0, .rw, 0, .nat 0 1439⟩
/-- `STATE4`. -/
def Fd.exday.STATE4 : Fld := ⟨6, 31, 30, .rw, 0, .any⟩
/-- `MINUTE4`. -/
def Fd.exday.MINUTE4 : Fld := ⟨6, 10, 0, .rw, 0, .nat 0 1439⟩
/-- `STATE5`. -/
def Fd.exday.STATE5 : Fld := ⟨7, 31, 30, .rw, 0, .any⟩
/-- `MINUTE5`. -/
def Fd.exday.MINUTE5 : Fld := ⟨7, 10, 0, .rw, 0, .nat 0 1439⟩
/-- `STATE6`. -/
def Fd.exday.STATE6 : Fld := ⟨8, 31, 30, .rw, 0, .any⟩
/-- `MINUTE6`. -/
def Fd.exday.MINUTE6 : Fld := ⟨8, 10, 0, .rw, 0, .nat 0 1439⟩
/-- `STATE7`. -/
def Fd.exday.STATE7 : Fld := ⟨9, 31, 30, .rw, 0, .any⟩
/-- `MINUTE7`. -/
def Fd.exday.MINUTE7 : Fld := ⟨9, 10, 0, .rw, 0, .nat 0 1439⟩
def grpExdayFlds0 : List Fld :=
  [Fd.exday.YEAR, Fd.exday.MONTH, Fd.exday.DAY, Fd.exday.N_ENT, Fd.exday.SCHED_MASK, Fd.exday.STATE0, Fd.exday.MINUTE0, Fd.exday.STATE1, Fd.exday.MINUTE1, Fd.exday.STATE2, Fd.exday.MINUTE2, Fd.exday.STATE3, Fd.exday.MINUTE3, Fd.exday.STATE4, Fd.exday.MINUTE4, Fd.exday.STATE5, Fd.exday.MINUTE5, Fd.exday.STATE6, Fd.exday.MINUTE6, Fd.exday.STATE7, Fd.exday.MINUTE7]
/-- The group of class 0x07, number 0x010. -/
def grpExday : Grp :=
  ⟨10, 0, grpExdayFlds0⟩

/-! ### Class 0x01, group 0x050 (as its chapter gives it) -/

/-- `SP_HEAT0`. -/
def Fd.znSp.SP_HEAT0 : Fld := ⟨0, 31, 0, .rw, 1101529088, .flt 0x00000000#32 0x42480000#32⟩
/-- `SP_COOL0`. -/
def Fd.znSp.SP_COOL0 : Fld := ⟨1, 31, 0, .rw, 1103101952, .flt 0x00000000#32 0x42480000#32⟩
/-- `SP_HEAT1`. -/
def Fd.znSp.SP_HEAT1 : Fld := ⟨2, 31, 0, .rw, 1100480512, .flt 0x00000000#32 0x42480000#32⟩
/-- `SP_COOL1`. -/
def Fd.znSp.SP_COOL1 : Fld := ⟨3, 31, 0, .rw, 1104150528, .flt 0x00000000#32 0x42480000#32⟩
/-- `SP_HEAT2`. -/
def Fd.znSp.SP_HEAT2 : Fld := ⟨4, 31, 0, .rw, 1098907648, .flt 0x00000000#32 0x42480000#32⟩
/-- `SP_COOL2`. -/
def Fd.znSp.SP_COOL2 : Fld := ⟨5, 31, 0, .rw, 1105199104, .flt 0x00000000#32 0x42480000#32⟩
/-- `SP_HEAT3`. -/
def Fd.znSp.SP_HEAT3 : Fld := ⟨6, 31, 0, .rw, 1088421888, .flt 0x00000000#32 0x42480000#32⟩
/-- `SP_COOL3`. -/
def Fd.znSp.SP_COOL3 : Fld := ⟨7, 31, 0, .rw, 1108082688, .flt 0x00000000#32 0x42480000#32⟩
/-- `OFFSET_MAX`. -/
def Fd.znSp.OFFSET_MAX : Fld := ⟨8, 31, 0, .rw, 1077936128, .flt 0x00000000#32 0x41200000#32⟩
/-- `DEADBAND_MIN`. -/
def Fd.znSp.DEADBAND_MIN : Fld := ⟨9, 31, 0, .rw, 1065353216, .flt 0x3E4CCCCD#32 0x41200000#32⟩
def grpZnSpFlds0 : List Fld :=
  [Fd.znSp.SP_HEAT0, Fd.znSp.SP_COOL0, Fd.znSp.SP_HEAT1, Fd.znSp.SP_COOL1, Fd.znSp.SP_HEAT2, Fd.znSp.SP_COOL2, Fd.znSp.SP_HEAT3, Fd.znSp.SP_COOL3, Fd.znSp.OFFSET_MAX, Fd.znSp.DEADBAND_MIN]
/-- The group of class 0x01, number 0x050. -/
def grpZnSp : Grp :=
  ⟨10, 0, grpZnSpFlds0⟩

/-! ### Class 0x01, group 0x060 (Table 7.13) -/

/-- `OVR_STATE`. -/
def Fd.znOvr.OVR_STATE : Fld := ⟨0, 31, 28, .rw, 15, .natx 0 3 [15]⟩
/-- `OVR_S`. -/
def Fd.znOvr.OVR_S : Fld := ⟨1, 31, 0, .rw, 0, .nat 0 86400⟩
/-- `SP_OFFSET`. -/
def Fd.znOvr.SP_OFFSET : Fld := ⟨2, 31, 0, .rw, 0, .fin⟩
/-- `OFFSET_KEEP`. -/
def Fd.znOvr.OFFSET_KEEP : Fld := ⟨3, 31, 31, .rw, 0, .any⟩
/-- `OVR_SRC`. -/
def Fd.znOvr.OVR_SRC : Fld := ⟨3, 15, 0, .ro, 0, .any⟩
def grpZnOvrFlds0 : List Fld :=
  [Fd.znOvr.OVR_STATE, Fd.znOvr.OVR_S, Fd.znOvr.SP_OFFSET, Fd.znOvr.OFFSET_KEEP, Fd.znOvr.OVR_SRC]
/-- The group of class 0x01, number 0x060. -/
def grpZnOvr : Grp :=
  ⟨4, 0, grpZnOvrFlds0⟩

/-! ### Class 0x03, group 0x020 (Table 7.14) -/

/-- `ZONE`. -/
def Fd.loopConf.ZONE : Fld := ⟨0, 31, 24, .rw, 255, .natx 0 31 [255]⟩
/-- `PV_PT`. -/
def Fd.loopConf.PV_PT : Fld := ⟨0, 23, 16, .rw, 255, .natx 0 159 [255]⟩
/-- `SP_SRC`. -/
def Fd.loopConf.SP_SRC : Fld := ⟨0, 15, 13, .rw, 0, .nat 0 4⟩
/-- `ACTION`. -/
def Fd.loopConf.ACTION : Fld := ⟨0, 12, 12, .rw, 0, .any⟩
/-- `OUT_DST`. -/
def Fd.loopConf.OUT_DST : Fld := ⟨0, 11, 10, .rw, 0, .nat 0 1⟩
/-- `OUT_INPUT`. -/
def Fd.loopConf.OUT_INPUT : Fld := ⟨0, 9, 8, .rw, 0, .any⟩
/-- `SP_LOOP`. -/
def Fd.loopConf.SP_LOOP : Fld := ⟨0, 7, 0, .rw, 255, .natx 0 63 [255]⟩
/-- `KP`. -/
def Fd.loopConf.KP : Fld := ⟨1, 31, 0, .rw, 1065353216, .flt 0x00000000#32 0x447A0000#32⟩
/-- `TI_S`. -/
def Fd.loopConf.TI_S : Fld := ⟨2, 31, 0, .rw, 1142292480, .flt 0x00000000#32 0x470CA000#32⟩
/-- `TD_S`. -/
def Fd.loopConf.TD_S : Fld := ⟨3, 31, 0, .rw, 0, .flt 0x00000000#32 0x45610000#32⟩
/-- `N_D`. -/
def Fd.loopConf.N_D : Fld := ⟨4, 31, 0, .rw, 1092616192, .flt 0x40000000#32 0x42C80000#32⟩
/-- `TT_S`. -/
def Fd.loopConf.TT_S : Fld := ⟨5, 31, 0, .rw, 0, .flt 0x00000000#32 0x470CA000#32⟩
/-- `BIAS`. -/
def Fd.loopConf.BIAS : Fld := ⟨6, 31, 0, .rw, 0, .flt 0xC2C80000#32 0x42C80000#32⟩
/-- `OUT_MIN`. -/
def Fd.loopConf.OUT_MIN : Fld := ⟨7, 31, 0, .rw, 0, .flt 0x00000000#32 0x42C80000#32⟩
/-- `OUT_MAX`. -/
def Fd.loopConf.OUT_MAX : Fld := ⟨8, 31, 0, .rw, 1120403456, .flt 0x00000000#32 0x42C80000#32⟩
/-- `OUT_RATE`. -/
def Fd.loopConf.OUT_RATE : Fld := ⟨9, 31, 0, .rw, 0, .flt 0x00000000#32 0x42C80000#32⟩
/-- `DB`. -/
def Fd.loopConf.DB : Fld := ⟨10, 31, 0, .rw, 0, .flt 0x00000000#32 0x41200000#32⟩
/-- `SP_FIXED`. -/
def Fd.loopConf.SP_FIXED : Fld := ⟨11, 31, 0, .rw, 1101529088, .fin⟩
/-- `SP_LO`. -/
def Fd.loopConf.SP_LO : Fld := ⟨12, 31, 0, .rw, 1097859072, .fin⟩
/-- `SP_HI`. -/
def Fd.loopConf.SP_HI : Fld := ⟨13, 31, 0, .rw, 1106247680, .fin⟩
/-- `PV_FAIL_S`. -/
def Fd.loopConf.PV_FAIL_S : Fld := ⟨14, 31, 16, .rw, 60, .nat 1 3600⟩
/-- `FAIL_OUT`. -/
def Fd.loopConf.FAIL_OUT : Fld := ⟨14, 15, 8, .rw, 0, .nat 0 100⟩
def grpLoopConfFlds0 : List Fld :=
  [Fd.loopConf.ZONE, Fd.loopConf.PV_PT, Fd.loopConf.SP_SRC, Fd.loopConf.ACTION, Fd.loopConf.OUT_DST, Fd.loopConf.OUT_INPUT, Fd.loopConf.SP_LOOP, Fd.loopConf.KP, Fd.loopConf.TI_S, Fd.loopConf.TD_S, Fd.loopConf.N_D, Fd.loopConf.TT_S, Fd.loopConf.BIAS, Fd.loopConf.OUT_MIN, Fd.loopConf.OUT_MAX, Fd.loopConf.OUT_RATE, Fd.loopConf.DB, Fd.loopConf.SP_FIXED, Fd.loopConf.SP_LO, Fd.loopConf.SP_HI, Fd.loopConf.PV_FAIL_S, Fd.loopConf.FAIL_OUT]
/-- The group of class 0x03, number 0x020. -/
def grpLoopConf : Grp :=
  ⟨15, 1, grpLoopConfFlds0⟩

/-! ### Class 0x03, group 0x010 (Table 7.16) -/

/-- `OUT`. -/
def Fd.loopStat.OUT : Fld := ⟨0, 31, 0, .ro, 0, .any⟩
/-- `SP`. -/
def Fd.loopStat.SP : Fld := ⟨1, 31, 0, .ro, 0, .any⟩
/-- `PV`. -/
def Fd.loopStat.PV : Fld := ⟨2, 31, 0, .ro, 0, .any⟩
/-- `I_TERM`. -/
def Fd.loopStat.I_TERM : Fld := ⟨3, 31, 0, .ro, 0, .any⟩
/-- `L_STATE`. -/
def Fd.loopStat.L_STATE : Fld := ⟨4, 31, 28, .ro, 0, .any⟩
/-- `SAT_HI`. -/
def Fd.loopStat.SAT_HI : Fld := ⟨4, 27, 27, .ro, 0, .any⟩
/-- `SAT_LO`. -/
def Fd.loopStat.SAT_LO : Fld := ⟨4, 26, 26, .ro, 0, .any⟩
/-- `UNPROVEN`. -/
def Fd.loopStat.UNPROVEN : Fld := ⟨4, 25, 25, .ro, 0, .any⟩
/-- `BOUNDED`. -/
def Fd.loopStat.BOUNDED : Fld := ⟨4, 24, 24, .ro, 0, .any⟩
def grpLoopStatFlds0 : List Fld :=
  [Fd.loopStat.OUT, Fd.loopStat.SP, Fd.loopStat.PV, Fd.loopStat.I_TERM, Fd.loopStat.L_STATE, Fd.loopStat.SAT_HI, Fd.loopStat.SAT_LO, Fd.loopStat.UNPROVEN, Fd.loopStat.BOUNDED]
/-- The group of class 0x03, number 0x010. -/
def grpLoopStat : Grp :=
  ⟨5, 0, grpLoopStatFlds0⟩

/-! ### Class 0x01, group 0x010 (Table 7.18) -/

/-- `T`. -/
def Fd.znStat.T : Fld := ⟨0, 31, 0, .ro, 0, .any⟩
/-- `RH`. -/
def Fd.znStat.RH : Fld := ⟨1, 31, 0, .ro, 0, .any⟩
/-- `CO2`. -/
def Fd.znStat.CO2 : Fld := ⟨2, 31, 0, .ro, 0, .any⟩
/-- `OCC_P`. -/
def Fd.znStat.OCC_P : Fld := ⟨3, 31, 0, .ro, 0, .any⟩
/-- `BAND_HEAT`. -/
def Fd.znStat.BAND_HEAT : Fld := ⟨4, 31, 0, .ro, 0, .any⟩
/-- `BAND_COOL`. -/
def Fd.znStat.BAND_COOL : Fld := ⟨5, 31, 0, .ro, 0, .any⟩
/-- `PLAN_SP`. -/
def Fd.znStat.PLAN_SP : Fld := ⟨6, 31, 0, .ro, 0, .any⟩
/-- `CMD`. -/
def Fd.znStat.CMD : Fld := ⟨7, 31, 0, .ro, 4294967295, .any⟩
/-- `EFF_STATE`. -/
def Fd.znStat.EFF_STATE : Fld := ⟨8, 31, 30, .ro, 1, .any⟩
/-- `SCHED_STATE`. -/
def Fd.znStat.SCHED_STATE : Fld := ⟨8, 29, 28, .ro, 1, .any⟩
/-- `CTRL`. -/
def Fd.znStat.CTRL : Fld := ⟨8, 27, 26, .ro, 0, .any⟩
/-- `OCCUPIED`. -/
def Fd.znStat.OCCUPIED : Fld := ⟨8, 25, 25, .ro, 0, .any⟩
/-- `OVERRIDE`. -/
def Fd.znStat.OVERRIDE : Fld := ⟨8, 24, 24, .ro, 0, .any⟩
/-- `UNPROVEN`. -/
def Fd.znStat.UNPROVEN : Fld := ⟨8, 23, 20, .ro, 0, .any⟩
/-- `CLAMPED`. -/
def Fd.znStat.CLAMPED : Fld := ⟨8, 19, 16, .ro, 0, .any⟩
/-- `DIRECT`. -/
def Fd.znStat.DIRECT : Fld := ⟨8, 15, 12, .ro, 0, .any⟩
/-- `NO_TEMP`. -/
def Fd.znStat.NO_TEMP : Fld := ⟨8, 11, 11, .ro, 0, .any⟩
/-- `T_ALT_IN_USE`. -/
def Fd.znStat.T_ALT_IN_USE : Fld := ⟨8, 10, 10, .ro, 0, .any⟩
/-- `NO_TIME`. -/
def Fd.znStat.NO_TIME : Fld := ⟨8, 9, 9, .ro, 0, .any⟩
/-- `COMPUTED`. -/
def Fd.znStat.COMPUTED : Fld := ⟨8, 8, 8, .ro, 0, .any⟩
/-- `CORE`. -/
def Fd.znStat.CORE : Fld := ⟨8, 1, 0, .ro, 0, .any⟩
/-- `T_STATUS`. -/
def Fd.znStat.T_STATUS : Fld := ⟨9, 31, 30, .ro, 3, .any⟩
/-- `RH_STATUS`. -/
def Fd.znStat.RH_STATUS : Fld := ⟨9, 29, 28, .ro, 3, .any⟩
/-- `CO2_STATUS`. -/
def Fd.znStat.CO2_STATUS : Fld := ⟨9, 27, 26, .ro, 3, .any⟩
/-- `LOOPS_FAILED`. -/
def Fd.znStat.LOOPS_FAILED : Fld := ⟨9, 25, 22, .ro, 0, .any⟩
/-- `OVR_LEFT`. -/
def Fd.znStat.OVR_LEFT : Fld := ⟨10, 31, 0, .ro, 0, .any⟩
/-- `NEXT_SWITCH`. -/
def Fd.znStat.NEXT_SWITCH : Fld := ⟨11, 31, 0, .ro, 0, .any⟩
/-- `NEXT_STATE`. -/
def Fd.znStat.NEXT_STATE : Fld := ⟨12, 31, 30, .ro, 0, .any⟩
/-- `LAST_PERIOD`. -/
def Fd.znStat.LAST_PERIOD : Fld := ⟨13, 31, 0, .ro, 0, .any⟩
/-- `BOUNDS`. -/
def Fd.znStat.BOUNDS : Fld := ⟨14, 31, 0, .ro, 1684300900, .any⟩
def grpZnStatFlds0 : List Fld :=
  [Fd.znStat.T, Fd.znStat.RH, Fd.znStat.CO2, Fd.znStat.OCC_P, Fd.znStat.BAND_HEAT, Fd.znStat.BAND_COOL, Fd.znStat.PLAN_SP, Fd.znStat.CMD, Fd.znStat.EFF_STATE, Fd.znStat.SCHED_STATE, Fd.znStat.CTRL, Fd.znStat.OCCUPIED, Fd.znStat.OVERRIDE, Fd.znStat.UNPROVEN, Fd.znStat.CLAMPED, Fd.znStat.DIRECT, Fd.znStat.NO_TEMP, Fd.znStat.T_ALT_IN_USE, Fd.znStat.NO_TIME, Fd.znStat.COMPUTED, Fd.znStat.CORE, Fd.znStat.T_STATUS, Fd.znStat.RH_STATUS, Fd.znStat.CO2_STATUS, Fd.znStat.LOOPS_FAILED, Fd.znStat.OVR_LEFT, Fd.znStat.NEXT_SWITCH, Fd.znStat.NEXT_STATE, Fd.znStat.LAST_PERIOD, Fd.znStat.BOUNDS]
/-- The group of class 0x01, number 0x010. -/
def grpZnStat : Grp :=
  ⟨16, 0, grpZnStatFlds0⟩

/-! ### Class 0x11, group 0x070 (Table 7.21) -/

/-- `TREND_EVERY`. -/
def Fd.znSys.TREND_EVERY : Fld := ⟨0, 31, 16, .rw, 60, .nat 1 3600⟩
/-- `TIME_VALID`. -/
def Fd.znSys.TIME_VALID : Fld := ⟨0, 0, 0, .ro, 0, .any⟩
/-- `TREND_FRAMES`. -/
def Fd.znSys.TREND_FRAMES : Fld := ⟨1, 31, 0, .ro, 0, .any⟩
def grpZnSysFlds0 : List Fld :=
  [Fd.znSys.TREND_EVERY, Fd.znSys.TIME_VALID, Fd.znSys.TREND_FRAMES]
/-- The group of class 0x11, number 0x070. -/
def grpZnSys : Grp :=
  ⟨2, 1, grpZnSysFlds0⟩

/-! ### Class 0x09, group 0x020 (Table 8.7) -/

/-- `N_STEPS`. -/
def Fd.peConf.N_STEPS : Fld := ⟨0, 31, 26, .rw, 48, .nat 8 48⟩
/-- `N_BLOCKS`. -/
def Fd.peConf.N_BLOCKS : Fld := ⟨0, 25, 22, .rw, 12, .nat 2 12⟩
/-- `ITER_MAX`. -/
def Fd.peConf.ITER_MAX : Fld := ⟨0, 21, 12, .rw, 200, .nat 20 1000⟩
/-- `OUT_PT`. -/
def Fd.peConf.OUT_PT : Fld := ⟨0, 7, 0, .rw, 255, .natx 0 159 [255]⟩
/-- `RHO_U`. -/
def Fd.peConf.RHO_U : Fld := ⟨1, 31, 0, .rw, 1056964608, .flt 0x3A83126F#32 0x461C4000#32⟩
/-- `RHO_T`. -/
def Fd.peConf.RHO_T : Fld := ⟨2, 31, 0, .rw, 1101004800, .flt 0x3A83126F#32 0x461C4000#32⟩
/-- `SIGMA`. -/
def Fd.peConf.SIGMA : Fld := ⟨3, 31, 0, .rw, 897988541, .flt 0x322BCC77#32 0x3F800000#32⟩
/-- `ALPHA`. -/
def Fd.peConf.ALPHA : Fld := ⟨4, 31, 0, .rw, 1070386381, .flt 0x3F800000#32 0x3FF33333#32⟩
/-- `EPS_T`. -/
def Fd.peConf.EPS_T : Fld := ⟨5, 31, 0, .rw, 1017370378, .flt 0x3A83126F#32 0x3F800000#32⟩
/-- `EPS_U`. -/
def Fd.peConf.EPS_U : Fld := ⟨6, 31, 0, .rw, 1056964608, .flt 0x3C23D70A#32 0x41200000#32⟩
/-- `EPS_D`. -/
def Fd.peConf.EPS_D : Fld := ⟨7, 31, 0, .rw, 1008981770, .flt 0x358637BD#32 0x3F800000#32⟩
/-- `W_COMF`. -/
def Fd.peConf.W_COMF : Fld := ⟨8, 31, 0, .rw, 1120403456, .flt 0x3C23D70A#32 0x49742400#32⟩
/-- `W_MOVE`. -/
def Fd.peConf.W_MOVE : Fld := ⟨9, 31, 0, .rw, 1073741824, .flt 0x00000000#32 0x461C4000#32⟩
/-- `W_REG`. -/
def Fd.peConf.W_REG : Fld := ⟨10, 31, 0, .rw, 1008981770, .flt 0x38D1B717#32 0x42C80000#32⟩
def grpPeConfFlds0 : List Fld :=
  [Fd.peConf.N_STEPS, Fd.peConf.N_BLOCKS, Fd.peConf.ITER_MAX, Fd.peConf.OUT_PT, Fd.peConf.RHO_U, Fd.peConf.RHO_T, Fd.peConf.SIGMA, Fd.peConf.ALPHA, Fd.peConf.EPS_T, Fd.peConf.EPS_U, Fd.peConf.EPS_D, Fd.peConf.W_COMF, Fd.peConf.W_MOVE, Fd.peConf.W_REG]
/-- The group of class 0x09, number 0x020. -/
def grpPeConf : Grp :=
  ⟨11, 1, grpPeConfFlds0⟩

/-! ### Class 0x09, group 0x020 (Table 8.8) -/

/-- `N_A`. -/
def Fd.mdConf.N_A : Fld := ⟨0, 31, 28, .rw, 1, .nat 1 8⟩
/-- `ID_FREEZE`. -/
def Fd.mdConf.ID_FREEZE : Fld := ⟨0, 27, 27, .rw, 0, .any⟩
/-- `ID_RESET`. -/
def Fd.mdConf.ID_RESET : Fld := ⟨0, 26, 26, .wo, 0, .any⟩
/-- `ID_MIN_N`. -/
def Fd.mdConf.ID_MIN_N : Fld := ⟨0, 15, 0, .rw, 240, .nat 10 65535⟩
/-- `LAMBDA`. -/
def Fd.mdConf.LAMBDA : Fld := ⟨1, 31, 0, .rw, 1065269330, .flt 0x3F666666#32 0x3F800000#32⟩
/-- `P0`. -/
def Fd.mdConf.P0 : Fld := ⟨2, 31, 0, .rw, 1120403456, .flt 0x3A83126F#32 0x49742400#32⟩
/-- `ID_RMS_MAX`. -/
def Fd.mdConf.ID_RMS_MAX : Fld := ⟨3, 31, 0, .rw, 1036831949, .flt 0x3A83126F#32 0x40A00000#32⟩
/-- `E_OUTLIER`. -/
def Fd.mdConf.E_OUTLIER : Fld := ⟨4, 31, 0, .rw, 1073741824, .flt 0x3DCCCCCD#32 0x41A00000#32⟩
/-- `TRACE_MAX`. -/
def Fd.mdConf.TRACE_MAX : Fld := ⟨5, 31, 0, .rw, 1176256512, .flt 0x3F800000#32 0x4B189680#32⟩
/-- `E_W0`. -/
def Fd.mdConf.E_W0 : Fld := ⟨6, 31, 0, .rw, 1065353216, .flt 0x00000000#32 0x461C4000#32⟩
/-- `E_W1`. -/
def Fd.mdConf.E_W1 : Fld := ⟨7, 31, 0, .rw, 1065353216, .flt 0x00000000#32 0x461C4000#32⟩
/-- `E_W2`. -/
def Fd.mdConf.E_W2 : Fld := ⟨8, 31, 0, .rw, 1065353216, .flt 0x00000000#32 0x461C4000#32⟩
/-- `E_W3`. -/
def Fd.mdConf.E_W3 : Fld := ⟨9, 31, 0, .rw, 1065353216, .flt 0x00000000#32 0x461C4000#32⟩
/-- `KIND0`. -/
def Fd.mdConf.KIND0 : Fld := ⟨10, 31, 30, .rw, 0, .nat 0 2⟩
/-- `NODE0`. -/
def Fd.mdConf.NODE0 : Fld := ⟨10, 27, 16, .rw, 0, .any⟩
/-- `NZONE0`. -/
def Fd.mdConf.NZONE0 : Fld := ⟨10, 4, 0, .rw, 0, .any⟩
/-- `KIND1`. -/
def Fd.mdConf.KIND1 : Fld := ⟨11, 31, 30, .rw, 0, .nat 0 2⟩
/-- `NODE1`. -/
def Fd.mdConf.NODE1 : Fld := ⟨11, 27, 16, .rw, 0, .any⟩
/-- `NZONE1`. -/
def Fd.mdConf.NZONE1 : Fld := ⟨11, 4, 0, .rw, 0, .any⟩
/-- `KIND2`. -/
def Fd.mdConf.KIND2 : Fld := ⟨12, 31, 30, .rw, 0, .nat 0 2⟩
/-- `NODE2`. -/
def Fd.mdConf.NODE2 : Fld := ⟨12, 27, 16, .rw, 0, .any⟩
/-- `NZONE2`. -/
def Fd.mdConf.NZONE2 : Fld := ⟨12, 4, 0, .rw, 0, .any⟩
/-- `KIND3`. -/
def Fd.mdConf.KIND3 : Fld := ⟨13, 31, 30, .rw, 0, .nat 0 2⟩
/-- `NODE3`. -/
def Fd.mdConf.NODE3 : Fld := ⟨13, 27, 16, .rw, 0, .any⟩
/-- `NZONE3`. -/
def Fd.mdConf.NZONE3 : Fld := ⟨13, 4, 0, .rw, 0, .any⟩
/-- `ID_SAVE`. -/
def Fd.mdConf.ID_SAVE : Fld := ⟨14, 31, 16, .rw, 60, .nat 1 65535⟩
def grpMdConfFlds0 : List Fld :=
  [Fd.mdConf.N_A, Fd.mdConf.ID_FREEZE, Fd.mdConf.ID_RESET, Fd.mdConf.ID_MIN_N, Fd.mdConf.LAMBDA, Fd.mdConf.P0, Fd.mdConf.ID_RMS_MAX, Fd.mdConf.E_OUTLIER, Fd.mdConf.TRACE_MAX, Fd.mdConf.E_W0, Fd.mdConf.E_W1, Fd.mdConf.E_W2, Fd.mdConf.E_W3, Fd.mdConf.KIND0, Fd.mdConf.NODE0, Fd.mdConf.NZONE0, Fd.mdConf.KIND1, Fd.mdConf.NODE1, Fd.mdConf.NZONE1, Fd.mdConf.KIND2, Fd.mdConf.NODE2, Fd.mdConf.NZONE2, Fd.mdConf.KIND3, Fd.mdConf.NODE3, Fd.mdConf.NZONE3, Fd.mdConf.ID_SAVE]
/-- The group of class 0x09, number 0x020. -/
def grpMdConf : Grp :=
  ⟨15, 1, grpMdConfFlds0⟩

/-! ### Class 0x04, group 0x020 (Table 9.9) -/

/-- `GANG`. -/
def Fd.vConf.GANG : Fld := ⟨0, 31, 30, .rw, 0, .any⟩
/-- `SAFE_ON`. -/
def Fd.vConf.SAFE_ON : Fld := ⟨0, 29, 29, .rw, 0, .any⟩
/-- `DIP_EN`. -/
def Fd.vConf.DIP_EN : Fld := ⟨0, 28, 28, .rw, 1, .any⟩
/-- `TTP_EN`. -/
def Fd.vConf.TTP_EN : Fld := ⟨0, 27, 27, .rw, 1, .any⟩
/-- `EARLY_HOLD`. -/
def Fd.vConf.EARLY_HOLD : Fld := ⟨0, 26, 26, .rw, 0, .any⟩
/-- `DITHER_PCT`. -/
def Fd.vConf.DITHER_PCT : Fld := ⟨0, 12, 8, .rw, 0, .nat 0 25⟩
/-- `SAFE_PCT`. -/
def Fd.vConf.SAFE_PCT : Fld := ⟨0, 7, 0, .rw, 0, .nat 0 100⟩
/-- `I_FS`. -/
def Fd.vConf.I_FS : Fld := ⟨1, 31, 16, .rw, 1000, .nat 50 3000⟩
/-- `F_DITHER_HZ`. -/
def Fd.vConf.F_DITHER_HZ : Fld := ⟨1, 15, 0, .rw, 100, .nat 50 400⟩
/-- `R_OHM`. -/
def Fd.vConf.R_OHM : Fld := ⟨2, 31, 0, .rw, 1103101952, .flt 0x3DCCCCCD#32 0x447A0000#32⟩
/-- `L_MH`. -/
def Fd.vConf.L_MH : Fld := ⟨3, 31, 0, .rw, 1112014848, .flt 0x3DCCCCCD#32 0x44FA0000#32⟩
/-- `KP_CL`. -/
def Fd.vConf.KP_CL : Fld := ⟨4, 31, 0, .rw, 1045220557, .flt 0x00000000#32 0x41200000#32⟩
/-- `KI_CL`. -/
def Fd.vConf.KI_CL : Fld := ⟨5, 31, 0, .rw, 1128792064, .flt 0x00000000#32 0x461C4000#32⟩
/-- `I_PEAK`. -/
def Fd.vConf.I_PEAK : Fld := ⟨6, 31, 16, .rw, 8000, .nat 500 10000⟩
/-- `I_HOLD`. -/
def Fd.vConf.I_HOLD : Fld := ⟨6, 15, 0, .rw, 1500, .nat 100 4000⟩
/-- `T_PEAK_MS`. -/
def Fd.vConf.T_PEAK_MS : Fld := ⟨7, 31, 24, .rw, 15, .nat 1 20⟩
/-- `T_SEAT_MS`. -/
def Fd.vConf.T_SEAT_MS : Fld := ⟨7, 23, 16, .rw, 2, .nat 0 20⟩
/-- `OPEN_MA`. -/
def Fd.vConf.OPEN_MA : Fld := ⟨7, 15, 0, .rw, 20, .nat 5 500⟩
def grpVConfFlds0 : List Fld :=
  [Fd.vConf.GANG, Fd.vConf.SAFE_ON, Fd.vConf.DIP_EN, Fd.vConf.TTP_EN, Fd.vConf.EARLY_HOLD, Fd.vConf.DITHER_PCT, Fd.vConf.SAFE_PCT, Fd.vConf.I_FS, Fd.vConf.F_DITHER_HZ, Fd.vConf.R_OHM, Fd.vConf.L_MH, Fd.vConf.KP_CL, Fd.vConf.KI_CL, Fd.vConf.I_PEAK, Fd.vConf.I_HOLD, Fd.vConf.T_PEAK_MS, Fd.vConf.T_SEAT_MS, Fd.vConf.OPEN_MA]
/-- The group of class 0x04, number 0x020. -/
def grpVConf : Grp :=
  ⟨8, 1, grpVConfFlds0⟩

/-! ### Class 0x04, group 0x030 (Table 9.10) -/

/-- `DIP_DT_US`. -/
def Fd.vProof.DIP_DT_US : Fld := ⟨0, 31, 16, .rw, 50, .nat 20 500⟩
/-- `DIP_ABS_MA`. -/
def Fd.vProof.DIP_ABS_MA : Fld := ⟨0, 15, 0, .rw, 50, .nat 5 2000⟩
/-- `DIP_REL_PCT`. -/
def Fd.vProof.DIP_REL_PCT : Fld := ⟨1, 31, 24, .rw, 5, .nat 1 50⟩
/-- `DIP_T_MIN_MS`. -/
def Fd.vProof.DIP_T_MIN_MS : Fld := ⟨1, 23, 16, .rw, 1, .nat 0 20⟩
/-- `DIP_T_MAX_MS`. -/
def Fd.vProof.DIP_T_MAX_MS : Fld := ⟨1, 15, 8, .rw, 15, .nat 1 20⟩
/-- `TTP_LO_PCT`. -/
def Fd.vProof.TTP_LO_PCT : Fld := ⟨2, 31, 16, .rw, 60, .nat 10 100⟩
/-- `TTP_HI_PCT`. -/
def Fd.vProof.TTP_HI_PCT : Fld := ⟨2, 15, 0, .rw, 250, .nat 100 1000⟩
def grpVProofFlds0 : List Fld :=
  [Fd.vProof.DIP_DT_US, Fd.vProof.DIP_ABS_MA, Fd.vProof.DIP_REL_PCT, Fd.vProof.DIP_T_MIN_MS, Fd.vProof.DIP_T_MAX_MS, Fd.vProof.TTP_LO_PCT, Fd.vProof.TTP_HI_PCT]
/-- The group of class 0x04, number 0x030. -/
def grpVProof : Grp :=
  ⟨3, 1, grpVProofFlds0⟩

/-! ### Class 0x04, group 0x010 (Table 9.8) -/

/-- `I_MEAS`. -/
def Fd.vStat.I_MEAS : Fld := ⟨0, 31, 0, .ro, 0, .any⟩
/-- `I_SET`. -/
def Fd.vStat.I_SET : Fld := ⟨1, 31, 0, .ro, 0, .any⟩
/-- `STATE`. -/
def Fd.vStat.STATE : Fld := ⟨2, 31, 28, .ro, 0, .any⟩
/-- `VERDICT`. -/
def Fd.vStat.VERDICT : Fld := ⟨2, 27, 24, .ro, 0, .any⟩
/-- `FAULT`. -/
def Fd.vStat.FAULT : Fld := ⟨2, 23, 20, .ro, 0, .any⟩
/-- `CLAMPED`. -/
def Fd.vStat.CLAMPED : Fld := ⟨2, 19, 19, .ro, 0, .any⟩
/-- `DEFER`. -/
def Fd.vStat.DEFER : Fld := ⟨2, 18, 18, .ro, 0, .any⟩
/-- `DIRECT`. -/
def Fd.vStat.DIRECT : Fld := ⟨2, 17, 17, .ro, 0, .any⟩
/-- `GUARD`. -/
def Fd.vStat.GUARD : Fld := ⟨2, 16, 16, .ro, 0, .any⟩
/-- `DUTY_PM`. -/
def Fd.vStat.DUTY_PM : Fld := ⟨2, 9, 0, .ro, 0, .any⟩
/-- `TTP_US`. -/
def Fd.vStat.TTP_US : Fld := ⟨3, 31, 16, .ro, 0, .any⟩
/-- `DIP_US`. -/
def Fd.vStat.DIP_US : Fld := ⟨3, 15, 0, .ro, 0, .any⟩
/-- `DEFER_US`. -/
def Fd.vStat.DEFER_US : Fld := ⟨4, 31, 0, .ro, 0, .any⟩
/-- `DEFER_COUNT`. -/
def Fd.vStat.DEFER_COUNT : Fld := ⟨5, 31, 16, .ro, 0, .any⟩
/-- `FAILS`. -/
def Fd.vStat.FAILS : Fld := ⟨5, 15, 0, .ro, 0, .any⟩
/-- `STROKES`. -/
def Fd.vStat.STROKES : Fld := ⟨6, 31, 0, .ro, 0, .any⟩
def grpVStatFlds0 : List Fld :=
  [Fd.vStat.I_MEAS, Fd.vStat.I_SET, Fd.vStat.STATE, Fd.vStat.VERDICT, Fd.vStat.FAULT, Fd.vStat.CLAMPED, Fd.vStat.DEFER, Fd.vStat.DIRECT, Fd.vStat.GUARD, Fd.vStat.DUTY_PM, Fd.vStat.TTP_US, Fd.vStat.DIP_US, Fd.vStat.DEFER_US, Fd.vStat.DEFER_COUNT, Fd.vStat.FAILS, Fd.vStat.STROKES]
/-- The group of class 0x04, number 0x010. -/
def grpVStat : Grp :=
  ⟨7, 0, grpVStatFlds0⟩

/-! ### Class 0x04, group 0x010 (Table 9.11) -/

/-- `I_GROUP`. -/
def Fd.gStat.I_GROUP : Fld := ⟨0, 31, 0, .ro, 0, .any⟩
/-- `LIMIT_PCT`. -/
def Fd.gStat.LIMIT_PCT : Fld := ⟨1, 31, 24, .ro, 100, .any⟩
/-- `HS_ON`. -/
def Fd.gStat.HS_ON : Fld := ⟨1, 23, 23, .ro, 0, .any⟩
/-- `HS_LATCHED`. -/
def Fd.gStat.HS_LATCHED : Fld := ⟨1, 22, 22, .ro, 0, .any⟩
/-- `PULLIN_CH`. -/
def Fd.gStat.PULLIN_CH : Fld := ⟨1, 15, 8, .ro, 255, .any⟩
/-- `QUEUED`. -/
def Fd.gStat.QUEUED : Fld := ⟨1, 7, 0, .ro, 0, .any⟩
/-- `HOLD_SUM_MA`. -/
def Fd.gStat.HOLD_SUM_MA : Fld := ⟨2, 31, 16, .ro, 0, .any⟩
/-- `PEAK_SUM_MA`. -/
def Fd.gStat.PEAK_SUM_MA : Fld := ⟨2, 15, 0, .ro, 0, .any⟩
/-- `HS_TRIPS`. -/
def Fd.gStat.HS_TRIPS : Fld := ⟨3, 31, 16, .ro, 0, .any⟩
def grpGStatFlds0 : List Fld :=
  [Fd.gStat.I_GROUP, Fd.gStat.LIMIT_PCT, Fd.gStat.HS_ON, Fd.gStat.HS_LATCHED, Fd.gStat.PULLIN_CH, Fd.gStat.QUEUED, Fd.gStat.HOLD_SUM_MA, Fd.gStat.PEAK_SUM_MA, Fd.gStat.HS_TRIPS]
/-- The group of class 0x04, number 0x010. -/
def grpGStat : Grp :=
  ⟨4, 0, grpGStatFlds0⟩

/-! ### Class 0x04, group 0x020 (Table 9.11) -/

/-- `PWM_HZ`. -/
def Fd.gConf.PWM_HZ : Fld := ⟨0, 31, 16, .rw, 4000, .nat 1000 20000⟩
def grpGConfFlds0 : List Fld :=
  [Fd.gConf.PWM_HZ]
/-- The group of class 0x04, number 0x020. -/
def grpGConf : Grp :=
  ⟨1, 1, grpGConfFlds0⟩

/-! ### Class 0x05, group 0x020 (Table 10.9) -/

/-- `DRIVE`. -/
def Fd.fConf.DRIVE : Fld := ⟨0, 31, 30, .rw, 0, .any⟩
/-- `PPR`. -/
def Fd.fConf.PPR : Fld := ⟨0, 29, 27, .rw, 2, .nat 0 4⟩
/-- `CRIT_FULL`. -/
def Fd.fConf.CRIT_FULL : Fld := ⟨0, 26, 26, .rw, 1, .any⟩
/-- `SIG_RESET`. -/
def Fd.fConf.SIG_RESET : Fld := ⟨0, 25, 25, .wo, 0, .any⟩
/-- `AO_LINK`. -/
def Fd.fConf.AO_LINK : Fld := ⟨0, 19, 16, .rw, 0, .any⟩
/-- `LF_HZ`. -/
def Fd.fConf.LF_HZ : Fld := ⟨0, 15, 8, .rw, 30, .nat 10 200⟩
/-- `D_MIN_PCT`. -/
def Fd.fConf.D_MIN_PCT : Fld := ⟨0, 7, 0, .rw, 20, .nat 0 100⟩
/-- `N_MAX_RPM`. -/
def Fd.fConf.N_MAX_RPM : Fld := ⟨1, 31, 16, .rw, 3000, .nat 100 30000⟩
/-- `N_MIN_RPM`. -/
def Fd.fConf.N_MIN_RPM : Fld := ⟨1, 15, 0, .rw, 600, .nat 0 29999⟩
/-- `I_RUN_MAX_MA`. -/
def Fd.fConf.I_RUN_MAX_MA : Fld := ⟨2, 31, 16, .rw, 1000, .nat 50 1500⟩
/-- `I_LR_MA`. -/
def Fd.fConf.I_LR_MA : Fld := ⟨2, 15, 0, .rw, 800, .nat 50 4000⟩
/-- `OPEN_MA`. -/
def Fd.fConf.OPEN_MA : Fld := ⟨3, 31, 16, .rw, 30, .nat 5 500⟩
/-- `RAMP_RPM_S`. -/
def Fd.fConf.RAMP_RPM_S : Fld := ⟨3, 15, 0, .rw, 500, .nat 0 30000⟩
/-- `KP_SP`. -/
def Fd.fConf.KP_SP : Fld := ⟨4, 31, 0, .rw, 1056964608, .flt 0x00000000#32 0x41200000#32⟩
/-- `KI_SP`. -/
def Fd.fConf.KI_SP : Fld := ⟨5, 31, 0, .rw, 1056964608, .flt 0x00000000#32 0x42C80000#32⟩
/-- `SPEED_MS`. -/
def Fd.fConf.SPEED_MS : Fld := ⟨6, 31, 16, .rw, 200, .nat 50 2000⟩
/-- `KICK_MS`. -/
def Fd.fConf.KICK_MS : Fld := ⟨6, 15, 0, .rw, 500, .nat 0 3000⟩
/-- `TACH_BLANK_US`. -/
def Fd.fConf.TACH_BLANK_US : Fld := ⟨7, 31, 16, .rw, 500, .nat 0 5000⟩
/-- `TACH_FILT_US`. -/
def Fd.fConf.TACH_FILT_US : Fld := ⟨7, 15, 0, .rw, 50, .nat 10 1000⟩
/-- `STRETCH_MAX_MS`. -/
def Fd.fConf.STRETCH_MAX_MS : Fld := ⟨8, 31, 16, .rw, 100, .nat 10 500⟩
/-- `SAFE_RPM`. -/
def Fd.fConf.SAFE_RPM : Fld := ⟨8, 15, 0, .rw, 0, .any⟩
/-- `CTRL_PT`. -/
def Fd.fConf.CTRL_PT : Fld := ⟨9, 31, 24, .rw, 254, .natx 0 159 [254, 255]⟩
/-- `CTRL_FAIL_S`. -/
def Fd.fConf.CTRL_FAIL_S : Fld := ⟨9, 23, 8, .rw, 10, .nat 1 3600⟩
/-- `N_LIMIT_RPM`. -/
def Fd.fConf.N_LIMIT_RPM : Fld := ⟨10, 31, 16, .rw, 300, .nat 0 30000⟩
def grpFConfFlds0 : List Fld :=
  [Fd.fConf.DRIVE, Fd.fConf.PPR, Fd.fConf.CRIT_FULL, Fd.fConf.SIG_RESET, Fd.fConf.AO_LINK, Fd.fConf.LF_HZ, Fd.fConf.D_MIN_PCT, Fd.fConf.N_MAX_RPM, Fd.fConf.N_MIN_RPM, Fd.fConf.I_RUN_MAX_MA, Fd.fConf.I_LR_MA, Fd.fConf.OPEN_MA, Fd.fConf.RAMP_RPM_S, Fd.fConf.KP_SP, Fd.fConf.KI_SP, Fd.fConf.SPEED_MS, Fd.fConf.KICK_MS, Fd.fConf.TACH_BLANK_US, Fd.fConf.TACH_FILT_US, Fd.fConf.STRETCH_MAX_MS, Fd.fConf.SAFE_RPM, Fd.fConf.CTRL_PT, Fd.fConf.CTRL_FAIL_S, Fd.fConf.N_LIMIT_RPM]
/-- The group of class 0x05, number 0x020. -/
def grpFConf : Grp :=
  ⟨11, 1, grpFConfFlds0⟩

/-! ### Class 0x05, group 0x010 (Table 10.8) -/

/-- `SPEED`. -/
def Fd.fStat.SPEED : Fld := ⟨0, 31, 0, .ro, 0, .any⟩
/-- `TARGET`. -/
def Fd.fStat.TARGET : Fld := ⟨1, 31, 0, .ro, 0, .any⟩
/-- `I_ON`. -/
def Fd.fStat.I_ON : Fld := ⟨2, 31, 0, .ro, 0, .any⟩
/-- `STATE`. -/
def Fd.fStat.STATE : Fld := ⟨3, 31, 28, .ro, 0, .any⟩
/-- `STALL_CAUSE`. -/
def Fd.fStat.STALL_CAUSE : Fld := ⟨3, 27, 24, .ro, 0, .any⟩
/-- `FORCED_FULL`. -/
def Fd.fStat.FORCED_FULL : Fld := ⟨3, 23, 23, .ro, 0, .any⟩
/-- `CLAMPED`. -/
def Fd.fStat.CLAMPED : Fld := ⟨3, 22, 22, .ro, 0, .any⟩
/-- `DIRECT`. -/
def Fd.fStat.DIRECT : Fld := ⟨3, 21, 21, .ro, 0, .any⟩
/-- `GUARD`. -/
def Fd.fStat.GUARD : Fld := ⟨3, 20, 20, .ro, 0, .any⟩
/-- `LEARNED`. -/
def Fd.fStat.LEARNED : Fld := ⟨3, 19, 19, .ro, 0, .any⟩
/-- `SIG_DEV`. -/
def Fd.fStat.SIG_DEV : Fld := ⟨3, 18, 18, .ro, 0, .any⟩
/-- `DUTY_PM`. -/
def Fd.fStat.DUTY_PM : Fld := ⟨3, 9, 0, .ro, 0, .any⟩
/-- `RETRIES`. -/
def Fd.fStat.RETRIES : Fld := ⟨4, 31, 16, .ro, 0, .any⟩
/-- `STALLS`. -/
def Fd.fStat.STALLS : Fld := ⟨4, 15, 0, .ro, 0, .any⟩
/-- `NEXT_RETRY_S`. -/
def Fd.fStat.NEXT_RETRY_S : Fld := ⟨5, 31, 16, .ro, 0, .any⟩
/-- `OCP_TRIPS`. -/
def Fd.fStat.OCP_TRIPS : Fld := ⟨5, 15, 0, .ro, 0, .any⟩
/-- `STRETCH_FAILS`. -/
def Fd.fStat.STRETCH_FAILS : Fld := ⟨6, 31, 16, .ro, 0, .any⟩
/-- `RUN_S`. -/
def Fd.fStat.RUN_S : Fld := ⟨7, 31, 0, .ro, 0, .any⟩
def grpFStatFlds0 : List Fld :=
  [Fd.fStat.SPEED, Fd.fStat.TARGET, Fd.fStat.I_ON, Fd.fStat.STATE, Fd.fStat.STALL_CAUSE, Fd.fStat.FORCED_FULL, Fd.fStat.CLAMPED, Fd.fStat.DIRECT, Fd.fStat.GUARD, Fd.fStat.LEARNED, Fd.fStat.SIG_DEV, Fd.fStat.DUTY_PM, Fd.fStat.RETRIES, Fd.fStat.STALLS, Fd.fStat.NEXT_RETRY_S, Fd.fStat.OCP_TRIPS, Fd.fStat.STRETCH_FAILS, Fd.fStat.RUN_S]
/-- The group of class 0x05, number 0x010. -/
def grpFStat : Grp :=
  ⟨8, 0, grpFStatFlds0⟩

/-! ### Class 0x11, group 0x080 (Table 10.11) -/

/-- `CT_STRAP`. -/
def Fd.critSys.CT_STRAP : Fld := ⟨0, 31, 29, .ro, 0, .any⟩
/-- `CTSEL`. -/
def Fd.critSys.CTSEL : Fld := ⟨0, 28, 28, .ro, 0, .any⟩
/-- `CRIT_ACTIVE`. -/
def Fd.critSys.CRIT_ACTIVE : Fld := ⟨0, 27, 27, .ro, 0, .any⟩
/-- `SHDN_LOW`. -/
def Fd.critSys.SHDN_LOW : Fld := ⟨0, 26, 26, .ro, 0, .any⟩
/-- `CRIT_C`. -/
def Fd.critSys.CRIT_C : Fld := ⟨0, 15, 8, .ro, 0, .any⟩
/-- `CRIT_TRIPS`. -/
def Fd.critSys.CRIT_TRIPS : Fld := ⟨1, 31, 16, .ro, 0, .any⟩
def grpCritSysFlds0 : List Fld :=
  [Fd.critSys.CT_STRAP, Fd.critSys.CTSEL, Fd.critSys.CRIT_ACTIVE, Fd.critSys.SHDN_LOW, Fd.critSys.CRIT_C, Fd.critSys.CRIT_TRIPS]
/-- The group of class 0x11, number 0x080. -/
def grpCritSys : Grp :=
  ⟨2, 0, grpCritSysFlds0⟩

/-! ### Class 0x06, group 0x020 (Table 10.12) -/

/-- `RANGE_2_10`. -/
def Fd.aConf.RANGE_2_10 : Fld := ⟨0, 31, 31, .rw, 0, .any⟩
/-- `SAFE_MODE`. -/
def Fd.aConf.SAFE_MODE : Fld := ⟨0, 30, 29, .rw, 0, .nat 0 2⟩
/-- `SAFE_V`. -/
def Fd.aConf.SAFE_V : Fld := ⟨1, 31, 0, .rw, 0, .fin⟩
/-- `SLEW_V_S`. -/
def Fd.aConf.SLEW_V_S : Fld := ⟨2, 31, 0, .rw, 0, .fltx 0x3DCCCCCD#32 0x42C80000#32 [0x00000000#32]⟩
/-- `FAULT_MV`. -/
def Fd.aConf.FAULT_MV : Fld := ⟨3, 31, 16, .rw, 300, .nat 50 2000⟩
/-- `FAULT_MS`. -/
def Fd.aConf.FAULT_MS : Fld := ⟨3, 15, 0, .rw, 200, .nat 10 5000⟩
def grpAConfFlds0 : List Fld :=
  [Fd.aConf.RANGE_2_10, Fd.aConf.SAFE_MODE, Fd.aConf.SAFE_V, Fd.aConf.SLEW_V_S, Fd.aConf.FAULT_MV, Fd.aConf.FAULT_MS]
/-- The group of class 0x06, number 0x020. -/
def grpAConf : Grp :=
  ⟨4, 1, grpAConfFlds0⟩

/-! ### Class 0x06, group 0x010 (Table 10.12) -/

/-- `V_SET`. -/
def Fd.aStat.V_SET : Fld := ⟨0, 31, 0, .ro, 0, .any⟩
/-- `V_MEAS`. -/
def Fd.aStat.V_MEAS : Fld := ⟨1, 31, 0, .ro, 0, .any⟩
/-- `ENABLED`. -/
def Fd.aStat.ENABLED : Fld := ⟨2, 31, 31, .ro, 0, .any⟩
/-- `AO_FAULT`. -/
def Fd.aStat.AO_FAULT : Fld := ⟨2, 30, 30, .ro, 0, .any⟩
/-- `DIRECT`. -/
def Fd.aStat.DIRECT : Fld := ⟨2, 29, 29, .ro, 0, .any⟩
/-- `GUARD`. -/
def Fd.aStat.GUARD : Fld := ⟨2, 28, 28, .ro, 0, .any⟩
/-- `LINKED`. -/
def Fd.aStat.LINKED : Fld := ⟨2, 27, 27, .ro, 0, .any⟩
/-- `CODE`. -/
def Fd.aStat.CODE : Fld := ⟨2, 11, 0, .ro, 0, .any⟩
/-- `FAULTS`. -/
def Fd.aStat.FAULTS : Fld := ⟨3, 31, 16, .ro, 0, .any⟩
def grpAStatFlds0 : List Fld :=
  [Fd.aStat.V_SET, Fd.aStat.V_MEAS, Fd.aStat.ENABLED, Fd.aStat.AO_FAULT, Fd.aStat.DIRECT, Fd.aStat.GUARD, Fd.aStat.LINKED, Fd.aStat.CODE, Fd.aStat.FAULTS]
/-- The group of class 0x06, number 0x010. -/
def grpAStat : Grp :=
  ⟨4, 0, grpAStatFlds0⟩

/-! ### Class 0x0A, group 0x010 (Table 11.4) -/

/-- `KEYS_LO`. -/
def Fd.pnStat.KEYS_LO : Fld := ⟨0, 31, 0, .ro, 0, .any⟩
/-- `KEYS_HI`. -/
def Fd.pnStat.KEYS_HI : Fld := ⟨1, 31, 0, .ro, 0, .any⟩
/-- `STUCK_LO`. -/
def Fd.pnStat.STUCK_LO : Fld := ⟨2, 31, 0, .ro, 0, .any⟩
/-- `STUCK_HI`. -/
def Fd.pnStat.STUCK_HI : Fld := ⟨3, 31, 0, .ro, 0, .any⟩
/-- `FROZEN_KSO`. -/
def Fd.pnStat.FROZEN_KSO : Fld := ⟨4, 31, 24, .ro, 0, .any⟩
/-- `FROZEN_KSI`. -/
def Fd.pnStat.FROZEN_KSI : Fld := ⟨4, 23, 16, .ro, 0, .any⟩
/-- `GHOST`. -/
def Fd.pnStat.GHOST : Fld := ⟨4, 15, 15, .ro, 0, .any⟩
/-- `SEL_ZONE`. -/
def Fd.pnStat.SEL_ZONE : Fld := ⟨4, 7, 0, .ro, 0, .any⟩
/-- `GHOSTS`. -/
def Fd.pnStat.GHOSTS : Fld := ⟨5, 31, 16, .ro, 0, .any⟩
/-- `OVERRUNS`. -/
def Fd.pnStat.OVERRUNS : Fld := ⟨5, 15, 0, .ro, 0, .any⟩
/-- `CHANGES`. -/
def Fd.pnStat.CHANGES : Fld := ⟨6, 31, 0, .ro, 0, .any⟩
def grpPnStatFlds0 : List Fld :=
  [Fd.pnStat.KEYS_LO, Fd.pnStat.KEYS_HI, Fd.pnStat.STUCK_LO, Fd.pnStat.STUCK_HI, Fd.pnStat.FROZEN_KSO, Fd.pnStat.FROZEN_KSI, Fd.pnStat.GHOST, Fd.pnStat.SEL_ZONE, Fd.pnStat.GHOSTS, Fd.pnStat.OVERRUNS, Fd.pnStat.CHANGES]
/-- The group of class 0x0A, number 0x010. -/
def grpPnStat : Grp :=
  ⟨7, 0, grpPnStatFlds0⟩

/-! ### Class 0x0A, group 0x020 (Table 11.5) -/

/-- `ENABLE`. -/
def Fd.pnConf.ENABLE : Fld := ⟨0, 31, 31, .rw, 0, .any⟩
/-- `DIODE`. -/
def Fd.pnConf.DIODE : Fld := ⟨0, 30, 30, .rw, 0, .any⟩
/-- `N_KSO`. -/
def Fd.pnConf.N_KSO : Fld := ⟨0, 27, 24, .rw, 8, .nat 1 8⟩
/-- `N_KSI`. -/
def Fd.pnConf.N_KSI : Fld := ⟨0, 23, 20, .rw, 8, .nat 1 8⟩
/-- `DEBOUNCE_N`. -/
def Fd.pnConf.DEBOUNCE_N : Fld := ⟨0, 19, 16, .rw, 4, .nat 2 15⟩
/-- `SETTLE_US`. -/
def Fd.pnConf.SETTLE_US : Fld := ⟨0, 15, 8, .rw, 10, .nat 1 100⟩
/-- `SCAN_MS`. -/
def Fd.pnConf.SCAN_MS : Fld := ⟨0, 7, 0, .rw, 4, .nat 1 32⟩
/-- `STUCK_S`. -/
def Fd.pnConf.STUCK_S : Fld := ⟨1, 31, 16, .rw, 60, .nat 1 3600⟩
/-- `OVR_PANEL_S`. -/
def Fd.pnConf.OVR_PANEL_S : Fld := ⟨1, 15, 0, .rw, 3600, .nat 60 65535⟩
/-- `STEP_K`. -/
def Fd.pnConf.STEP_K : Fld := ⟨2, 31, 0, .rw, 1056964608, .flt 0x3DCCCCCD#32 0x40A00000#32⟩
def grpPnConfFlds0 : List Fld :=
  [Fd.pnConf.ENABLE, Fd.pnConf.DIODE, Fd.pnConf.N_KSO, Fd.pnConf.N_KSI, Fd.pnConf.DEBOUNCE_N, Fd.pnConf.SETTLE_US, Fd.pnConf.SCAN_MS, Fd.pnConf.STUCK_S, Fd.pnConf.OVR_PANEL_S, Fd.pnConf.STEP_K]
/-- The group of class 0x0A, number 0x020. -/
def grpPnConf : Grp :=
  ⟨3, 1, grpPnConfFlds0⟩

/-! ### Class 0x0A, group 0x030 (as its chapter gives it) -/

/-- `FUNC1`. -/
def Fd.pnKeys.FUNC1 : Fld := ⟨0, 31, 28, .rw, 0, .nat 0 10⟩
/-- `ZONE1`. -/
def Fd.pnKeys.ZONE1 : Fld := ⟨0, 23, 16, .rw, 255, .natx 0 31 [255]⟩
/-- `FUNC0`. -/
def Fd.pnKeys.FUNC0 : Fld := ⟨0, 15, 12, .rw, 0, .nat 0 10⟩
/-- `ZONE0`. -/
def Fd.pnKeys.ZONE0 : Fld := ⟨0, 7, 0, .rw, 255, .natx 0 31 [255]⟩
/-- `FUNC3`. -/
def Fd.pnKeys.FUNC3 : Fld := ⟨1, 31, 28, .rw, 0, .nat 0 10⟩
/-- `ZONE3`. -/
def Fd.pnKeys.ZONE3 : Fld := ⟨1, 23, 16, .rw, 255, .natx 0 31 [255]⟩
/-- `FUNC2`. -/
def Fd.pnKeys.FUNC2 : Fld := ⟨1, 15, 12, .rw, 0, .nat 0 10⟩
/-- `ZONE2`. -/
def Fd.pnKeys.ZONE2 : Fld := ⟨1, 7, 0, .rw, 255, .natx 0 31 [255]⟩
/-- `FUNC5`. -/
def Fd.pnKeys.FUNC5 : Fld := ⟨2, 31, 28, .rw, 0, .nat 0 10⟩
/-- `ZONE5`. -/
def Fd.pnKeys.ZONE5 : Fld := ⟨2, 23, 16, .rw, 255, .natx 0 31 [255]⟩
/-- `FUNC4`. -/
def Fd.pnKeys.FUNC4 : Fld := ⟨2, 15, 12, .rw, 0, .nat 0 10⟩
/-- `ZONE4`. -/
def Fd.pnKeys.ZONE4 : Fld := ⟨2, 7, 0, .rw, 255, .natx 0 31 [255]⟩
/-- `FUNC7`. -/
def Fd.pnKeys.FUNC7 : Fld := ⟨3, 31, 28, .rw, 0, .nat 0 10⟩
/-- `ZONE7`. -/
def Fd.pnKeys.ZONE7 : Fld := ⟨3, 23, 16, .rw, 255, .natx 0 31 [255]⟩
/-- `FUNC6`. -/
def Fd.pnKeys.FUNC6 : Fld := ⟨3, 15, 12, .rw, 0, .nat 0 10⟩
/-- `ZONE6`. -/
def Fd.pnKeys.ZONE6 : Fld := ⟨3, 7, 0, .rw, 255, .natx 0 31 [255]⟩
/-- `FUNC9`. -/
def Fd.pnKeys.FUNC9 : Fld := ⟨4, 31, 28, .rw, 0, .nat 0 10⟩
/-- `ZONE9`. -/
def Fd.pnKeys.ZONE9 : Fld := ⟨4, 23, 16, .rw, 255, .natx 0 31 [255]⟩
/-- `FUNC8`. -/
def Fd.pnKeys.FUNC8 : Fld := ⟨4, 15, 12, .rw, 0, .nat 0 10⟩
/-- `ZONE8`. -/
def Fd.pnKeys.ZONE8 : Fld := ⟨4, 7, 0, .rw, 255, .natx 0 31 [255]⟩
/-- `FUNC11`. -/
def Fd.pnKeys.FUNC11 : Fld := ⟨5, 31, 28, .rw, 0, .nat 0 10⟩
/-- `ZONE11`. -/
def Fd.pnKeys.ZONE11 : Fld := ⟨5, 23, 16, .rw, 255, .natx 0 31 [255]⟩
/-- `FUNC10`. -/
def Fd.pnKeys.FUNC10 : Fld := ⟨5, 15, 12, .rw, 0, .nat 0 10⟩
/-- `ZONE10`. -/
def Fd.pnKeys.ZONE10 : Fld := ⟨5, 7, 0, .rw, 255, .natx 0 31 [255]⟩
/-- `FUNC13`. -/
def Fd.pnKeys.FUNC13 : Fld := ⟨6, 31, 28, .rw, 0, .nat 0 10⟩
/-- `ZONE13`. -/
def Fd.pnKeys.ZONE13 : Fld := ⟨6, 23, 16, .rw, 255, .natx 0 31 [255]⟩
/-- `FUNC12`. -/
def Fd.pnKeys.FUNC12 : Fld := ⟨6, 15, 12, .rw, 0, .nat 0 10⟩
/-- `ZONE12`. -/
def Fd.pnKeys.ZONE12 : Fld := ⟨6, 7, 0, .rw, 255, .natx 0 31 [255]⟩
/-- `FUNC15`. -/
def Fd.pnKeys.FUNC15 : Fld := ⟨7, 31, 28, .rw, 0, .nat 0 10⟩
/-- `ZONE15`. -/
def Fd.pnKeys.ZONE15 : Fld := ⟨7, 23, 16, .rw, 255, .natx 0 31 [255]⟩
/-- `FUNC14`. -/
def Fd.pnKeys.FUNC14 : Fld := ⟨7, 15, 12, .rw, 0, .nat 0 10⟩
/-- `ZONE14`. -/
def Fd.pnKeys.ZONE14 : Fld := ⟨7, 7, 0, .rw, 255, .natx 0 31 [255]⟩
/-- `FUNC17`. -/
def Fd.pnKeys.FUNC17 : Fld := ⟨8, 31, 28, .rw, 0, .nat 0 10⟩
/-- `ZONE17`. -/
def Fd.pnKeys.ZONE17 : Fld := ⟨8, 23, 16, .rw, 255, .natx 0 31 [255]⟩
/-- `FUNC16`. -/
def Fd.pnKeys.FUNC16 : Fld := ⟨8, 15, 12, .rw, 0, .nat 0 10⟩
/-- `ZONE16`. -/
def Fd.pnKeys.ZONE16 : Fld := ⟨8, 7, 0, .rw, 255, .natx 0 31 [255]⟩
/-- `FUNC19`. -/
def Fd.pnKeys.FUNC19 : Fld := ⟨9, 31, 28, .rw, 0, .nat 0 10⟩
/-- `ZONE19`. -/
def Fd.pnKeys.ZONE19 : Fld := ⟨9, 23, 16, .rw, 255, .natx 0 31 [255]⟩
/-- `FUNC18`. -/
def Fd.pnKeys.FUNC18 : Fld := ⟨9, 15, 12, .rw, 0, .nat 0 10⟩
/-- `ZONE18`. -/
def Fd.pnKeys.ZONE18 : Fld := ⟨9, 7, 0, .rw, 255, .natx 0 31 [255]⟩
/-- `FUNC21`. -/
def Fd.pnKeys.FUNC21 : Fld := ⟨10, 31, 28, .rw, 0, .nat 0 10⟩
/-- `ZONE21`. -/
def Fd.pnKeys.ZONE21 : Fld := ⟨10, 23, 16, .rw, 255, .natx 0 31 [255]⟩
/-- `FUNC20`. -/
def Fd.pnKeys.FUNC20 : Fld := ⟨10, 15, 12, .rw, 0, .nat 0 10⟩
/-- `ZONE20`. -/
def Fd.pnKeys.ZONE20 : Fld := ⟨10, 7, 0, .rw, 255, .natx 0 31 [255]⟩
/-- `FUNC23`. -/
def Fd.pnKeys.FUNC23 : Fld := ⟨11, 31, 28, .rw, 0, .nat 0 10⟩
/-- `ZONE23`. -/
def Fd.pnKeys.ZONE23 : Fld := ⟨11, 23, 16, .rw, 255, .natx 0 31 [255]⟩
/-- `FUNC22`. -/
def Fd.pnKeys.FUNC22 : Fld := ⟨11, 15, 12, .rw, 0, .nat 0 10⟩
/-- `ZONE22`. -/
def Fd.pnKeys.ZONE22 : Fld := ⟨11, 7, 0, .rw, 255, .natx 0 31 [255]⟩
/-- `FUNC25`. -/
def Fd.pnKeys.FUNC25 : Fld := ⟨12, 31, 28, .rw, 0, .nat 0 10⟩
/-- `ZONE25`. -/
def Fd.pnKeys.ZONE25 : Fld := ⟨12, 23, 16, .rw, 255, .natx 0 31 [255]⟩
/-- `FUNC24`. -/
def Fd.pnKeys.FUNC24 : Fld := ⟨12, 15, 12, .rw, 0, .nat 0 10⟩
/-- `ZONE24`. -/
def Fd.pnKeys.ZONE24 : Fld := ⟨12, 7, 0, .rw, 255, .natx 0 31 [255]⟩
/-- `FUNC27`. -/
def Fd.pnKeys.FUNC27 : Fld := ⟨13, 31, 28, .rw, 0, .nat 0 10⟩
/-- `ZONE27`. -/
def Fd.pnKeys.ZONE27 : Fld := ⟨13, 23, 16, .rw, 255, .natx 0 31 [255]⟩
/-- `FUNC26`. -/
def Fd.pnKeys.FUNC26 : Fld := ⟨13, 15, 12, .rw, 0, .nat 0 10⟩
/-- `ZONE26`. -/
def Fd.pnKeys.ZONE26 : Fld := ⟨13, 7, 0, .rw, 255, .natx 0 31 [255]⟩
/-- `FUNC29`. -/
def Fd.pnKeys.FUNC29 : Fld := ⟨14, 31, 28, .rw, 0, .nat 0 10⟩
/-- `ZONE29`. -/
def Fd.pnKeys.ZONE29 : Fld := ⟨14, 23, 16, .rw, 255, .natx 0 31 [255]⟩
/-- `FUNC28`. -/
def Fd.pnKeys.FUNC28 : Fld := ⟨14, 15, 12, .rw, 0, .nat 0 10⟩
/-- `ZONE28`. -/
def Fd.pnKeys.ZONE28 : Fld := ⟨14, 7, 0, .rw, 255, .natx 0 31 [255]⟩
/-- `FUNC31`. -/
def Fd.pnKeys.FUNC31 : Fld := ⟨15, 31, 28, .rw, 0, .nat 0 10⟩
/-- `ZONE31`. -/
def Fd.pnKeys.ZONE31 : Fld := ⟨15, 23, 16, .rw, 255, .natx 0 31 [255]⟩
/-- `FUNC30`. -/
def Fd.pnKeys.FUNC30 : Fld := ⟨15, 15, 12, .rw, 0, .nat 0 10⟩
/-- `ZONE30`. -/
def Fd.pnKeys.ZONE30 : Fld := ⟨15, 7, 0, .rw, 255, .natx 0 31 [255]⟩
/-- `FUNC33`. -/
def Fd.pnKeys.FUNC33 : Fld := ⟨16, 31, 28, .rw, 0, .nat 0 10⟩
/-- `ZONE33`. -/
def Fd.pnKeys.ZONE33 : Fld := ⟨16, 23, 16, .rw, 255, .natx 0 31 [255]⟩
/-- `FUNC32`. -/
def Fd.pnKeys.FUNC32 : Fld := ⟨16, 15, 12, .rw, 0, .nat 0 10⟩
/-- `ZONE32`. -/
def Fd.pnKeys.ZONE32 : Fld := ⟨16, 7, 0, .rw, 255, .natx 0 31 [255]⟩
/-- `FUNC35`. -/
def Fd.pnKeys.FUNC35 : Fld := ⟨17, 31, 28, .rw, 0, .nat 0 10⟩
/-- `ZONE35`. -/
def Fd.pnKeys.ZONE35 : Fld := ⟨17, 23, 16, .rw, 255, .natx 0 31 [255]⟩
/-- `FUNC34`. -/
def Fd.pnKeys.FUNC34 : Fld := ⟨17, 15, 12, .rw, 0, .nat 0 10⟩
/-- `ZONE34`. -/
def Fd.pnKeys.ZONE34 : Fld := ⟨17, 7, 0, .rw, 255, .natx 0 31 [255]⟩
/-- `FUNC37`. -/
def Fd.pnKeys.FUNC37 : Fld := ⟨18, 31, 28, .rw, 0, .nat 0 10⟩
/-- `ZONE37`. -/
def Fd.pnKeys.ZONE37 : Fld := ⟨18, 23, 16, .rw, 255, .natx 0 31 [255]⟩
/-- `FUNC36`. -/
def Fd.pnKeys.FUNC36 : Fld := ⟨18, 15, 12, .rw, 0, .nat 0 10⟩
/-- `ZONE36`. -/
def Fd.pnKeys.ZONE36 : Fld := ⟨18, 7, 0, .rw, 255, .natx 0 31 [255]⟩
/-- `FUNC39`. -/
def Fd.pnKeys.FUNC39 : Fld := ⟨19, 31, 28, .rw, 0, .nat 0 10⟩
/-- `ZONE39`. -/
def Fd.pnKeys.ZONE39 : Fld := ⟨19, 23, 16, .rw, 255, .natx 0 31 [255]⟩
/-- `FUNC38`. -/
def Fd.pnKeys.FUNC38 : Fld := ⟨19, 15, 12, .rw, 0, .nat 0 10⟩
/-- `ZONE38`. -/
def Fd.pnKeys.ZONE38 : Fld := ⟨19, 7, 0, .rw, 255, .natx 0 31 [255]⟩
/-- `FUNC41`. -/
def Fd.pnKeys.FUNC41 : Fld := ⟨20, 31, 28, .rw, 0, .nat 0 10⟩
/-- `ZONE41`. -/
def Fd.pnKeys.ZONE41 : Fld := ⟨20, 23, 16, .rw, 255, .natx 0 31 [255]⟩
/-- `FUNC40`. -/
def Fd.pnKeys.FUNC40 : Fld := ⟨20, 15, 12, .rw, 0, .nat 0 10⟩
/-- `ZONE40`. -/
def Fd.pnKeys.ZONE40 : Fld := ⟨20, 7, 0, .rw, 255, .natx 0 31 [255]⟩
/-- `FUNC43`. -/
def Fd.pnKeys.FUNC43 : Fld := ⟨21, 31, 28, .rw, 0, .nat 0 10⟩
/-- `ZONE43`. -/
def Fd.pnKeys.ZONE43 : Fld := ⟨21, 23, 16, .rw, 255, .natx 0 31 [255]⟩
/-- `FUNC42`. -/
def Fd.pnKeys.FUNC42 : Fld := ⟨21, 15, 12, .rw, 0, .nat 0 10⟩
/-- `ZONE42`. -/
def Fd.pnKeys.ZONE42 : Fld := ⟨21, 7, 0, .rw, 255, .natx 0 31 [255]⟩
/-- `FUNC45`. -/
def Fd.pnKeys.FUNC45 : Fld := ⟨22, 31, 28, .rw, 0, .nat 0 10⟩
/-- `ZONE45`. -/
def Fd.pnKeys.ZONE45 : Fld := ⟨22, 23, 16, .rw, 255, .natx 0 31 [255]⟩
/-- `FUNC44`. -/
def Fd.pnKeys.FUNC44 : Fld := ⟨22, 15, 12, .rw, 0, .nat 0 10⟩
/-- `ZONE44`. -/
def Fd.pnKeys.ZONE44 : Fld := ⟨22, 7, 0, .rw, 255, .natx 0 31 [255]⟩
/-- `FUNC47`. -/
def Fd.pnKeys.FUNC47 : Fld := ⟨23, 31, 28, .rw, 0, .nat 0 10⟩
/-- `ZONE47`. -/
def Fd.pnKeys.ZONE47 : Fld := ⟨23, 23, 16, .rw, 255, .natx 0 31 [255]⟩
/-- `FUNC46`. -/
def Fd.pnKeys.FUNC46 : Fld := ⟨23, 15, 12, .rw, 0, .nat 0 10⟩
/-- `ZONE46`. -/
def Fd.pnKeys.ZONE46 : Fld := ⟨23, 7, 0, .rw, 255, .natx 0 31 [255]⟩
/-- `FUNC49`. -/
def Fd.pnKeys.FUNC49 : Fld := ⟨24, 31, 28, .rw, 0, .nat 0 10⟩
/-- `ZONE49`. -/
def Fd.pnKeys.ZONE49 : Fld := ⟨24, 23, 16, .rw, 255, .natx 0 31 [255]⟩
/-- `FUNC48`. -/
def Fd.pnKeys.FUNC48 : Fld := ⟨24, 15, 12, .rw, 0, .nat 0 10⟩
/-- `ZONE48`. -/
def Fd.pnKeys.ZONE48 : Fld := ⟨24, 7, 0, .rw, 255, .natx 0 31 [255]⟩
/-- `FUNC51`. -/
def Fd.pnKeys.FUNC51 : Fld := ⟨25, 31, 28, .rw, 0, .nat 0 10⟩
/-- `ZONE51`. -/
def Fd.pnKeys.ZONE51 : Fld := ⟨25, 23, 16, .rw, 255, .natx 0 31 [255]⟩
/-- `FUNC50`. -/
def Fd.pnKeys.FUNC50 : Fld := ⟨25, 15, 12, .rw, 0, .nat 0 10⟩
/-- `ZONE50`. -/
def Fd.pnKeys.ZONE50 : Fld := ⟨25, 7, 0, .rw, 255, .natx 0 31 [255]⟩
/-- `FUNC53`. -/
def Fd.pnKeys.FUNC53 : Fld := ⟨26, 31, 28, .rw, 0, .nat 0 10⟩
/-- `ZONE53`. -/
def Fd.pnKeys.ZONE53 : Fld := ⟨26, 23, 16, .rw, 255, .natx 0 31 [255]⟩
/-- `FUNC52`. -/
def Fd.pnKeys.FUNC52 : Fld := ⟨26, 15, 12, .rw, 0, .nat 0 10⟩
/-- `ZONE52`. -/
def Fd.pnKeys.ZONE52 : Fld := ⟨26, 7, 0, .rw, 255, .natx 0 31 [255]⟩
/-- `FUNC55`. -/
def Fd.pnKeys.FUNC55 : Fld := ⟨27, 31, 28, .rw, 0, .nat 0 10⟩
/-- `ZONE55`. -/
def Fd.pnKeys.ZONE55 : Fld := ⟨27, 23, 16, .rw, 255, .natx 0 31 [255]⟩
/-- `FUNC54`. -/
def Fd.pnKeys.FUNC54 : Fld := ⟨27, 15, 12, .rw, 0, .nat 0 10⟩
/-- `ZONE54`. -/
def Fd.pnKeys.ZONE54 : Fld := ⟨27, 7, 0, .rw, 255, .natx 0 31 [255]⟩
/-- `FUNC57`. -/
def Fd.pnKeys.FUNC57 : Fld := ⟨28, 31, 28, .rw, 0, .nat 0 10⟩
/-- `ZONE57`. -/
def Fd.pnKeys.ZONE57 : Fld := ⟨28, 23, 16, .rw, 255, .natx 0 31 [255]⟩
/-- `FUNC56`. -/
def Fd.pnKeys.FUNC56 : Fld := ⟨28, 15, 12, .rw, 0, .nat 0 10⟩
/-- `ZONE56`. -/
def Fd.pnKeys.ZONE56 : Fld := ⟨28, 7, 0, .rw, 255, .natx 0 31 [255]⟩
/-- `FUNC59`. -/
def Fd.pnKeys.FUNC59 : Fld := ⟨29, 31, 28, .rw, 0, .nat 0 10⟩
/-- `ZONE59`. -/
def Fd.pnKeys.ZONE59 : Fld := ⟨29, 23, 16, .rw, 255, .natx 0 31 [255]⟩
/-- `FUNC58`. -/
def Fd.pnKeys.FUNC58 : Fld := ⟨29, 15, 12, .rw, 0, .nat 0 10⟩
/-- `ZONE58`. -/
def Fd.pnKeys.ZONE58 : Fld := ⟨29, 7, 0, .rw, 255, .natx 0 31 [255]⟩
/-- `FUNC61`. -/
def Fd.pnKeys.FUNC61 : Fld := ⟨30, 31, 28, .rw, 0, .nat 0 10⟩
/-- `ZONE61`. -/
def Fd.pnKeys.ZONE61 : Fld := ⟨30, 23, 16, .rw, 255, .natx 0 31 [255]⟩
/-- `FUNC60`. -/
def Fd.pnKeys.FUNC60 : Fld := ⟨30, 15, 12, .rw, 0, .nat 0 10⟩
/-- `ZONE60`. -/
def Fd.pnKeys.ZONE60 : Fld := ⟨30, 7, 0, .rw, 255, .natx 0 31 [255]⟩
/-- `FUNC63`. -/
def Fd.pnKeys.FUNC63 : Fld := ⟨31, 31, 28, .rw, 0, .nat 0 10⟩
/-- `ZONE63`. -/
def Fd.pnKeys.ZONE63 : Fld := ⟨31, 23, 16, .rw, 255, .natx 0 31 [255]⟩
/-- `FUNC62`. -/
def Fd.pnKeys.FUNC62 : Fld := ⟨31, 15, 12, .rw, 0, .nat 0 10⟩
/-- `ZONE62`. -/
def Fd.pnKeys.ZONE62 : Fld := ⟨31, 7, 0, .rw, 255, .natx 0 31 [255]⟩
def grpPnKeysFlds0 : List Fld :=
  [Fd.pnKeys.FUNC1, Fd.pnKeys.ZONE1, Fd.pnKeys.FUNC0, Fd.pnKeys.ZONE0, Fd.pnKeys.FUNC3, Fd.pnKeys.ZONE3, Fd.pnKeys.FUNC2, Fd.pnKeys.ZONE2, Fd.pnKeys.FUNC5, Fd.pnKeys.ZONE5, Fd.pnKeys.FUNC4, Fd.pnKeys.ZONE4, Fd.pnKeys.FUNC7, Fd.pnKeys.ZONE7, Fd.pnKeys.FUNC6, Fd.pnKeys.ZONE6, Fd.pnKeys.FUNC9, Fd.pnKeys.ZONE9, Fd.pnKeys.FUNC8, Fd.pnKeys.ZONE8, Fd.pnKeys.FUNC11, Fd.pnKeys.ZONE11, Fd.pnKeys.FUNC10, Fd.pnKeys.ZONE10, Fd.pnKeys.FUNC13, Fd.pnKeys.ZONE13, Fd.pnKeys.FUNC12, Fd.pnKeys.ZONE12, Fd.pnKeys.FUNC15, Fd.pnKeys.ZONE15, Fd.pnKeys.FUNC14, Fd.pnKeys.ZONE14, Fd.pnKeys.FUNC17, Fd.pnKeys.ZONE17, Fd.pnKeys.FUNC16, Fd.pnKeys.ZONE16, Fd.pnKeys.FUNC19, Fd.pnKeys.ZONE19, Fd.pnKeys.FUNC18, Fd.pnKeys.ZONE18]
def grpPnKeysFlds1 : List Fld :=
  [Fd.pnKeys.FUNC21, Fd.pnKeys.ZONE21, Fd.pnKeys.FUNC20, Fd.pnKeys.ZONE20, Fd.pnKeys.FUNC23, Fd.pnKeys.ZONE23, Fd.pnKeys.FUNC22, Fd.pnKeys.ZONE22, Fd.pnKeys.FUNC25, Fd.pnKeys.ZONE25, Fd.pnKeys.FUNC24, Fd.pnKeys.ZONE24, Fd.pnKeys.FUNC27, Fd.pnKeys.ZONE27, Fd.pnKeys.FUNC26, Fd.pnKeys.ZONE26, Fd.pnKeys.FUNC29, Fd.pnKeys.ZONE29, Fd.pnKeys.FUNC28, Fd.pnKeys.ZONE28, Fd.pnKeys.FUNC31, Fd.pnKeys.ZONE31, Fd.pnKeys.FUNC30, Fd.pnKeys.ZONE30, Fd.pnKeys.FUNC33, Fd.pnKeys.ZONE33, Fd.pnKeys.FUNC32, Fd.pnKeys.ZONE32, Fd.pnKeys.FUNC35, Fd.pnKeys.ZONE35, Fd.pnKeys.FUNC34, Fd.pnKeys.ZONE34, Fd.pnKeys.FUNC37, Fd.pnKeys.ZONE37, Fd.pnKeys.FUNC36, Fd.pnKeys.ZONE36, Fd.pnKeys.FUNC39, Fd.pnKeys.ZONE39, Fd.pnKeys.FUNC38, Fd.pnKeys.ZONE38]
def grpPnKeysFlds2 : List Fld :=
  [Fd.pnKeys.FUNC41, Fd.pnKeys.ZONE41, Fd.pnKeys.FUNC40, Fd.pnKeys.ZONE40, Fd.pnKeys.FUNC43, Fd.pnKeys.ZONE43, Fd.pnKeys.FUNC42, Fd.pnKeys.ZONE42, Fd.pnKeys.FUNC45, Fd.pnKeys.ZONE45, Fd.pnKeys.FUNC44, Fd.pnKeys.ZONE44, Fd.pnKeys.FUNC47, Fd.pnKeys.ZONE47, Fd.pnKeys.FUNC46, Fd.pnKeys.ZONE46, Fd.pnKeys.FUNC49, Fd.pnKeys.ZONE49, Fd.pnKeys.FUNC48, Fd.pnKeys.ZONE48, Fd.pnKeys.FUNC51, Fd.pnKeys.ZONE51, Fd.pnKeys.FUNC50, Fd.pnKeys.ZONE50, Fd.pnKeys.FUNC53, Fd.pnKeys.ZONE53, Fd.pnKeys.FUNC52, Fd.pnKeys.ZONE52, Fd.pnKeys.FUNC55, Fd.pnKeys.ZONE55, Fd.pnKeys.FUNC54, Fd.pnKeys.ZONE54, Fd.pnKeys.FUNC57, Fd.pnKeys.ZONE57, Fd.pnKeys.FUNC56, Fd.pnKeys.ZONE56, Fd.pnKeys.FUNC59, Fd.pnKeys.ZONE59, Fd.pnKeys.FUNC58, Fd.pnKeys.ZONE58]
def grpPnKeysFlds3 : List Fld :=
  [Fd.pnKeys.FUNC61, Fd.pnKeys.ZONE61, Fd.pnKeys.FUNC60, Fd.pnKeys.ZONE60, Fd.pnKeys.FUNC63, Fd.pnKeys.ZONE63, Fd.pnKeys.FUNC62, Fd.pnKeys.ZONE62]
/-- The group of class 0x0A, number 0x030. -/
def grpPnKeys : Grp :=
  ⟨32, 1, grpPnKeysFlds0 ++ grpPnKeysFlds1 ++ grpPnKeysFlds2 ++ grpPnKeysFlds3⟩

/-! ### Class 0x0A, group 0x020 (Table 11.7) -/

/-- `ENABLE`. -/
def Fd.enConf.ENABLE : Fld := ⟨0, 31, 31, .rw, 0, .any⟩
/-- `INVERT`. -/
def Fd.enConf.INVERT : Fld := ⟨0, 30, 30, .rw, 0, .any⟩
/-- `DECODE`. -/
def Fd.enConf.DECODE : Fld := ⟨0, 29, 28, .rw, 2, .nat 0 2⟩
/-- `DETENT_DIV`. -/
def Fd.enConf.DETENT_DIV : Fld := ⟨0, 27, 24, .rw, 4, .nat 1 15⟩
/-- `FUNC`. -/
def Fd.enConf.FUNC : Fld := ⟨0, 23, 20, .rw, 0, .nat 0 2⟩
/-- `ZONE`. -/
def Fd.enConf.ZONE : Fld := ⟨0, 7, 0, .rw, 255, .natx 0 31 [255]⟩
/-- `FILT_US`. -/
def Fd.enConf.FILT_US : Fld := ⟨1, 31, 16, .rw, 100, .nat 50 1000⟩
/-- `VEL_MS`. -/
def Fd.enConf.VEL_MS : Fld := ⟨1, 15, 0, .rw, 100, .nat 10 1000⟩
def grpEnConfFlds0 : List Fld :=
  [Fd.enConf.ENABLE, Fd.enConf.INVERT, Fd.enConf.DECODE, Fd.enConf.DETENT_DIV, Fd.enConf.FUNC, Fd.enConf.ZONE, Fd.enConf.FILT_US, Fd.enConf.VEL_MS]
/-- The group of class 0x0A, number 0x020. -/
def grpEnConf : Grp :=
  ⟨2, 1, grpEnConfFlds0⟩

/-! ### Class 0x0A, group 0x010 (Table 11.7) -/

/-- `COUNT`. -/
def Fd.enStat.COUNT : Fld := ⟨0, 31, 0, .ro, 0, .any⟩
/-- `VELOCITY`. -/
def Fd.enStat.VELOCITY : Fld := ⟨1, 31, 0, .ro, 0, .any⟩
/-- `ERRORS`. -/
def Fd.enStat.ERRORS : Fld := ⟨2, 31, 16, .ro, 0, .any⟩
/-- `B`. -/
def Fd.enStat.B : Fld := ⟨2, 1, 1, .ro, 0, .any⟩
/-- `A`. -/
def Fd.enStat.A : Fld := ⟨2, 0, 0, .ro, 0, .any⟩
def grpEnStatFlds0 : List Fld :=
  [Fd.enStat.COUNT, Fd.enStat.VELOCITY, Fd.enStat.ERRORS, Fd.enStat.B, Fd.enStat.A]
/-- The group of class 0x0A, number 0x010. -/
def grpEnStat : Grp :=
  ⟨3, 0, grpEnStatFlds0⟩

/-! ### Class 0x0B, group 0x010 (Table 12.8) -/

/-- `STATE`. -/
def Fd.cnStat.STATE : Fld := ⟨0, 31, 28, .ro, 0, .any⟩
/-- `SEG_ALONE`. -/
def Fd.cnStat.SEG_ALONE : Fld := ⟨0, 27, 27, .ro, 0, .any⟩
/-- `ONE_SHOT`. -/
def Fd.cnStat.ONE_SHOT : Fld := ⟨0, 26, 26, .ro, 0, .any⟩
/-- `TXD_TIMEOUT`. -/
def Fd.cnStat.TXD_TIMEOUT : Fld := ⟨0, 25, 25, .ro, 0, .any⟩
/-- `TEC`. -/
def Fd.cnStat.TEC : Fld := ⟨0, 23, 16, .ro, 0, .any⟩
/-- `REC`. -/
def Fd.cnStat.REC : Fld := ⟨0, 15, 8, .ro, 0, .any⟩
/-- `TDCV`. -/
def Fd.cnStat.TDCV : Fld := ⟨0, 6, 0, .ro, 0, .any⟩
/-- `ACK_RUN`. -/
def Fd.cnStat.ACK_RUN : Fld := ⟨1, 31, 16, .ro, 0, .any⟩
/-- `AUTO_RECOV`. -/
def Fd.cnStat.AUTO_RECOV : Fld := ⟨1, 15, 8, .ro, 0, .any⟩
/-- `LEC`. -/
def Fd.cnStat.LEC : Fld := ⟨1, 7, 0, .ro, 0, .any⟩
def grpCnStatFlds0 : List Fld :=
  [Fd.cnStat.STATE, Fd.cnStat.SEG_ALONE, Fd.cnStat.ONE_SHOT, Fd.cnStat.TXD_TIMEOUT, Fd.cnStat.TEC, Fd.cnStat.REC, Fd.cnStat.TDCV, Fd.cnStat.ACK_RUN, Fd.cnStat.AUTO_RECOV, Fd.cnStat.LEC]
/-- The group of class 0x0B, number 0x010. -/
def grpCnStat : Grp :=
  ⟨2, 0, grpCnStatFlds0⟩

/-! ### Class 0x0B, group 0x020 (Table 12.9) -/

/-- `ENABLE`. -/
def Fd.cnConf.ENABLE : Fld := ⟨0, 31, 31, .rw, 1, .any⟩
/-- `FD_EN`. -/
def Fd.cnConf.FD_EN : Fld := ⟨0, 30, 30, .rw, 1, .any⟩
/-- `BRS_EN`. -/
def Fd.cnConf.BRS_EN : Fld := ⟨0, 29, 29, .rw, 1, .any⟩
/-- `SIC`. -/
def Fd.cnConf.SIC : Fld := ⟨0, 28, 28, .rw, 0, .any⟩
/-- `TDC_EN`. -/
def Fd.cnConf.TDC_EN : Fld := ⟨0, 27, 27, .rw, 1, .any⟩
/-- `PMODE`. -/
def Fd.cnConf.PMODE : Fld := ⟨0, 26, 24, .rw, 0, .nat 0 1⟩
/-- `RXE0_SIZE`. -/
def Fd.cnConf.RXE0_SIZE : Fld := ⟨0, 23, 20, .rw, 7, .nat 0 7⟩
/-- `RXE1_SIZE`. -/
def Fd.cnConf.RXE1_SIZE : Fld := ⟨0, 19, 16, .rw, 7, .nat 0 7⟩
/-- `TXE_SIZE`. -/
def Fd.cnConf.TXE_SIZE : Fld := ⟨0, 15, 12, .rw, 7, .nat 0 7⟩
/-- `NBRP`. -/
def Fd.cnConf.NBRP : Fld := ⟨1, 31, 25, .rw, 2, .nat 1 64⟩
/-- `NTSEG1`. -/
def Fd.cnConf.NTSEG1 : Fld := ⟨1, 24, 16, .rw, 63, .nat 2 255⟩
/-- `NTSEG2`. -/
def Fd.cnConf.NTSEG2 : Fld := ⟨1, 15, 8, .rw, 16, .nat 1 127⟩
/-- `NSJW`. -/
def Fd.cnConf.NSJW : Fld := ⟨1, 7, 0, .rw, 16, .nat 1 127⟩
/-- `DBRP`. -/
def Fd.cnConf.DBRP : Fld := ⟨2, 31, 27, .rw, 1, .nat 1 31⟩
/-- `DTSEG1`. -/
def Fd.cnConf.DTSEG1 : Fld := ⟨2, 26, 22, .rw, 29, .nat 1 31⟩
/-- `DTSEG2`. -/
def Fd.cnConf.DTSEG2 : Fld := ⟨2, 21, 18, .rw, 10, .nat 1 15⟩
/-- `DSJW`. -/
def Fd.cnConf.DSJW : Fld := ⟨2, 17, 14, .rw, 10, .nat 1 15⟩
/-- `TDCO`. -/
def Fd.cnConf.TDCO : Fld := ⟨2, 13, 7, .rw, 30, .any⟩
/-- `TDCF`. -/
def Fd.cnConf.TDCF : Fld := ⟨2, 6, 0, .rw, 4, .any⟩
def grpCnConfFlds0 : List Fld :=
  [Fd.cnConf.ENABLE, Fd.cnConf.FD_EN, Fd.cnConf.BRS_EN, Fd.cnConf.SIC, Fd.cnConf.TDC_EN, Fd.cnConf.PMODE, Fd.cnConf.RXE0_SIZE, Fd.cnConf.RXE1_SIZE, Fd.cnConf.TXE_SIZE, Fd.cnConf.NBRP, Fd.cnConf.NTSEG1, Fd.cnConf.NTSEG2, Fd.cnConf.NSJW, Fd.cnConf.DBRP, Fd.cnConf.DTSEG1, Fd.cnConf.DTSEG2, Fd.cnConf.DSJW, Fd.cnConf.TDCO, Fd.cnConf.TDCF]
/-- The group of class 0x0B, number 0x020. -/
def grpCnConf : Grp :=
  ⟨3, 1, grpCnConfFlds0⟩

/-! ### Class 0x0B, group 0x030 (Table 12.10) -/

/-- `TX_FRAMES`. -/
def Fd.cnCount.TX_FRAMES : Fld := ⟨0, 31, 0, .ro, 0, .any⟩
/-- `RX_FRAMES`. -/
def Fd.cnCount.RX_FRAMES : Fld := ⟨1, 31, 0, .ro, 0, .any⟩
/-- `TX_FAILS`. -/
def Fd.cnCount.TX_FAILS : Fld := ⟨2, 31, 16, .ro, 0, .any⟩
/-- `TRUNC_COUNT`. -/
def Fd.cnCount.TRUNC_COUNT : Fld := ⟨2, 15, 0, .ro, 0, .any⟩
/-- `RX_OVF`. -/
def Fd.cnCount.RX_OVF : Fld := ⟨3, 31, 16, .ro, 0, .any⟩
/-- `RX_IMPLAUS`. -/
def Fd.cnCount.RX_IMPLAUS : Fld := ⟨3, 15, 0, .ro, 0, .any⟩
/-- `BUS_OFFS`. -/
def Fd.cnCount.BUS_OFFS : Fld := ⟨4, 31, 16, .ro, 0, .any⟩
/-- `TDC_FAILS`. -/
def Fd.cnCount.TDC_FAILS : Fld := ⟨4, 15, 0, .ro, 0, .any⟩
/-- `RAM_PARITY`. -/
def Fd.cnCount.RAM_PARITY : Fld := ⟨5, 31, 16, .ro, 0, .any⟩
/-- `ADDR_CLASH`. -/
def Fd.cnCount.ADDR_CLASH : Fld := ⟨5, 15, 0, .ro, 0, .any⟩
def grpCnCountFlds0 : List Fld :=
  [Fd.cnCount.TX_FRAMES, Fd.cnCount.RX_FRAMES, Fd.cnCount.TX_FAILS, Fd.cnCount.TRUNC_COUNT, Fd.cnCount.RX_OVF, Fd.cnCount.RX_IMPLAUS, Fd.cnCount.BUS_OFFS, Fd.cnCount.TDC_FAILS, Fd.cnCount.RAM_PARITY, Fd.cnCount.ADDR_CLASH]
/-- The group of class 0x0B, number 0x030. -/
def grpCnCount : Grp :=
  ⟨6, 0, grpCnCountFlds0⟩

/-! ### Class 0x0B, group 0x040 (as its chapter gives it) -/

/-- `WUF_XTD`. -/
def Fd.cnWake.WUF_XTD : Fld := ⟨0, 31, 31, .rw, 0, .any⟩
/-- `WUF_RATE`. -/
def Fd.cnWake.WUF_RATE : Fld := ⟨0, 30, 29, .rw, 2, .any⟩
/-- `WUF_ID`. -/
def Fd.cnWake.WUF_ID : Fld := ⟨0, 28, 0, .rw, 0, .any⟩
/-- `WUF_MASK`. -/
def Fd.cnWake.WUF_MASK : Fld := ⟨1, 28, 0, .rw, 0, .any⟩
/-- `WUF_DLC`. -/
def Fd.cnWake.WUF_DLC : Fld := ⟨2, 31, 28, .rw, 0, .nat 0 8⟩
/-- `WAKE_FEC`. -/
def Fd.cnWake.WAKE_FEC : Fld := ⟨2, 27, 27, .ro, 0, .any⟩
/-- `WUF_DATA0`. -/
def Fd.cnWake.WUF_DATA0 : Fld := ⟨3, 31, 0, .rw, 0, .any⟩
/-- `WUF_DATA1`. -/
def Fd.cnWake.WUF_DATA1 : Fld := ⟨4, 31, 0, .rw, 0, .any⟩
def grpCnWakeFlds0 : List Fld :=
  [Fd.cnWake.WUF_XTD, Fd.cnWake.WUF_RATE, Fd.cnWake.WUF_ID, Fd.cnWake.WUF_MASK, Fd.cnWake.WUF_DLC, Fd.cnWake.WAKE_FEC, Fd.cnWake.WUF_DATA0, Fd.cnWake.WUF_DATA1]
/-- The group of class 0x0B, number 0x040. -/
def grpCnWake : Grp :=
  ⟨5, 1, grpCnWakeFlds0⟩

/-! ### Class 0x0C, group 0x010 (Table 12.12) -/

/-- `TT_STATE`. -/
def Fd.ttStat.TT_STATE : Fld := ⟨0, 31, 28, .ro, 0, .any⟩
/-- `MASTER`. -/
def Fd.ttStat.MASTER : Fld := ⟨0, 27, 27, .ro, 0, .any⟩
/-- `PENDING`. -/
def Fd.ttStat.PENDING : Fld := ⟨0, 26, 26, .ro, 0, .any⟩
/-- `CYCLE`. -/
def Fd.ttStat.CYCLE : Fld := ⟨0, 21, 16, .ro, 0, .any⟩
/-- `MISS_RUN`. -/
def Fd.ttStat.MISS_RUN : Fld := ⟨0, 15, 0, .ro, 0, .any⟩
/-- `WINDOW_MISS`. -/
def Fd.ttStat.WINDOW_MISS : Fld := ⟨1, 31, 16, .ro, 0, .any⟩
/-- `REF_MISS`. -/
def Fd.ttStat.REF_MISS : Fld := ⟨1, 15, 0, .ro, 0, .any⟩
/-- `CYC_JUMPS`. -/
def Fd.ttStat.CYC_JUMPS : Fld := ⟨2, 31, 16, .ro, 0, .any⟩
/-- `TT_DROPS`. -/
def Fd.ttStat.TT_DROPS : Fld := ⟨2, 15, 0, .ro, 0, .any⟩
def grpTtStatFlds0 : List Fld :=
  [Fd.ttStat.TT_STATE, Fd.ttStat.MASTER, Fd.ttStat.PENDING, Fd.ttStat.CYCLE, Fd.ttStat.MISS_RUN, Fd.ttStat.WINDOW_MISS, Fd.ttStat.REF_MISS, Fd.ttStat.CYC_JUMPS, Fd.ttStat.TT_DROPS]
/-- The group of class 0x0C, number 0x010. -/
def grpTtStat : Grp :=
  ⟨3, 0, grpTtStatFlds0⟩

/-! ### Class 0x0C, group 0x020 (Table 12.12) -/

/-- `TT_EN`. -/
def Fd.ttConf.TT_EN : Fld := ⟨0, 31, 31, .rw, 0, .any⟩
/-- `REF_MISS_MAX`. -/
def Fd.ttConf.REF_MISS_MAX : Fld := ⟨0, 23, 20, .rw, 2, .nat 1 7⟩
/-- `REF_TOL_NTU`. -/
def Fd.ttConf.REF_TOL_NTU : Fld := ⟨0, 15, 0, .rw, 20, .nat 1 1000⟩
def grpTtConfFlds0 : List Fld :=
  [Fd.ttConf.TT_EN, Fd.ttConf.REF_MISS_MAX, Fd.ttConf.REF_TOL_NTU]
/-- The group of class 0x0C, number 0x020. -/
def grpTtConf : Grp :=
  ⟨1, 1, grpTtConfFlds0⟩

/-! ### Class 0x0D, group 0x010 (Table 13.9) -/

/-- `NODE`. -/
def Fd.fbStat.NODE : Fld := ⟨0, 31, 20, .ro, 0, .any⟩
/-- `F_STATE`. -/
def Fd.fbStat.F_STATE : Fld := ⟨0, 19, 16, .ro, 0, .any⟩
/-- `STRATUM`. -/
def Fd.fbStat.STRATUM : Fld := ⟨0, 15, 12, .ro, 15, .any⟩
/-- `ADDR_SRC`. -/
def Fd.fbStat.ADDR_SRC : Fld := ⟨0, 11, 10, .ro, 3, .any⟩
/-- `ROOT`. -/
def Fd.fbStat.ROOT : Fld := ⟨0, 9, 9, .ro, 0, .any⟩
/-- `WALL_TAKEN`. -/
def Fd.fbStat.WALL_TAKEN : Fld := ⟨0, 8, 8, .ro, 0, .any⟩
/-- `CONFLICT`. -/
def Fd.fbStat.CONFLICT : Fld := ⟨0, 7, 7, .ro, 0, .any⟩
/-- `TM_PORTS`. -/
def Fd.fbStat.TM_PORTS : Fld := ⟨0, 6, 4, .ro, 0, .any⟩
/-- `TIME_PORT`. -/
def Fd.fbStat.TIME_PORT : Fld := ⟨0, 3, 2, .ro, 0, .any⟩
/-- `ROOT_UID_LO`. -/
def Fd.fbStat.ROOT_UID_LO : Fld := ⟨1, 31, 0, .ro, 0, .any⟩
/-- `ROOT_UID_HI`. -/
def Fd.fbStat.ROOT_UID_HI : Fld := ⟨2, 31, 0, .ro, 0, .any⟩
/-- `ROOT_NODE`. -/
def Fd.fbStat.ROOT_NODE : Fld := ⟨3, 31, 20, .ro, 0, .any⟩
/-- `ROUTES`. -/
def Fd.fbStat.ROUTES : Fld := ⟨3, 15, 0, .ro, 0, .any⟩
/-- `FAB_PERIOD`. -/
def Fd.fbStat.FAB_PERIOD : Fld := ⟨4, 31, 0, .ro, 0, .any⟩
/-- `HOP_EXPIRED`. -/
def Fd.fbStat.HOP_EXPIRED : Fld := ⟨5, 31, 16, .ro, 0, .any⟩
/-- `NO_ROUTE`. -/
def Fd.fbStat.NO_ROUTE : Fld := ⟨5, 15, 0, .ro, 0, .any⟩
/-- `CHECK_FAILS`. -/
def Fd.fbStat.CHECK_FAILS : Fld := ⟨6, 31, 16, .ro, 0, .any⟩
/-- `HDR_BAD`. -/
def Fd.fbStat.HDR_BAD : Fld := ⟨6, 15, 0, .ro, 0, .any⟩
/-- `FAB_TRUNC`. -/
def Fd.fbStat.FAB_TRUNC : Fld := ⟨7, 31, 16, .ro, 0, .any⟩
/-- `BACKLOG_DROPS`. -/
def Fd.fbStat.BACKLOG_DROPS : Fld := ⟨7, 15, 0, .ro, 0, .any⟩
/-- `BS_LATE`. -/
def Fd.fbStat.BS_LATE : Fld := ⟨8, 31, 16, .ro, 0, .any⟩
/-- `ADDR_CONFLICTS`. -/
def Fd.fbStat.ADDR_CONFLICTS : Fld := ⟨8, 15, 0, .ro, 0, .any⟩
def grpFbStatFlds0 : List Fld :=
  [Fd.fbStat.NODE, Fd.fbStat.F_STATE, Fd.fbStat.STRATUM, Fd.fbStat.ADDR_SRC, Fd.fbStat.ROOT, Fd.fbStat.WALL_TAKEN, Fd.fbStat.CONFLICT, Fd.fbStat.TM_PORTS, Fd.fbStat.TIME_PORT, Fd.fbStat.ROOT_UID_LO, Fd.fbStat.ROOT_UID_HI, Fd.fbStat.ROOT_NODE, Fd.fbStat.ROUTES, Fd.fbStat.FAB_PERIOD, Fd.fbStat.HOP_EXPIRED, Fd.fbStat.NO_ROUTE, Fd.fbStat.CHECK_FAILS, Fd.fbStat.HDR_BAD, Fd.fbStat.FAB_TRUNC, Fd.fbStat.BACKLOG_DROPS, Fd.fbStat.BS_LATE, Fd.fbStat.ADDR_CONFLICTS]
/-- The group of class 0x0D, number 0x010. -/
def grpFbStat : Grp :=
  ⟨9, 0, grpFbStatFlds0⟩

/-! ### Class 0x0D, group 0x020 (Table 13.10) -/

/-- `ADDR_PREF`. -/
def Fd.fbConf.ADDR_PREF : Fld := ⟨0, 31, 20, .rw, 0, .any⟩
/-- `TM_PRIO`. -/
def Fd.fbConf.TM_PRIO : Fld := ⟨0, 19, 16, .rw, 8, .any⟩
/-- `HOP_SLACK`. -/
def Fd.fbConf.HOP_SLACK : Fld := ⟨0, 15, 12, .rw, 2, .nat 0 8⟩
/-- `XF_MAX`. -/
def Fd.fbConf.XF_MAX : Fld := ⟨0, 11, 10, .rw, 2, .oneOf [1, 2]⟩
/-- `RELAY_ACCEPT`. -/
def Fd.fbConf.RELAY_ACCEPT : Fld := ⟨0, 9, 6, .rw, 7, .any⟩
/-- `WALL_FROM_FAB`. -/
def Fd.fbConf.WALL_FROM_FAB : Fld := ⟨0, 5, 5, .rw, 1, .any⟩
/-- `FABRIC_EN`. -/
def Fd.fbConf.FABRIC_EN : Fld := ⟨0, 4, 4, .rw, 1, .any⟩
/-- `HB_MS`. -/
def Fd.fbConf.HB_MS : Fld := ⟨1, 31, 16, .rw, 1000, .nat 250 10000⟩
/-- `ADV_S`. -/
def Fd.fbConf.ADV_S : Fld := ⟨1, 15, 0, .rw, 10, .nat 2 300⟩
/-- `CTL_RETRY_MS`. -/
def Fd.fbConf.CTL_RETRY_MS : Fld := ⟨2, 31, 16, .rw, 200, .nat 20 2000⟩
/-- `PLAN_REPEAT`. -/
def Fd.fbConf.PLAN_REPEAT : Fld := ⟨2, 15, 8, .rw, 10, .nat 1 255⟩
/-- `EXPORT`. -/
def Fd.fbConf.EXPORT : Fld := ⟨3, 31, 0, .rw, 0, .any⟩
/-- `COST0`. -/
def Fd.fbConf.COST0 : Fld := ⟨4, 31, 24, .rw, 16, .nat 1 255⟩
/-- `COST1`. -/
def Fd.fbConf.COST1 : Fld := ⟨4, 23, 16, .rw, 16, .nat 1 255⟩
/-- `COST2`. -/
def Fd.fbConf.COST2 : Fld := ⟨4, 15, 8, .rw, 16, .nat 1 255⟩
def grpFbConfFlds0 : List Fld :=
  [Fd.fbConf.ADDR_PREF, Fd.fbConf.TM_PRIO, Fd.fbConf.HOP_SLACK, Fd.fbConf.XF_MAX, Fd.fbConf.RELAY_ACCEPT, Fd.fbConf.WALL_FROM_FAB, Fd.fbConf.FABRIC_EN, Fd.fbConf.HB_MS, Fd.fbConf.ADV_S, Fd.fbConf.CTL_RETRY_MS, Fd.fbConf.PLAN_REPEAT, Fd.fbConf.EXPORT, Fd.fbConf.COST0, Fd.fbConf.COST1, Fd.fbConf.COST2]
/-- The group of class 0x0D, number 0x020. -/
def grpFbConf : Grp :=
  ⟨5, 1, grpFbConfFlds0⟩

/-! ### Class 0x10, group 0x010 (Table 15.8) -/

/-- `G_READY`. -/
def Fd.gdStat.G_READY : Fld := ⟨0, 31, 31, .ro, 0, .any⟩
/-- `G_HOLD`. -/
def Fd.gdStat.G_HOLD : Fld := ⟨0, 30, 30, .ro, 0, .any⟩
/-- `HB_SEEN`. -/
def Fd.gdStat.HB_SEEN : Fld := ⟨0, 29, 28, .ro, 0, .any⟩
/-- `FORCED_FANS`. -/
def Fd.gdStat.FORCED_FANS : Fld := ⟨0, 11, 0, .ro, 0, .any⟩
/-- `TAKEOVERS`. -/
def Fd.gdStat.TAKEOVERS : Fld := ⟨1, 31, 16, .ro, 0, .any⟩
/-- `HB_EXPIRIES`. -/
def Fd.gdStat.HB_EXPIRIES : Fld := ⟨1, 15, 0, .ro, 0, .any⟩
/-- `ISLAND_RESETS`. -/
def Fd.gdStat.ISLAND_RESETS : Fld := ⟨2, 31, 16, .ro, 0, .any⟩
/-- `CARRIED`. -/
def Fd.gdStat.CARRIED : Fld := ⟨2, 7, 0, .ro, 0, .any⟩
/-- `UNAVAIL_MS`. -/
def Fd.gdStat.UNAVAIL_MS : Fld := ⟨3, 31, 0, .ro, 0, .any⟩
def grpGdStatFlds0 : List Fld :=
  [Fd.gdStat.G_READY, Fd.gdStat.G_HOLD, Fd.gdStat.HB_SEEN, Fd.gdStat.FORCED_FANS, Fd.gdStat.TAKEOVERS, Fd.gdStat.HB_EXPIRIES, Fd.gdStat.ISLAND_RESETS, Fd.gdStat.CARRIED, Fd.gdStat.UNAVAIL_MS]
/-- The group of class 0x10, number 0x010. -/
def grpGdStat : Grp :=
  ⟨4, 0, grpGdStatFlds0⟩

/-! ### Class 0x10, group 0x020 (Table 15.9) -/

/-- `HB_TMO_MS`. -/
def Fd.gdConf.HB_TMO_MS : Fld := ⟨0, 31, 16, .rw, 50, .nat 10 1000⟩
def grpGdConfFlds0 : List Fld :=
  [Fd.gdConf.HB_TMO_MS]
/-- The group of class 0x10, number 0x020. -/
def grpGdConf : Grp :=
  ⟨1, 1, grpGdConfFlds0⟩

/-! ### Class 0x10, group 0x010 (Table 15.10) -/

/-- `G_T`. -/
def Fd.gzStat.G_T : Fld := ⟨0, 31, 0, .ro, 0, .any⟩
/-- `G_V`. -/
def Fd.gzStat.G_V : Fld := ⟨1, 31, 0, .ro, 0, .any⟩
/-- `G_CARRIED`. -/
def Fd.gzStat.G_CARRIED : Fld := ⟨2, 31, 31, .ro, 0, .any⟩
/-- `G_FROST`. -/
def Fd.gzStat.G_FROST : Fld := ⟨2, 30, 30, .ro, 0, .any⟩
/-- `G_PURGE`. -/
def Fd.gzStat.G_PURGE : Fld := ⟨2, 29, 29, .ro, 0, .any⟩
/-- `G_INPUT_BAD`. -/
def Fd.gzStat.G_INPUT_BAD : Fld := ⟨2, 28, 28, .ro, 0, .any⟩
def grpGzStatFlds0 : List Fld :=
  [Fd.gzStat.G_T, Fd.gzStat.G_V, Fd.gzStat.G_CARRIED, Fd.gzStat.G_FROST, Fd.gzStat.G_PURGE, Fd.gzStat.G_INPUT_BAD]
/-- The group of class 0x10, number 0x010. -/
def grpGzStat : Grp :=
  ⟨3, 0, grpGzStatFlds0⟩

/-! ### Class 0x10, group 0x020 (as its chapter gives it) -/

/-- `G_ENABLE`. -/
def Fd.gzConf.G_ENABLE : Fld := ⟨0, 31, 31, .rw, 0, .any⟩
/-- `FAIL_ACT`. -/
def Fd.gzConf.FAIL_ACT : Fld := ⟨0, 30, 30, .rw, 1, .any⟩
/-- `G_BIAS`. -/
def Fd.gzConf.G_BIAS : Fld := ⟨0, 29, 28, .rw, 1, .nat 0 2⟩
/-- `G_INPUT`. -/
def Fd.gzConf.G_INPUT : Fld := ⟨0, 18, 16, .rw, 0, .any⟩
/-- `ZONE`. -/
def Fd.gzConf.ZONE : Fld := ⟨0, 7, 0, .rw, 0, .nat 0 31⟩
/-- `FROST_C`. -/
def Fd.gzConf.FROST_C : Fld := ⟨1, 31, 0, .rw, 1084227584, .flt 0x00000000#32 0x41700000#32⟩
/-- `PURGE_C`. -/
def Fd.gzConf.PURGE_C : Fld := ⟨2, 31, 0, .rw, 1108082688, .flt 0x41C80000#32 0x42700000#32⟩
/-- `FROST_HYST`. -/
def Fd.gzConf.FROST_HYST : Fld := ⟨3, 31, 24, .rw, 20, .nat 5 100⟩
/-- `PURGE_HYST`. -/
def Fd.gzConf.PURGE_HYST : Fld := ⟨3, 23, 16, .rw, 30, .nat 5 100⟩
/-- `R25`. -/
def Fd.gzConf.R25 : Fld := ⟨4, 31, 16, .rw, 1000, .any⟩
/-- `B`. -/
def Fd.gzConf.B : Fld := ⟨4, 15, 0, .rw, 3977, .any⟩
/-- `S_CLASS0`. -/
def Fd.gzConf.S_CLASS0 : Fld := ⟨5, 31, 24, .rw, 0, .oneOf [0, 4, 5, 6]⟩
/-- `S_INST0`. -/
def Fd.gzConf.S_INST0 : Fld := ⟨5, 23, 16, .rw, 0, .any⟩
/-- `S_FROST0`. -/
def Fd.gzConf.S_FROST0 : Fld := ⟨5, 15, 8, .rw, 255, .natx 0 100 [255]⟩
/-- `S_PURGE0`. -/
def Fd.gzConf.S_PURGE0 : Fld := ⟨5, 7, 0, .rw, 255, .natx 0 100 [255]⟩
/-- `S_CLASS1`. -/
def Fd.gzConf.S_CLASS1 : Fld := ⟨6, 31, 24, .rw, 0, .oneOf [0, 4, 5, 6]⟩
/-- `S_INST1`. -/
def Fd.gzConf.S_INST1 : Fld := ⟨6, 23, 16, .rw, 0, .any⟩
/-- `S_FROST1`. -/
def Fd.gzConf.S_FROST1 : Fld := ⟨6, 15, 8, .rw, 255, .natx 0 100 [255]⟩
/-- `S_PURGE1`. -/
def Fd.gzConf.S_PURGE1 : Fld := ⟨6, 7, 0, .rw, 255, .natx 0 100 [255]⟩
/-- `S_CLASS2`. -/
def Fd.gzConf.S_CLASS2 : Fld := ⟨7, 31, 24, .rw, 0, .oneOf [0, 4, 5, 6]⟩
/-- `S_INST2`. -/
def Fd.gzConf.S_INST2 : Fld := ⟨7, 23, 16, .rw, 0, .any⟩
/-- `S_FROST2`. -/
def Fd.gzConf.S_FROST2 : Fld := ⟨7, 15, 8, .rw, 255, .natx 0 100 [255]⟩
/-- `S_PURGE2`. -/
def Fd.gzConf.S_PURGE2 : Fld := ⟨7, 7, 0, .rw, 255, .natx 0 100 [255]⟩
def grpGzConfFlds0 : List Fld :=
  [Fd.gzConf.G_ENABLE, Fd.gzConf.FAIL_ACT, Fd.gzConf.G_BIAS, Fd.gzConf.G_INPUT, Fd.gzConf.ZONE, Fd.gzConf.FROST_C, Fd.gzConf.PURGE_C, Fd.gzConf.FROST_HYST, Fd.gzConf.PURGE_HYST, Fd.gzConf.R25, Fd.gzConf.B, Fd.gzConf.S_CLASS0, Fd.gzConf.S_INST0, Fd.gzConf.S_FROST0, Fd.gzConf.S_PURGE0, Fd.gzConf.S_CLASS1, Fd.gzConf.S_INST1, Fd.gzConf.S_FROST1, Fd.gzConf.S_PURGE1, Fd.gzConf.S_CLASS2, Fd.gzConf.S_INST2, Fd.gzConf.S_FROST2, Fd.gzConf.S_PURGE2]
/-- The group of class 0x10, number 0x020. -/
def grpGzConf : Grp :=
  ⟨8, 1, grpGzConfFlds0⟩

/-! ### Class 0x0F, group 0x010 (Table 15.12) -/

/-- `BAND`. -/
def Fd.thStat.BAND : Fld := ⟨0, 31, 29, .ro, 1, .any⟩
/-- `THERMAL_SIDING`. -/
def Fd.thStat.THERMAL_SIDING : Fld := ⟨0, 28, 28, .ro, 0, .any⟩
/-- `FAILED`. -/
def Fd.thStat.FAILED : Fld := ⟨0, 8, 0, .ro, 0, .any⟩
/-- `T_MAX`. -/
def Fd.thStat.T_MAX : Fld := ⟨1, 31, 0, .ro, 0, .any⟩
/-- `LIMIT_G`. -/
def Fd.thStat.LIMIT_G : Fld := ⟨2, 31, 0, .ro, 1684300900, .any⟩
/-- `LIMIT_FA`. -/
def Fd.thStat.LIMIT_FA : Fld := ⟨3, 31, 24, .ro, 100, .any⟩
/-- `LIMIT_FB`. -/
def Fd.thStat.LIMIT_FB : Fld := ⟨3, 23, 16, .ro, 100, .any⟩
/-- `THROTTLE_STEPS`. -/
def Fd.thStat.THROTTLE_STEPS : Fld := ⟨3, 15, 0, .ro, 0, .any⟩
/-- `P_PKG`. -/
def Fd.thStat.P_PKG : Fld := ⟨4, 31, 0, .ro, 0, .any⟩
def grpThStatFlds0 : List Fld :=
  [Fd.thStat.BAND, Fd.thStat.THERMAL_SIDING, Fd.thStat.FAILED, Fd.thStat.T_MAX, Fd.thStat.LIMIT_G, Fd.thStat.LIMIT_FA, Fd.thStat.LIMIT_FB, Fd.thStat.THROTTLE_STEPS, Fd.thStat.P_PKG]
/-- The group of class 0x0F, number 0x010. -/
def grpThStat : Grp :=
  ⟨5, 0, grpThStatFlds0⟩

/-! ### Class 0x0F, group 0x020 (Table 15.13) -/

/-- `THROTTLE_C`. -/
def Fd.thConf.THROTTLE_C : Fld := ⟨0, 31, 24, .rw, 125, .nat 100 135⟩
/-- `SIDING_FLOOR_S`. -/
def Fd.thConf.SIDING_FLOOR_S : Fld := ⟨0, 15, 0, .rw, 60, .natx 10 3600 [0]⟩
/-- `CRIT_LOWER`. -/
def Fd.thConf.CRIT_LOWER : Fld := ⟨1, 31, 28, .rw, 15, .natx 0 7 [15]⟩
def grpThConfFlds0 : List Fld :=
  [Fd.thConf.THROTTLE_C, Fd.thConf.SIDING_FLOOR_S, Fd.thConf.CRIT_LOWER]
/-- The group of class 0x0F, number 0x020. -/
def grpThConf : Grp :=
  ⟨2, 0, grpThConfFlds0⟩

/-! ### Class 0x0F, group 0x010 (Table 15.14) -/

/-- `T_DIE`. -/
def Fd.dsStat.T_DIE : Fld := ⟨0, 31, 0, .ro, 0, .any⟩
/-- `T_USED`. -/
def Fd.dsStat.T_USED : Fld := ⟨1, 31, 0, .ro, 0, .any⟩
/-- `S_FAILED`. -/
def Fd.dsStat.S_FAILED : Fld := ⟨2, 31, 31, .ro, 0, .any⟩
/-- `F_CAUSE`. -/
def Fd.dsStat.F_CAUSE : Fld := ⟨2, 30, 28, .ro, 0, .any⟩
/-- `FAILURES`. -/
def Fd.dsStat.FAILURES : Fld := ⟨2, 15, 0, .ro, 0, .any⟩
/-- `T_PEAK`. -/
def Fd.dsStat.T_PEAK : Fld := ⟨3, 31, 0, .ro, 0, .any⟩
def grpDsStatFlds0 : List Fld :=
  [Fd.dsStat.T_DIE, Fd.dsStat.T_USED, Fd.dsStat.S_FAILED, Fd.dsStat.F_CAUSE, Fd.dsStat.FAILURES, Fd.dsStat.T_PEAK]
/-- The group of class 0x0F, number 0x010. -/
def grpDsStat : Grp :=
  ⟨4, 0, grpDsStatFlds0⟩

/-! ### Class 0x11, group 0x0A0 (Table 16.6) -/

/-- `NA_STRAP`. -/
def Fd.strap.NA_STRAP : Fld := ⟨0, 31, 28, .ro, 0, .any⟩
/-- `SVC_N_STRAP`. -/
def Fd.strap.SVC_N_STRAP : Fld := ⟨0, 27, 27, .ro, 0, .any⟩
/-- `PROF_L_STRAP`. -/
def Fd.strap.PROF_L_STRAP : Fld := ⟨0, 26, 26, .ro, 0, .any⟩
/-- `UNSTABLE`. -/
def Fd.strap.UNSTABLE : Fld := ⟨0, 10, 0, .ro, 0, .any⟩
/-- `SAMPLED_AT`. -/
def Fd.strap.SAMPLED_AT : Fld := ⟨1, 0, 0, .ro, 0, .any⟩
def grpStrapFlds0 : List Fld :=
  [Fd.strap.NA_STRAP, Fd.strap.SVC_N_STRAP, Fd.strap.PROF_L_STRAP, Fd.strap.UNSTABLE, Fd.strap.SAMPLED_AT]
/-- The group of class 0x11, number 0x0A0. -/
def grpStrap : Grp :=
  ⟨2, 0, grpStrapFlds0⟩

/-- A read-only field without reset value of its own: its value comes from the state. -/
def roFld (w hi lo : Nat) : Fld := ⟨w, hi, lo, .ro, 0, .any⟩

/-- Whole read-only words `a` to `b`. -/
def roWords (a b : Nat) : List Fld := (List.range (b + 1 - a)).map fun k => roFld (a + k) 31 0

/-! ### Class 0x05, group 0x030 (Table 10.10, R295) -/

/-- The group of class 0x05, number 0x030. -/
def grpFSig : Grp :=
  ⟨10, 0, roWords 0 9⟩

/-! ### Class 0x0D, group 0x030 (as its chapter gives it) -/

/-- The group of class 0x0D, number 0x030. -/
def grpFbSeg : Grp :=
  ⟨6, 0, (List.range 3).flatMap fun n => [roFld (2 * n) 31 6, roFld (2 * n + 1) 31 0]⟩

/-! ### Class 0x09, group 0x010 (as its chapter gives it) -/

/-- The group of class 0x09, number 0x010. -/
def grpPeStat : Grp :=
  ⟨8, 0, roWords 0 7⟩

/-! ### Class 0x09, group 0x010 (as its chapter gives it) -/

/-- The group of class 0x09, number 0x010. -/
def grpMdStat : Grp :=
  ⟨6, 0, [roFld 0 31 26, roFld 0 23 0] ++ roWords 1 5⟩

/-! ### Class 0x09, group 0x030 (as its chapter gives it) -/

/-- The group of class 0x09, number 0x030. -/
def grpMdTheta : Grp :=
  ⟨17, 0, roWords 0 16⟩

/-! ### Class 0x00, group 0x000 (as its chapter gives it) -/

/-- The group of class 0x00, number 0x000. -/
def grpIdent : Grp :=
  ⟨2, 0, [roFld 0 31 12, roFld 0 7 0, roFld 1 31 16, roFld 1 0 0]⟩

end Sys2Proof.Machine
end

