-- ==== Sys2Proof/Machine/Points.lean ====
section
/-!
DEFINITION. Sys2Proof/Machine/Points.lean: from sample to point (R169–R176), the bindings of points to zones (R191) and
the publication into `Q-PNT` (R175, R47).
-/
namespace Sys2Proof.Machine
open Sys2Proof

/-! ### Objects and configuration -/

def ptObj (p g : Nat) : Nat := objId 0x02 p g
def znObj (z g : Nat) : Nat := objId 0x01 z g
def lpObj (k g : Nat) : Nat := objId 0x03 k g
def prObj (z g : Nat) : Nat := objId 0x08 z g
/-- Field group `g` of `System` instance 0. -/
def sysObj (g : Nat) : Nat := objId 0x11 0 g
def peObj (g : Nat) : Nat := objId 0x09 0 g
/-- Field group `g` of the model of zone `z`. -/
def mdObj (z g : Nat) : Nat := objId 0x09 (z + 1) g

/-- `SRC_TYPE` of a point. -/
def State.srcType (s : State) (p : Nat) : Nat := s.cf (ptObj p 0x020) Fd.ptSource.SRC_TYPE
def State.srcIndex (s : State) (p : Nat) : Nat := s.cf (ptObj p 0x020) Fd.ptSource.SRC_INDEX
/-- The default of `SRC_CFG` for a source type (Table 6.8). -/
def srcCfgDflt (t : Nat) : Nat :=
  if t == 1 || t == 2 then 2 * 2 ^ 29
  else if t == 4 then 1 * 2 ^ 22 + 2 ^ 21
  else if t == 5 then 10 * 2 ^ 21
  else 0
def State.srcCfg (s : State) (p : Nat) : Nat := s.cf (ptObj p 0x020) Fd.ptSource.SRC_CFG

/-- A point as the point table holds it. -/
def State.pt (s : State) (p : Nat) : Point := s.se.pts.getD p {}

/-- Changes one point. -/
def State.modPt (s : State) (p : Nat) (f : Point → Point) : State := { s with se.pts := lmod s.se.pts p f }

/-- The divider that Platform puts on sampling and on staleness (R78). -/
def State.platDiv (s : State) : Nat :=
  if s.mn.mode == .platform then s.cf (sysObj 0x030) Fd.power.PLAT_DIV else 1

/-! ### Bindings (R191) -/

/-- The field of actuator input `i` that corresponds to a field of input 0. -/
def inpFld (f : Fld) (i : Nat) : Fld := f.at_ (2 * i)

/-- `SP_HEAT` of a state (Table 7.12); each state has its own default. -/
def spHeatFld (st : Nat) : Fld :=
  match st with
  | 0 => Fd.znSp.SP_HEAT0
  | 1 => Fd.znSp.SP_HEAT1
  | 2 => Fd.znSp.SP_HEAT2
  | _ => Fd.znSp.SP_HEAT3

/-- `SP_COOL` of a state. -/
def spCoolFld (st : Nat) : Fld :=
  match st with
  | 0 => Fd.znSp.SP_COOL0
  | 1 => Fd.znSp.SP_COOL1
  | 2 => Fd.znSp.SP_COOL2
  | _ => Fd.znSp.SP_COOL3

/-- Point numbers that a zone's own groups name. -/
def State.zoneNames (s : State) (z : Nat) : List Nat :=
  let p := znObj z 0x030
  let a := znObj z 0x040
  let r := prObj z 0x020
  [s.cf p Fd.znPts.T_PT, s.cf p Fd.znPts.T_ALT, s.cf p Fd.znPts.RH_PT, s.cf p Fd.znPts.CO2_PT] ++
    ((List.range 4).flatMap fun i => [s.cf a (inpFld Fd.znAct.PROOF_PT0 i), s.cf a (inpFld Fd.znAct.LIMIT_PT0 i)]) ++
    [s.cf r Fd.presConf.PIR0_PT, s.cf r Fd.presConf.PIR1_PT, s.cf r Fd.presConf.DOOR_PT]

/-- Loops given to a zone, ascending. -/
def State.zoneLoops (s : State) (z : Nat) : List Nat :=
  (List.range 64).filter fun k => s.cf (lpObj k 0x020) Fd.loopConf.ZONE == z

/-- The zone is enabled. -/
def State.zoneOn (s : State) (z : Nat) : Bool := s.cfb (znObj z 0x020) Fd.znConf.ENABLE

/-- Every point number that a zone's configuration names, `OUT_PT` included. -/
def State.zonePoints (s : State) (z : Nat) : List Nat :=
  s.zoneNames z ++ ((s.zoneLoops z).map fun k => s.cf (lpObj k 0x020) Fd.loopConf.PV_PT) ++
    (if s.zoneOn z && s.cfb (znObj z 0x020) Fd.znConf.PLAN_EN then [s.cf (peObj 0x020) Fd.peConf.OUT_PT] else [])

/-- The point is bound to the zone. -/
def State.bound (s : State) (p z : Nat) : Bool := p < 160 && (s.zonePoints z).contains p

/-- Number of fields that name the point (Table 7.5): the fields by which R191 binds points, those of loops only where a zone has the loop, and
`OUT_PT` once (log 67). -/
def State.boundUses (s : State) (p : Nat) : Nat :=
  ((List.range 32).map fun z => (((s.zoneNames z) ++ ((s.zoneLoops z).map fun k =>
    s.cf (lpObj k 0x020) Fd.loopConf.PV_PT)).filter (· == p)).length).sum +
    b2n (s.cf (peObj 0x020) Fd.peConf.OUT_PT == p)

/-! ### `Q-PNT` (R44, R47) -/

/-- `Q-PNT` credits: `SE0` 24, `SE1` 24, `PE` 16 in each ring. -/
def pntCredits (prod : Nat) : Nat := if prod == prPE then 16 else 24

/-- The ring that takes the items of a zone: that of the core that carries it, or of its home core while the map is
empty (`SB` then reads every ring, R37). -/
def State.ringOf (s : State) (z : Nat) : Nat := (s.per.zmap.getD z none).getD (z / 8)

/-- An item enters a ring while its producer holds a credit and no earlier item of the producer waits; it waits
otherwise. -/
def State.enterPnt (s : State) (ring : Nat) (qe : QE PntVal) : State :=
  let prod := qe.prod
  let blocked := s.zs.pntWait.any fun w => w.1 == ring && w.2.prod == prod
  if held (s.zs.qPnt.getD ring []) prod < pntCredits prod && !blocked then
    let q := lmod s.zs.qPnt ring (· ++ [qe])
    let due := s.per.instantDone && s.per.undone.any fun z => s.per.zmap.getD z none == some ring
    let first := (s.zs.qPnt.getD ring []).isEmpty && !due
    State.noteHigh { s with zs.qPnt := q,
                            per.cores := if first then lmod s.per.cores ring fun c => { c with progress := s.now } else s.per.cores }
      1 (q.map List.length).sum
  else { s with zs.pntWait := s.zs.pntWait ++ [(ring, qe)] }

/-- A producer writes an item; one that has to wait counts once as a stall (R48). -/
def State.postPnt (s : State) (prod ring : Nat) (v : PntVal) : State :=
  let t := s.enterPnt ring { val := v, prod := prod }
  if s.zs.pntWait.length < t.zs.pntWait.length then t.noteStall 1 else t

/-- Waiting items enter their rings as credits return. -/
def State.refillPnt (s : State) : State :=
  s.zs.pntWait.foldl (fun (t : State) w => t.enterPnt w.1 w.2) { s with zs.pntWait := [] }

/-- A point's item goes once to the ring of each core that carries a zone bound to it (R175). -/
def State.publish (s : State) (k p : Nat) : State :=
  let x := s.pt p
  let rings := (((List.range 32).filter fun z => s.bound p z).map s.ringOf).eraseDups
  let s1 := s.modPt p fun y => { y with pubAt := some s.now, fresh := false }
  rings.foldl (fun t r => t.postPnt (prSE k) r (.point p x.y x.stat x.cause)) s1

/-- `ARG` of `POINT_STALE`: the age in ms. -/
def State.staleArg (s : State) (p : Nat) : Nat := sat 24 ((s.now - (s.pt p).accAt.getD 0) / 1000)

/-- Status and cause are set; transitions log their events (R175); a change is published. -/
def State.setStat (s : State) (k p : Nat) (st : PStat) (cause : Nat) : State :=
  let x := s.pt p
  if x.stat == st && x.cause == cause then s
  else
    let s1 := s.modPt p fun y => { y with stat := st, cause := cause }
    let s2 :=
      if x.stat == st then s1
      else match st with
        | .bad => s1.raise (prSE k) evPointBad p cause
        | .stale => s1.raise (prSE k) evPointStale p (s.staleArg p)
        | .good => if x.stat == .bad || x.stat == .stale then s1.raise (prSE k) evPointGood p x.stat.code else s1
        | .suspect => s1
    s2.publish k p

/-! ### Staleness (R174) -/

/-- The staleness timeout in µs, multiplied by `PLAT_DIV` in Platform (R78). -/
def State.staleUs (s : State) (p : Nat) : Nat :=
  s.cf (ptObj p 0x040) Fd.ptCheck.STALE_DS * 100000 * s.platDiv

/-- The point's last accepted value is older than its timeout; digital inputs are exempt. -/
def State.isStale (s : State) (p : Nat) : Bool :=
  s.srcType p != 5 &&
    (match (s.pt p).accAt with
     | none => true
     | some t => decide (s.now - t > s.staleUs p))

/-- The staleness test of one point. A point that a restart has made `STALE` is published and logged as such once it is past its timeout
(R86; log 68). -/
def State.testStale (s : State) (k p : Nat) : State :=
  if s.srcType p == 0 || !s.isStale p then s
  else if (s.pt p).stat != .stale then
    (s.setStat k p .stale 6).modPt p fun y => { y with restart := true }
  else if (s.pt p).byStart then
    ((s.modPt p fun y => { y with byStart := false }).raise (prSE k) evPointStale p (s.staleArg p)).publish k p
  else s

/-- A judged status, below which `STALE` takes precedence (R174): the staleness test comes first, and while the point is `STALE` only
an accepted value clears it. -/
def State.holdStat (s : State) (k p : Nat) (st : PStat) (cause : Nat) : State :=
  let s1 := (s.modPt p fun y => { y with rejects := sat 16 (y.rejects + 1), wasBad := y.wasBad || st == .bad }).testStale k p
  if (s1.pt p).stat == .stale then s1 else s1.setStat k p st cause

/-- A rejected entry; it breaks the run of entries in range (Table 6.5). -/
def State.judge (s : State) (k p : Nat) (st : PStat) (cause : Nat) : State :=
  (s.modPt p fun y => { y with goodRun := 0 }).holdStat k p st cause

/-- A poisoned entry; it breaks the runs of other conditions (Table 6.5). -/
def State.judgePoison (s : State) (k p : Nat) : State :=
  (s.modPt p fun y => { y with failRun := 0, rateRun := 0 }).judge k p .suspect 4

/-! ### Acceptance and filter (R172, R173) -/

/-- The median of three values. -/
def fMedian (a b c : F32) : F32 := fMax (fMin a b) (fMin (fMax a b) c)

/-- An accepted value: history, median, first-order filter, status `GOOD`, publication; `PE` holds the latest of `OUT_PT` (R222). -/
def State.accept (s : State) (k p : Nat) (v : F32) (restart : Bool) : State :=
  let x := s.pt p
  let c := ptObj p 0x040
  let re := restart || x.restart || x.stat == .bad || x.stat == .stale
  let hist := (v :: (if re then [] else x.hist)).take 3
  let m := if s.cfb c Fd.ptCheck.MEDIAN3 then (match hist with | [a, b, d] => fMedian a b d | _ => v) else v
  let tau := s.cff c Fd.ptCheck.TAU_S
  let dt := fOfRat ((s.now - x.accAt.getD s.now : Nat) : Int) 1000000
  let y :=
    if re then v
    else if fEq tau fZero then m
    else
      let al := fSub fOne (fExp (fNeg (fDiv dt tau)))
      fAdd x.y (fMul al (fSub m x.y))
  let s1 := s.modPt p fun z => { z with y := y, lastV := v, accAt := some s.now, hist := hist, restart := false,
                                        samples := (z.samples + 1) % 2 ^ 32, rateRun := 0, goodRun := 0,
                                        wasBad := false, fresh := true, accPer := some s.per.count, byStart := false }
  let s2 := s1.setStat k p .good 0
  let s2 := if p == s.cf (peObj 0x020) Fd.peConf.OUT_PT then { s2 with pr.outT := some y } else s2
  let z := s2.pt p
  let due := match z.pubAt with
    | none => true
    | some t => decide (s.now - t ≥ s.cf c Fd.ptCheck.PUB_MS * 1000)
  if z.fresh && due then s2.publish k p else s2

/-- The checks of Table 6.5 on a linearised value. -/
def State.checkValue (s : State) (k p : Nat) (v : F32) : State :=
  let x := s.pt p
  let c := ptObj p 0x040
  let rmax := s.cff c Fd.ptCheck.RATE_MAX
  let s0 := s.modPt p fun y => { y with failRun := 0 }
  if fLt v (s.cff c Fd.ptCheck.LO) then (s0.modPt p fun y => { y with rateRun := 0 }).judge k p .bad 1
  else if fNotFinite v || fLt (s.cff c Fd.ptCheck.HI) v then (s0.modPt p fun y => { y with rateRun := 0 }).judge k p .bad 2
  else
    let rated := (x.stat == .good || x.stat == .suspect) && !x.restart && x.accAt.isSome && !fEq rmax fZero
    let dt := fOfRat ((s.now - x.accAt.getD s.now : Nat) : Int) 1000000
    let tooFast := rated && fLt rmax (fDiv (fAbs (fSub v x.lastV)) dt)
    if tooFast then
      if x.rateRun + 1 ≥ s.cf c Fd.ptCheck.RATE_HOLD then s0.accept k p v true
      else (s0.modPt p fun y => { y with rateRun := y.rateRun + 1 }).judge k p .suspect 3
    else if x.wasBad && x.goodRun + 1 < s.cf c Fd.ptCheck.RECOVER_N then
      (s0.modPt p fun y => { y with goodRun := y.goodRun + 1, rateRun := 0 }).holdStat k p .bad x.cause
    else s0.accept k p v x.wasBad

/-- An error entry or a source failure (Table 6.5). -/
def State.sourceFail (s : State) (k p : Nat) : State :=
  let n := (s.pt p).failRun + 1
  let s1 := s.modPt p fun y => { y with failRun := n, rateRun := 0 }
  if n < s.cf (ptObj p 0x040) Fd.ptCheck.FAIL_N then s1.judge k p .suspect 5 else s1.judge k p .bad 5

/-! ### Linearisation (R171) -/

/-- Method 4: the IEC 60751 inverse. -/
def rtdInverse (r0 x : F32) : Option F32 :=
  let a := fOfRat 39083 10000000
  let b := fOfRat (-5775) 10000000000
  let c := fOfRat (-4183) 1000000000000000
  let two := fOfNat 2
  let rad := fSub (fMul a a) (fMul (fMul (fOfNat 4) b) (fSub fOne (fDiv x r0)))
  if fLt rad fZero then none
  else
    let t0 := fDiv (fAdd (fNeg a) (fSqrt rad)) (fMul two b)
    let newton (t : F32) : F32 :=
      let t2 := fMul t t
      let t3 := fMul t2 t
      let r := fMul r0 (fAdd (fAdd (fAdd fOne (fMul a t)) (fMul b t2)) (fMul (fMul c (fSub t (fOfNat 100))) t3))
      let d := fMul r0 (fAdd (fAdd a (fMul (fMul two b) t))
        (fMul c (fSub (fMul (fOfNat 4) t3) (fMul (fOfNat 300) t2))))
      fSub t (fDiv (fSub r x) d)
    if fLe r0 x then some t0 else some (newton (newton (newton t0)))

/-- The default of breakpoint `i` is i, so a breakpoint word that has never been written reads i. -/
def State.bp (s : State) (p i : Nat) (y : Bool) : F32 :=
  let w := if y then 2 + 2 * i else 1 + 2 * i
  match assocGet s.cfg (cfgKey (ptObj p 0x050) w) with
  | some v => v
  | none => fOfNat i

/-- Method 5: piecewise linear with extended end segments. -/
def State.tableLin (s : State) (p : Nat) (x : F32) : F32 :=
  let n := s.cf (ptObj p 0x050) Fd.ptTable.N_BP
  let i := ((List.range (n - 1)).find? fun j => fLe x (s.bp p (j + 1) false)).getD (n - 2)
  let x0 := s.bp p i false
  let y0 := s.bp p i true
  fAdd y0 (fDiv (fMul (fSub x x0) (fSub (s.bp p (i + 1) true) y0)) (fSub (s.bp p (i + 1) false) x0))

/-- What linearisation answers: a value, or a range verdict of its own. -/
inductive Lin where
  | val (v : F32)
  | low
  | high
  deriving DecidableEq, Repr

/-- The raw value v of an input quantity x (Table 6.4). -/
def State.linearise (s : State) (p : Nat) (x : F32) : Lin :=
  let o := ptObj p 0x030
  let c0 := s.cff o Fd.ptLin.C0
  let c1 := s.cff o Fd.ptLin.C1
  let c2 := s.cff o Fd.ptLin.C2
  let c3 := s.cff o Fd.ptLin.C3
  match s.cf o Fd.ptLin.METHOD with
  | 1 => .val (fAdd c0 (fMul c1 x))
  | 2 => .val (fAdd c0 (fMul x (fAdd c1 (fMul x (fAdd c2 (fMul x c3))))))
  | 3 =>
    if fLe x fZero then .low
    else
      let l := fLn x
      let d := fAdd (fAdd c0 (fMul c1 l)) (fMul c2 (fMul (fMul l l) l))
      .val (fSub (fDiv fOne d) (fOfRat 27315 100))
  | 4 => (match rtdInverse c0 x with | none => .high | some t => .val t)
  | 5 => .val (s.tableLin p x)
  | 6 =>
    let cp := s.cf o Fd.ptLin.COMP_POINT
    let q := s.pt cp
    let t := if cp < 160 && q.stat == .good then q.y else fOfNat 25
    .val (fDiv (fSub x (fMul c0 (fAdd fOne (fMul c2 (fSub t (fOfNat 25)))))) c1)
  | _ => .val x

/-- An input quantity goes through linearisation and the checks (R169 steps 5–10). -/
def State.quantity (s : State) (k p : Nat) (x : F32) : State :=
  let s1 := s.modPt p fun y => { y with raw := x }
  match s1.linearise p x with
  | .val v => s1.checkValue k p v
  | .low => (s1.modPt p fun y => { y with failRun := 0, rateRun := 0 }).judge k p .bad 1
  | .high => (s1.modPt p fun y => { y with failRun := 0, rateRun := 0 }).judge k p .bad 2

/-! ### Input quantities (R170) -/

/-- The excitation current of a code, in µA. -/
def excUa (c : Nat) : Nat := [0, 10, 50, 100, 250, 500, 1000, 0].getD c 0

/-- V_in, the voltage at the multiplexer, of an analog code (R154). -/
def State.vIn (s : State) (p : Nat) (code : Int) : F32 := fOfRat (code * 5) (2 * 2 ^ bits (s.srcCfg p) 26 24 * 2 ^ 23)

/-- The ball voltage: 5 × V_in with `ATTEN` (R154). -/
def State.ballVolt (s : State) (p : Nat) (code : Int) : F32 :=
  if bitOf (s.srcCfg p) 23 then fMul (fOfNat 5) (s.vIn p code) else s.vIn p code

/-- The reference point has an accepted sample of the current or the previous period and is neither `BAD` nor `STALE`. -/
def State.refOk (s : State) (r : Nat) : Bool :=
  let q := s.pt r
  q.stat != .bad && q.stat != .stale &&
    (match q.accPer with | none => false | some n => n == s.per.count || n + 1 == s.per.count)

/-- An analog output that is not marked. -/
def State.analogIn (s : State) (k p : Nat) (code : Int) : State :=
  let cfg := s.srcCfg p
  let v := s.vIn p code
  let s1 := s.modPt p fun y => { y with volt := s.ballVolt p code }
  match bits cfg 19 18 with
  | 1 => s1.quantity k p (fDiv v (fOfRat (excUa (bits cfg 22 20) : Int) 1000000))
  | 2 =>
    let r := bits cfg 15 8
    if s1.refOk r then
      s1.quantity k p (fDiv (fMul (s1.cff (ptObj p 0x020) Fd.ptSource.R_REF) v) (s1.pt r).volt)
    else s1.sourceFail k p
  | _ => s1.quantity k p (s.ballVolt p code)

/-- The integer of an I²C read under Table 6.8. -/
def i2cExtract (cfg : Nat) (data : List Byte) : Int :=
  let n := bits cfg 23 22 + 1
  let b := bytesAt data (bits cfg 31 24) n
  let v := if bitOf cfg 21 then leNat b.reverse else leNat b
  if bitOf cfg 20 then sgn (8 * n) v / (2 ^ bits cfg 19 16 : Nat) else ((v >>> bits cfg 19 16 : Nat) : Int)

/-- The points that take their value from an entry. -/
def State.entryPoints (s : State) : SmpVal → List Nat
  | .ai p _ _ => if s.srcType p == 1 || s.srcType p == 2 then [p] else []
  | .ci p _ => if s.srcType p == 3 then [p] else []
  | .i2c l _ _ => (List.range 160).filter fun p => s.srcType p == 4 && s.srcIndex p == l
  | .di i _ _ _ => (List.range 160).filter fun p => s.srcType p == 5 && s.srcIndex p == i
  | .de i _ _ _ => (List.range 160).filter fun p => s.srcType p == 6 && s.srcIndex p == i

/-- One entry for one point (R169 steps 1–10). -/
def State.entryFor (s : State) (k : Nat) (poison : Bool) (e : SmpVal) (p : Nat) : State :=
  match e with
  | .ai _ n code =>
    if n != 0 then (s.modPt p fun y => { y with settles := sat 16 (y.settles + 1) }).testStale k p
    else if poison then s.judgePoison k p
    else s.analogIn k p code
  | .ci _ r =>
    if poison then s.judgePoison k p
    else s.quantity k p (fMul (fOfRat (r : Int) (2 ^ 17)) (s.cff (sysObj 0x050) Fd.frontEnd.CIREF_PF))
  | .i2c _ d err =>
    if poison then s.judgePoison k p
    else if err then s.sourceFail k p
    else s.quantity k p (fOfInt (i2cExtract (s.srcCfg p) d))
  | .di _ st rise both =>
    if poison then s.judgePoison k p
    else s.quantity k p (match bits (s.srcCfg p) 31 30 with
      | 1 => fOfNat rise | 2 => fOfNat both | _ => fOfNat (b2n st))
  | .de _ v err _ =>
    if poison then s.judgePoison k p
    else if err then s.sourceFail k p
    else s.quantity k p v

/-- The oldest entry of the highest non-empty ring of a queue of rings (R39). -/
def popRings {α : Type} : List (List (QE α)) → Option (QE α × List (List (QE α)))
  | [] => none
  | [] :: rs =>
    match popRings rs with
    | none => none
    | some (e, rs') => some (e, [] :: rs')
  | (e :: r) :: rs => some (e, r :: rs)

/-- Digital inputs whose change waits write it as credits of ring P3 return (R168). -/
def State.refillDi (s : State) : State :=
  (List.range 16).foldl (fun t i =>
    let d := t.se.di.getD i {}
    if d.wait && held (t.se.qSmp.getD 3 []) 1 < 8 then
      let q := lmod t.se.qSmp 3 (· ++ [{ val := .di i d.state d.rise d.both, prod := 1 }])
      State.noteHigh { t with se.qSmp := q, se.di := lmod t.se.di i fun x => { x with wait := false } } 0 (q.map List.length).sum
    else t) s

/-- The output side of the driver-result crossing writes into ring P0 while it holds a credit, except from tc to the
next t0 (R46); `n` bounds the moves. -/
def State.crossMove (s : State) : Nat → State
  | 0 => s
  | n + 1 =>
    match s.se.cross with
    | [] => s
    | e :: rest =>
      if (s.se.qSmp.getD 0 []).length < 16 && !s.pastTc then
        let q := lmod s.se.qSmp 0 (· ++ [e])
        State.crossMove (State.noteHigh { s with se.qSmp := q, se.cross := rest } 0 (q.map List.length).sum) n
      else s

def State.crossOut (s : State) : State := s.crossMove 32

/-- Sensor engine `k` reads `Q-SMP` and serves one entry. -/
def State.takeSmp (s : State) (k : Nat) : State :=
  match popRings s.se.qSmp with
  | none => s.underrunBy (prSE k) 0
  | some (e, q) =>
    let s1 := { s with se.qSmp := q }
    let settle := match e.val with | .ai _ n _ => n != 0 | _ => false
    let s2 := if e.bad then s1.poisonEvent (prSE k) 0 else s1
    let s3 := (s2.entryPoints e.val).foldl (fun t p => t.entryFor k (e.bad && !settle) e.val p) s2
    s3.refillDi.crossOut

/-- A point whose source is set to none, or changed, starts afresh as at a cold start (R176, R177). -/
def State.freshPoint (s : State) (p : Nat) : State := s.modPt p fun _ => {}

/-- Sensor engine `k` waits for a `Q-PNT` credit: an item that it has formed has no place yet (Table 2.2). -/
def State.seWaits (s : State) (k : Nat) : Bool := s.zs.pntWait.any fun w => w.2.prod == prSE k

/-- SAMPLE_PROCESS: sensor engine `k` turns one `Q-SMP` entry into a point (R169); none between tc and t0 (R29), and none while it waits
for a `Q-PNT` credit (R44). -/
def execSampleProcess (k : Fin 2) (s : State) : Out :=
  if s.mn.phase == .run && !(k.val == 1 && s.mn.mode == .platform) && s.mn.mode != .siding && !s.pastTc && !s.seWaits k.val then
    .next (s.takeSmp k.val)
  else .next s

/-- The staleness test runs on every point but digital inputs (R174). -/
def State.staleTested (s : State) : Bool := s.mn.phase == .run && s.mn.mode != .siding

/-- POINT_STALE: the staleness test of a point; one whose last accepted value is older than its timeout goes `STALE` (R174). The engine
makes no test while it waits for a `Q-PNT` credit (R44). -/
def execPointStale (p : Fin 160) (s : State) : Out := if s.staleTested && !s.seWaits 0 then .next (s.testStale 0 p.val) else .next s

end Sys2Proof.Machine
end

