-- ==== Sys2Proof/Machine/Sequencer.lean ====
section
/-!
DEFINITION. Sys2Proof/Machine/Sequencer.lean: the sensor sequencer (R153–R163), the capacitance converter (R164), the I²C
buses (R165–R167), the digital inputs (R168) and the fast current-sense pairs (R180–R183).
-/
namespace Sys2Proof.Machine
open Sys2Proof

/-! ### The cut-off (R26, R160) -/

/-- The sequencer runs: zone periods run, outside the Changeover, `AFE` or not, in a mode that has it (Table 3.5). -/
def State.seqRuns (s : State) : Bool :=
  s.mn.phase == .run && s.per.running && !s.per.inCo &&
    (s.mn.mode == .platform || s.mn.mode == .mainline || s.mn.mode == .depot)

/-- A step of `us` µs that starts at `t` passes the cut-off test. -/
def State.fitsAt (s : State) (t us : Nat) : Bool := t + us + 10 ≤ s.tc
/-- A step of `us` µs that starts now passes the cut-off test. -/
def State.fits (s : State) (us : Nat) : Bool := s.fitsAt s.now us

/-- `SCAN_MODE` of a modulator. -/
def State.scanMode (s : State) (n : Nat) : Nat := (s.cf (sysObj 0x050) Fd.frontEnd.SCAN_MODE >>> (2 * n)) % 4
/-- `TRIG_SRC` of a modulator. -/
def State.trigSrc (s : State) (n : Nat) : Nat := (s.cf (sysObj 0x050) Fd.frontEnd.TRIG_SRC >>> (8 * n)) % 256

/-- The sublist of modulator `n`, ascending (R153, R159). -/
def State.sublist (s : State) (n : Nat) : List Nat :=
  (List.range 160).filter fun p => (s.srcType p == 1 || s.srcType p == 2) && s.srcIndex p / 12 == n
/-- The sublist of the capacitance converter. -/
def State.capList (s : State) : List Nat := (List.range 160).filter fun p => s.srcType p == 3
/-- The leaders of an I²C bus. -/
def State.i2cList (s : State) (b : Nat) : List Nat :=
  (List.range 160).filter fun p => s.srcType p == 4 && s.srcIndex p == p && s.cf (ptObj p 0x060) Fd.ptI2c.BUS == b

/-- The point is due in this period (R159, R78). -/
def State.isDue (s : State) (p : Nat) : Bool :=
  s.per.count % (s.cf (ptObj p 0x020) Fd.ptSource.DIVIDER * s.platDiv) == 0

/-- Decimation ratio of an `ODR` code (Table 6.1). -/
def odrN (c : Nat) : Nat := [76800, 46080, 15360, 12800, 7680, 1920, 768, 768].getD c 768

/-- Marked outputs m of a configuration (R157). -/
def marks (cfg : Nat) : Nat := (if bitOf cfg 28 then 3 else 2) + b2n (bitOf cfg 27)

/-- Model time of `k` output periods, in µs, rounded up. -/
def outsUs (cfg k : Nat) : Nat := cdiv (k * odrN (bits cfg 31 29) * 1000) 768

/-- The step time of R160 in µs. -/
def stepUs (cfg : Nat) : Nat := 40 + outsUs cfg (marks cfg + 1)

/-- Ring of a channel: P1 at 400 S/s and faster, P2 otherwise (Table 2.2). -/
def odrRing (cfg : Nat) : Nat := if bits cfg 31 29 ≥ 5 then 1 else 2

/-- Credits in use in ring P1 or P2: entries and reservations. -/
def State.seqUsed (s : State) (ring : Nat) : Nat :=
  (s.se.qSmp.getD ring []).length + ((s.se.mods.filter fun m => m.ring == ring).map (·.resv)).sum

/-- Changes a modulator. -/
def State.modMod (s : State) (n : Nat) (f : Modu → Modu) : State := { s with se.mods := lmod s.se.mods n f }
def State.md (s : State) (n : Nat) : Modu := s.se.mods.getD n {}

/-- The sublist turned so that it begins at the first point not below `next`. -/
def turn (l : List Nat) (next : Nat) : List Nat := l.filter (· ≥ next) ++ l.filter (· < next)

/-- The next due step of a lane: the points passed over and the point found. -/
def State.nextDue (s : State) (useDue : Bool) (l : List Nat) (ln : Lane) : Option (Nat × Nat) :=
  let c := (turn l ln.next).take ln.left
  match c.findIdx? fun p => !useDue || s.isDue p with
  | none => none
  | some i => some (c.getD i 0, i)

/-- The lane after the point at distance `i` was taken. -/
def laneTake (ln : Lane) (p i : Nat) : Lane := { ln with next := p + 1, left := ln.left - (i + 1), delayed := false }

/-- A pass stopped by the cut-off (R159). -/
def State.skip (s : State) : State := { s with se.skips := sat 16 (s.se.skips + 1) }

/-- The self-calibration interval of the band in s (Table 6.2). -/
def calInterval (band : Nat) : Nat := [60, 300, 120, 30, 10].getD band 300

/-- A calibration is due (R158). -/
def State.calDue (s : State) (n : Nat) : Bool :=
  match (s.md n).calAt with
  | none => true
  | some t => decide (s.now - t ≥ calInterval s.band * 1000000)

/-- The source of a point as a step keeps it from its start (R177). -/
def State.srcOf (s : State) (p : Nat) : Nat × Nat × Nat := (s.srcType p, s.srcIndex p, s.srcCfg p)

/-- `SRC_CFG` of the running step. -/
def Modu.cfg (m : Modu) : Nat := m.src.2.2

/-- The step ends. -/
def Modu.idle (m : Modu) : Modu := { m with step := none, resv := 0, cont := false }

/-- Starts a scanned step of point `p`: the credits of all its outputs are taken (R160). -/
def State.startStep (s : State) (n p : Nat) : State :=
  let cfg := s.srcCfg p
  s.modMod n fun m => { m with step := some p, src := s.srcOf p, cont := false, startAt := s.now, outs := 0, resv := marks cfg + 1,
                               ring := odrRing cfg }

/-- The excitation currents that the points of a modulator name, in ascending point number (R155). -/
def State.excNamed (t : State) (m : Nat) : List Nat :=
  ((t.sublist m).map fun p => bits (t.srcCfg p) 22 20).filter (· != 0)

/-- The code of the current that `EXCn` delivers: with `EXC_MODE` 1 always that of the lowest-numbered point naming one, else that of
the step that runs (R155). -/
def State.excOut (s : State) (n : Nat) : Nat :=
  if bitOf (s.cf (sysObj 0x050) Fd.frontEnd.EXC_MODE) n then (s.excNamed n).headD 0
  else if (s.md n).step.isSome then bits (s.md n).cfg 22 20 else 0

/-- The input that an excitation current of a point leaves: the named one, or the even one of a pair, whose odd one carries none. -/
def State.excPin (s : State) (p : Nat) : Nat := if s.srcType p == 2 then s.srcIndex p / 2 * 2 else s.srcIndex p

/-- The input that the current of `EXCn` leaves; none while the source is off. A running step that names the current takes it; with
`EXC_MODE` 1 it otherwise stays with the lowest-numbered point naming one (R155; log 68). -/
def State.excInput (s : State) (n : Nat) : Option Nat :=
  if s.excOut n == 0 then none
  else
    let m := s.md n
    match m.step with
    | some p =>
      if bits m.cfg 22 20 != 0 then some (if m.src.1 == 2 then m.src.2.1 / 2 * 2 else m.src.2.1)
      else ((s.sublist n).find? fun q => bits (s.srcCfg q) 22 20 != 0 && q != p).map s.excPin
    | none => ((s.sublist n).find? fun q => bits (s.srcCfg q) 22 20 != 0).map s.excPin

/-- The current that leaves analog input `i`, by its code of `EXC`: 0 where none does (R155). -/
def State.excAt (s : State) (i : Nat) : Nat := if s.excInput (i / 12) == some i then s.excOut (i / 12) else 0

/-- The step that a scanned modulator would run next. A pass stopped by the cut-off resumes in the next period; a triggered one ends there,
so that a later trigger starts at its first point (R159, R163, log 67). In mode 1 the first step of a new pass that fails the cut-off
counts as a stopped pass (log 68). -/
def State.tryStep (s : State) (n : Nat) (useDue : Bool) : State :=
  let m := s.md n
  match s.nextDue useDue (s.sublist n) m.lane with
  | none => s.modMod n fun x => { x with lane := { x.lane with left := 0 }, pass := false }
  | some (p, i) =>
    let cfg := s.srcCfg p
    if !s.fits (stepUs cfg) then
      (s.skip).modMod n fun x =>
        if s.scanMode n == 3 then { x with pass := false, lane := { x.lane with left := 0, stopped := true } }
        else { x with lane := { x.lane with stopped := true } }
    else if s.seqUsed (odrRing cfg) + marks cfg + 1 > 16 then
      if m.lane.delayed then s else (s.noteStall 0).modMod n fun x => { x with lane := { x.lane with delayed := true } }
    else (s.startStep n p).modMod n fun x => { x with lane := laneTake x.lane p i }

/-- A pass of a triggered modulator begins at its first point (R163). -/
def State.startPass (s : State) (n : Nat) : State :=
  (s.modMod n fun x => { x with pass := true, lane := { x.lane with next := 0, left := (s.sublist n).length, stopped := false } }).tryStep n false

/-- A calibration comes before the next step of the modulator (R158, R176). -/
def State.calFirst (s : State) (n : Nat) : Bool := s.calDue n && !(s.md n).calWait

/-- A pass can begin now: nothing runs on the modulator, no calibration comes first, and the first step passes the cut-off test
(R160, R163). -/
def State.canPass (s : State) (n : Nat) : Bool :=
  let m := s.md n
  s.seqRuns && !s.pw.afeLost && m.step.isNone && !m.pass && !m.cal && !s.calFirst n &&
    (match s.sublist n with | [] => true | p :: _ => s.fits (stepUs (s.srcCfg p)))

/-- A pending trigger starts its pass as soon as one can begin (R163). -/
def State.tryPending (s : State) (n : Nat) : State :=
  if s.scanMode n == 3 && (s.md n).trig && s.canPass n then (s.modMod n fun x => { x with trig := false }).startPass n else s

/-! ### Continuous mode (R162) -/

/-- The end of the running conversion. -/
def Modu.contEnd (m : Modu) : Nat := m.startAt + 40 + outsUs m.cfg (m.outs + 1)

/-- The instant lies in the window of some period after tc − 10 µs and before the next t0: an output that ends exactly at tc − 10 µs is
delivered (R162; log 68). -/
def State.inWindow (s : State) (t : Nat) : Bool := (t - s.per.t0) % s.per.lenUs + 2010 > s.per.lenUs

/-- A conversion starts: it takes its credit, unless its output will be discarded in the window; one without a credit is counted. -/
def State.contBegin (s : State) (n : Nat) : State :=
  let m := s.md n
  if s.inWindow m.contEnd then s
  else if s.seqUsed m.ring ≥ 16 then s.noteStall 0
  else s.modMod n fun x => { x with resv := 1 }

/-- The modulator begins to convert the single point `p` without pause; marks follow (R157). -/
def State.contStart (s : State) (n p : Nat) : State :=
  let cfg := s.srcCfg p
  (s.modMod n fun x => { x with step := some p, src := s.srcOf p, cont := true, startAt := s.now, outs := 0, resv := 0,
                                ring := odrRing cfg, settle := marks cfg }).contBegin n

/-- The continuous modulator is idle: it starts on its single point, in Platform only in every `PLAT_DIV`-th period (R78). -/
def State.contResume (s : State) (n : Nat) : State :=
  match s.scanMode n, s.sublist n with
  | 2, [p] => if s.seqRuns && s.per.count % s.platDiv == 0 then s.contStart n p else s
  | _, _ => s

/-- After a conversion: a due calibration comes between two conversions, a changed point starts anew, and otherwise the next conversion
starts (R157–R159, R162). -/
def State.contNext (s : State) (n p : Nat) : State :=
  let m := s.md n
  if s.scanMode n != 2 || s.sublist n != [p] || s.srcOf p != m.src then (s.modMod n Modu.idle).contResume n
  else if !s.calFirst n then s.contBegin n
  else if s.seqRuns && s.fits 8100 then s.modMod n fun x => { x.idle with cal := true, startAt := s.now }
  else (s.modMod n fun x => { x with calWait := true }).contBegin n

/-- An analog entry enters its ring. -/
def State.putSmp (s : State) (ring prod : Nat) (v : SmpVal) : State :=
  let q := lmod s.se.qSmp ring (· ++ [{ val := v, prod := prod }])
  State.noteHigh { s with se.qSmp := q } 0 (q.map List.length).sum

/-- The code saturates to 24 bits (R154). -/
def code24 (c : Int) : Int := satI 24 c

/-- An output in continuous mode: delivered if its conversion took a credit, with the marks still due (R157, R162). -/
def State.contOutput (s : State) (n p : Nat) (code : Int) : State :=
  let m := s.md n
  let s0 := s.advTo m.contEnd
  let mk := if m.settle == 0 then 0 else marks m.cfg + 1 - m.settle
  let s1 := s0.modMod n fun x => { x with settle := x.settle - 1, outs := x.outs + 1, resv := 0 }
  let out := m.resv == 1 && s0.seqRuns && s0.fits 0 && s0.srcOf p == m.src
  (if out then s1.putSmp m.ring 0 (.ai p mk (code24 code)) else s1).contNext n p

/-! ### Scanned steps and calibrations -/

/-- SEQ_STEP_START: a modulator starts its next step, a due calibration first (R158–R160). A triggered pass that the cut-off ends gives
way to the pending trigger at once, when its first step fits (R163). -/
def execSeqStepStart (n : Fin 4) (s : State) : Out :=
  let m := s.md n.val
  if !s.seqRuns || s.pw.afeLost || m.step.isSome || m.cal then .next s
  else if s.calFirst n.val then
    if s.fits 8100 then .next (s.modMod n.val fun x => { x with cal := true, startAt := s.now })
    else .next ((s.modMod n.val fun x => { x with calWait := true }).tryPending n.val)
  else if m.lane.stopped && s.scanMode n.val != 3 then .next s
  else match s.scanMode n.val with
    | 0 => if m.lane.left == 0 then .next s else .next (s.tryStep n.val true)
    | 1 =>
      if s.per.count % s.platDiv != 0 then .next s
      else
        let s1 := if m.lane.left == 0 then
            s.modMod n.val fun x => { x with lane := { x.lane with next := 0, left := (s.sublist n.val).length } }
          else s
        .next (s1.tryStep n.val false)
    | 2 => .next (s.contResume n.val)
    | _ => if m.pass && m.lane.left != 0 then .next ((s.tryStep n.val false).tryPending n.val) else .next (s.tryPending n.val)

/-- The end of a scanned step: a triggered pass ends with its last step, and a pending trigger starts the next (R163). -/
def State.endStep (s : State) (n : Nat) : State :=
  let s1 := s.modMod n Modu.idle
  let m := s1.md n
  if s.scanMode n == 3 && m.pass && m.lane.left == 0 then (s1.modMod n fun x => { x with pass := false }).tryPending n
  else s1.tryPending n

/-- SD_OUTPUT: a modulator delivers a filtered output into `Q-SMP`, `SETTLE`-marked or not (R157). A point whose source has changed
since the step's start takes no entry of it (R177). -/
def execSdOutput (n : Fin 4) (code : Int) (s : State) : Out :=
  let m := s.md n.val
  if s.pw.afeLost || m.cal then .next s
  else match m.step with
  | none => .next s
  | some p =>
    if m.cont then .next (s.contOutput n.val p code)
    else
      let k := m.outs + 1
      let s0 := s.advTo (m.startAt + 40 + outsUs m.cfg k)
      let mk := if k ≤ marks m.cfg then k else 0
      let s1 := s0.modMod n.val fun x => { x with outs := k, resv := x.resv - 1 }
      let s2 := if s.srcOf p == m.src then s1.putSmp m.ring 0 (.ai p mk (code24 code)) else s1
      if k ≥ marks m.cfg + 1 then .next (s2.endStep n.val) else .next s2

/-- SD_CALIBRATION: a self-calibration ends, kept or discarded by its trim limits; a continuous modulator goes on with new marks, a
pending trigger starts its pass (R157, R158, R163). -/
def execSdCalibration (n : Fin 4) (offsetOk gainOk : Bool) (s : State) : Out :=
  let m := s.md n.val
  if !m.cal || s.pw.afeLost then .next s
  else
    let s0 := s.advTo (m.startAt + 8100)
    let s1 := s0.modMod n.val fun x => { x with cal := false, calAt := some s0.now }
    let s2 := if offsetOk then s1 else s1.raise prPeri evSdCalFail n.val s0.band
    let s3 := if gainOk then s2 else s2.raise prPeri evSdCalFail n.val (256 + s0.band)
    .next ((s3.contResume n.val).tryPending n.val)

/-- A lost trigger is counted (R163). -/
def State.loseTrig (s : State) (n : Nat) : State :=
  { s.modMod n fun x => { x with trigLost := x.trigLost + 1 } with se.trigLost := sat 16 (s.se.trigLost + 1) }

/-- A trigger reaches modulator `n`: it starts a pass at once, is held pending, or is lost (R163). -/
def State.trigger (s : State) (n : Nat) : State :=
  if s.mn.phase != .run || s.scanMode n != 3 then s
  else if (s.md n).trig then s.loseTrig n
  else (s.modMod n fun x => { x with trig := true }).tryPending n

/-- SEQ_TRIGGER. -/
def execSeqTrigger (n : Fin 4) (s : State) : Out := .next (s.trigger n.val)

/-- A source code reaches every modulator that names it (R163). -/
def State.triggerFrom (s : State) (src : Nat) : State :=
  (List.range 4).foldl (fun t n => if t.trigSrc n == src then t.trigger n else t) s

/-- The start of the step of `us` µs of a lane that ends now or later: when the step before it ended, at t0, or now when credits were
awaited (R159, R160). -/
def State.laneStart (s : State) (ln : Lane) (us : Nat) : Nat :=
  if ln.delayed then s.now else max (max ln.busy s.per.t0) (s.now - us)

/-- CAP_CONVERSION: the capacitance converter measures its next due input; the ratio enters `Q-SMP` when the step ends (R164, R160). -/
def execCapConversion (ratio : Fin 1048576) (s : State) : Out :=
  let ln := s.se.cap
  if !s.seqRuns || s.pw.afeLost || ln.stopped || ln.left == 0 then .next s
  else
    let at_ := s.laneStart ln 4100
    match s.nextDue true s.capList ln with
    | none => .next { s with se.cap := { ln with left := 0 } }
    | some (p, i) =>
      if !s.fitsAt at_ 4100 then .next { s.skip with se.cap := { ln with stopped := true } }
      else if s.seqUsed 2 ≥ 16 then
        if ln.delayed then .next s else .next { s.noteStall 0 with se.cap := { ln with delayed := true } }
      else
        let s1 : State := { s with se.cap := { laneTake ln p i with busy := at_ + 4100 } }
        .next ((s1.advTo (at_ + 4100)).putSmp 2 0 (.ci p ratio.val))

/-! ### I²C (R165–R167) -/

/-- `f` clock periods of bus `b`, in µs, rounded up. -/
def State.i2cClocks (s : State) (b f : Nat) : Nat :=
  match (s.cf (sysObj 0x050) Fd.frontEnd.I2C_SPEED >>> (2 * b)) % 4 with
  | 0 => f * 10
  | 1 => cdiv (f * 5) 2
  | _ => f

/-- Bytes of a poll's write phase, the address included: 0 with `W_LEN` 0. -/
def State.pollW (s : State) (p : Nat) : Nat :=
  let wl := s.cf (ptObj p 0x060) Fd.ptI2c.W_LEN
  if wl == 0 then 0 else wl + 1

/-- A poll on the wire without clock stretching, in µs; with `W_LEN` 0 there is no wait (R165). -/
def State.pollRun (s : State) (p b : Nat) : Nat :=
  let o := ptObj p 0x060
  (if s.pollW p == 0 then 0 else s.cf o Fd.ptI2c.WAIT_MS * 1000) + s.i2cClocks b (9 * (s.pollW p + s.cf o Fd.ptI2c.R_LEN + 2) + 4)

/-- The instant of abort after a poll's start: the budget less the bus recovery (R166). -/
def State.pollAbort (s : State) (p b : Nat) : Nat :=
  let o := ptObj p 0x060
  s.cf o Fd.ptI2c.WAIT_MS * 1000 + s.i2cClocks b (9 * (s.pollW p + s.cf o Fd.ptI2c.R_LEN + 2) + 4) + s.cf o Fd.ptI2c.STRETCH_US

/-- The budget of a leader's poll in µs (R166). -/
def State.pollUs (s : State) (p b : Nat) : Nat := s.pollAbort p b + s.i2cClocks b 10

/-- A leader's transaction on the bus (R165): command bytes of `WBYTES`, [7:0] first, then the read. -/
def State.pollSyms (s : State) (p : Nat) : List I2cSym :=
  let o := ptObj p 0x060
  let addr := s.cf o Fd.ptI2c.ADDR
  let cmd := ((wordBytes (wd (s.cf o Fd.ptI2c.WBYTES))).take (s.cf o Fd.ptI2c.W_LEN)).map I2cSym.send
  let write := if s.pollW p == 0 then []
    else [.start, .send (BitVec.ofNat 8 (2 * addr))] ++ cmd ++ [.stop, .wait (s.cf o Fd.ptI2c.WAIT_MS)]
  write ++ [.start, .send (BitVec.ofNat 8 (2 * addr + 1)), .read (s.cf o Fd.ptI2c.R_LEN), .stop]

/-- CRC groups of a read: each group of `n` bytes is followed by its CRC-8; the data without the CRC bytes, or none. -/
def i2cStrip (pr : CrcParams) (n : Nat) : Nat → List Byte → Option (List Byte)
  | 0, _ => some []
  | _, [] => some []
  | k + 1, l =>
    let d := l.take n
    match l.drop n with
    | [] => none
    | c :: rest =>
      if crcOf pr d == c.toNat then (i2cStrip pr n k rest).map (d ++ ·) else none

/-- The data bytes of a completed read, CRC checked (R167). -/
def State.i2cData (s : State) (p : Nat) (l : List Byte) : Option (List Byte) :=
  let o := ptObj p 0x060
  let n := s.cf o Fd.ptI2c.CRC_GROUP
  let l := l.take (s.cf o Fd.ptI2c.R_LEN)
  if l.length < s.cf o Fd.ptI2c.R_LEN then none
  else if n == 0 then some l
  else i2cStrip ⟨8, s.cf o Fd.ptI2c.CRC_POLY, s.cf o Fd.ptI2c.CRC_INIT, false, false, 0⟩ n 8 l

/-- The next due poll of a bus, which runs for `dur` µs of its leader: the lane moves on, and time to the poll's end; none when it cannot
start. -/
def State.startPoll (s : State) (b : Nat) (dur : Nat → Nat) : State × Option Nat :=
  let ln := s.se.i2c.getD b {}
  let upd (t : State) (x : Lane) : State := { t with se.i2c := lset t.se.i2c b x }
  if !s.seqRuns || ln.stopped || ln.left == 0 then (s, none)
  else match s.nextDue true (s.i2cList b) ln with
  | none => (upd s { ln with left := 0 }, none)
  | some (p, i) =>
    let at_ := s.laneStart ln (dur p)
    if !s.fitsAt at_ (s.pollUs p b) then (upd s.skip { ln with stopped := true }, none)
    else if held (s.se.qSmp.getD 3 []) 0 ≥ 8 then
      if ln.delayed then (s, none) else (upd (s.noteStall 0) { ln with delayed := true }, none)
    else
      let s1 := upd s { laneTake ln p i with busy := at_ + dur p }
      ({ s1.advTo (at_ + dur p) with se.i2cTx := lset s1.se.i2cTx b (s.pollSyms p) }, some p)

/-- A failed poll: counted, and an error entry for every point that takes data from it. -/
def State.pollFail (s : State) (b p : Nat) : State :=
  State.putSmp { s with se.i2cErr := lmod s.se.i2cErr b fun x => sat 8 (x + 1) } 3 0 (.i2c p [] true)

/-- I2C_POLL: one transaction of a bus, stretched by its target within the allowance, ends within its budget (R165, R166). -/
def execI2cPoll (b : Fin 4) (r : I2cRun) (s : State) : Out :=
  match s.startPoll b.val fun p => s.pollRun p b.val + min r.stretch.val (s.cf (ptObj p 0x060) Fd.ptI2c.STRETCH_US) with
  | (s1, none) => .next s1
  | (s1, some p) =>
    match r.res with
    | .data l =>
      (match s1.i2cData p l with
       | some d => .next (s1.putSmp 3 0 (.i2c p d false))
       | none => .next (s1.pollFail b.val p))
    | _ => .next (s1.pollFail b.val p)

/-- What the controller sends at an abort: clocks until SDA is released, at most 9, then STOP (R166). -/
def sdaTail : SdaHold → List I2cSym
  | .free => [.stop]
  | .released n => [.clocks (n.val + 1), .stop]
  | .stuck => [.clocks 9, .stop]

/-- I2C_POLL_ABORT: a poll still running 10 clocks before its budget ends is aborted with a STOP, after up to 9 clocks while SDA is held
low (R166, R167). -/
def execI2cPollAbort (b : Fin 4) (sda : SdaHold) (s : State) : Out :=
  match s.startPoll b.val fun p => s.pollAbort p b.val with
  | (s1, none) => .next s1
  | (s1, some p) =>
    let s2 := State.pollFail { s1 with
      se.i2c := lmod s1.se.i2c b.val fun x => { x with busy := x.busy + s1.i2cClocks b.val 10 },
      se.i2cTx := lmod s1.se.i2cTx b.val fun l => l.dropLast ++ sdaTail sda } b.val p
    .next (if sda != .free then s2.raise prPeri evI2cRecovery b.val (s2.cf (ptObj p 0x060) Fd.ptI2c.ADDR) else s2)

/-! ### Digital inputs (R168) -/

/-- `SRC_CFG` of the lowest-numbered point that names the input; the defaults of Table 6.8 without one (log 21). -/
def State.diCfg (s : State) (i : Nat) : Nat :=
  match (List.range 160).find? fun p => s.srcType p == 5 && s.srcIndex p == i with
  | none => srcCfgDflt 5
  | some p => s.srcCfg p

/-- DI_CHANGE (the filtered state is low before the first one, so that a first high level is an edge, and the first filtered level makes an
entry even without a change: log 21): an input is sampled at a level `n` times, once a ms; after `GLITCH_MS` consecutive samples at a new level the filtered
state changes, counts, enters `Q-SMP` and can trigger a modulator (R168, R163). -/
def execDiChange (i : Fin 16) (r : DiRun) (s : State) : Out :=
  let level := r.level
  let n := r.samples.val
  let d := s.se.di.getD i.val {}
  if s.mn.phase != .run || n == 0 then .next s
  else
    let s0 := s.advTo (d.at_ + 1000 * n)
    let d0 := { d with raw := level, run := min 255 ((if level == d.raw then d.run else 0) + n), at_ := s0.now }
    let st := xor level (bitOf (s.diCfg i.val) 29)
    let s1 : State := { s0 with se.di := lset s0.se.di i.val d0 }
    if d0.run < bits (s.diCfg i.val) 28 21 || (d.seen && st == d.state) then .next s1
    else
      let edge := st != d.state
      let d1 := { d0 with state := st, seen := true, wait := true,
                          rise := if edge && st then (d.rise + 1) % 16777216 else d.rise,
                          both := if edge then (d.both + 1) % 16777216 else d.both }
      let s2 := State.refillDi { s1 with se.di := lset s1.se.di i.val d1 }
      let s3 := if (s2.se.di.getD i.val {}).wait then s2.noteStall 0 else s2
      .next (if edge then s3.triggerFrom (0x10 + i.val) else s3)

/-! ### Fast current sense (R180–R183) -/

/-- `ACQ_CLK` and `AVG` of a pair. -/
def State.acqClk (s : State) (n : Nat) : Nat := s.cf (sysObj 0x060) (Fd.sar.ACQ_CLK0.at_ n)
def State.sarAvg (s : State) (n : Nat) : Nat := s.cf (sysObj 0x060) (Fd.sar.AVG0.at_ n)
def State.sarInter (s : State) (n : Nat) : Bool := s.cfb (sysObj 0x060) (Fd.sar.INTERLEAVE0.at_ n)

/-- Length of a burst in eighths of a `DRV` clock (12.5 ns) from its trigger to its result: `DELAY` + 2 clocks, t_acq + 100 ns, and
`AVG` − 1 sample spacings of t_cyc, or of t_cyc / 2 with `INTERLEAVE` (R181). -/
def burstClocks8 (delay acq avg : Nat) (inter : Bool) : Nat :=
  let cyc8 := 8 * max 16 (acq + 8)
  8 * (delay + 2 + acq + 8) + (2 ^ min avg 6 - 1) * (if inter then cyc8 / 2 else cyc8)

/-- SAR_TRIGGER: a burst starts after its delay, under the pair's configuration of this moment, or the trigger is lost while another
burst or its delay runs (R181, R182, R184). -/
def execSarTrigger (n : Fin 6) (pt : Fin 6) (r : SarStart) (s : State) : Out :=
  let x := s.se.sar.getD n.val {}
  if s.pw.drvLost || !s.mn.deRun then .next s
  else match x.busy with
  | some _ => .next { s with se.sar := lset s.se.sar n.val { x with lost := sat 16 (x.lost + 1), lostPer := x.lostPer + 1 } }
  | none =>
    let c8 := burstClocks8 r.delay.val (s.acqClk n.val) (s.sarAvg n.val) (s.sarInter n.val)
    let b : SarBurst := { point := pt.val, use := r.use, avg := s.sarAvg n.val, acq := s.acqClk n.val, endAt := s.now + c8 / 640 }
    .next { s with se.sar := lset s.se.sar n.val { x with busy := some b } }

/-- The mean of a burst with its fraction bits: 12 + log2(samples) bits, at most 16 (R181); bits below those are cut off
(log 67). -/
def sarData (avg sum : Nat) : Nat := min (sum >>> (avg - 4)) (2 ^ (12 + min avg 4) - 1)

/-- The current of a pair's code in mA (R180). -/
def sarMa (pair avg data : Nat) : Nat := data * (if pair < 4 then 5000 else 8000) / (4096 * 2 ^ min avg 4)

/-- The end of a burst: its mean into the data register. The first burst of a pair follows none and gets no `MUXSETTLE` (R182, R183;
log 68). -/
def State.sarStore (s : State) (n sum : Nat) : State :=
  let x := s.se.sar.getD n {}
  match x.busy with
  | none => s
  | some b =>
    let mux := x.last != none && x.last != some b.point && b.acq < 8
    let y := { x with busy := none, last := some b.point, data := sarData b.avg sum, avg := b.avg, point := b.point, mux := mux,
                      full := true, ovr := x.ovr || x.full, ovrs := if x.full then sat 16 (x.ovrs + 1) else x.ovrs,
                      overPer := x.overPer + b2n x.full }
    { s with se.sar := lset s.se.sar n y }

/-- `DE` reads value and flags in one access, which clears `OVR` (R183). -/
def State.sarRead (s : State) (n : Nat) : State :=
  { s with se.sar := lmod s.se.sar n fun x => { x with full := false, ovr := false } }

/-! ### Period boundaries -/

/-- The lanes at t0: scanned sublists resume, waiting calibrations come first, pending triggers start (R159, R163). -/
def State.seqPeriodStart (s : State) : State :=
  let s1 := (List.range 4).foldl (fun t n =>
    let len := (t.sublist n).length
    let t1 := t.modMod n fun x =>
      let left :=
        if t.scanMode n == 0 then len
        else if t.scanMode n == 1 then
          (if t.per.count % t.platDiv == 0 then (if x.lane.left == 0 then len else x.lane.left) else 0)
        else x.lane.left
      { x with calWait := false, lane := { x.lane with stopped := false, left := left } }
    (if t1.scanMode n == 2 && t1.platDiv > 1 then t1.modMod n Modu.idle else t1).tryPending n) s
  let bus (b : Nat) : Lane := { s1.se.i2c.getD b {} with stopped := false, left := (s1.i2cList b).length }
  { s1 with se.cap := { s1.se.cap with stopped := false, left := s1.capList.length }, se.i2c := (List.range 4).map bus }

/-- The events of a period's lost triggers and overwrites (R163, R183). -/
def State.seqPeriodEnd (s : State) : State :=
  let s1 := (List.range 4).foldl (fun t n =>
    let k := (t.md n).trigLost
    if k == 0 then t else (t.modMod n fun x => { x with trigLost := 0 }).raise prPeri evSeqTrigLost n k) s
  (List.range 6).foldl (fun t n =>
    let x := t.se.sar.getD n {}
    let t1 := if x.lostPer == 0 then t else t.raise prDE evSarTrigLost n x.lostPer
    let t2 := if x.overPer == 0 then t1 else t1.raise prDE evSarOvr n x.overPer
    { t2 with se.sar := lmod t2.se.sar n fun y => { y with lostPer := 0, overPer := 0 } }) s1

end Sys2Proof.Machine
end

