-- ==== Sys2Proof/Machine/Stages.lean ====
section
/-!
DEFINITION. Sys2Proof/Machine/Stages.lean: what the stages share: gangs (R242), command ranges (Tables 5.12, 7.17),
limits (R259), the 40 A budget (R258, R271), the driver results on their way to `Q-SMP` (R46, R265), `Q-CMD` and its
producers (R44).
-/
namespace Sys2Proof.Machine
open Sys2Proof

def vlvObj (ch g : Nat) : Nat := objId 0x04 ch g
def grpObj (g grp : Nat) : Nat := objId 0x04 (0x100 + g) grp
def fanObj (n g : Nat) : Nat := objId 0x05 n g
def aoObj (n g : Nat) : Nat := objId 0x06 n g

/-- A current in mA as A. -/
def mAmp (n : Nat) : F32 := fOfRat (n : Int) 1000
/-- A current in A as mA. -/
def toMa (x : F32) : Nat := fNatScaled 1000 x
/-- A percentage as a fraction. -/
def pctF (n : Nat) : F32 := fOfRat (n : Int) 100
def f100 : F32 := fOfNat 100

/-! ### Access -/

def State.vlv (s : State) (ch : Nat) : Valve := s.act.valves.getD ch {}
def State.modVlv (s : State) (ch : Nat) (f : Valve → Valve) : State := { s with act.valves := lmod s.act.valves ch f }
def State.vgrp (s : State) (g : Nat) : VGroup := s.act.groups.getD g {}
def State.modGrp (s : State) (g : Nat) (f : VGroup → VGroup) : State := { s with act.groups := lmod s.act.groups g f }
def State.fan (s : State) (n : Nat) : Fan := s.act.fans.getD n {}
def State.modFan (s : State) (n : Nat) (f : Fan → Fan) : State := { s with act.fans := lmod s.act.fans n f }
def State.ao (s : State) (n : Nat) : Ao := s.act.aos.getD n {}
def State.modAo (s : State) (n : Nat) (f : Ao → Ao) : State := { s with act.aos := lmod s.act.aos n f }

/-- `DE` runs (R415). -/
def State.deOn (s : State) : Bool := s.mn.deRun && !s.pw.drvLost && s.pw.vsup && !s.pw.latch

/-- The power stages may be on: `VDRV` valid and at most 40 V, and no Buffer Stop (R62, R63, R427). -/
def State.powered (s : State) : Bool :=
  s.pw.vsup && s.pw.vdrv && !s.pw.vdrvOv && s.th.bufStop.isNone && !s.pw.latch

/-- The native profile is active. -/
def State.native (s : State) : Bool := !s.mn.profActive

/-! ### Gangs (R242) -/

/-- `GANG` of a channel as configured. -/
def State.gang (s : State) (ch : Nat) : Nat := s.cf (vlvObj ch 0x020) Fd.vConf.GANG

/-- The gang code under which `DE` drives a channel: the configured one, or the old one until its current has decayed (R263, R267). -/
def State.drvGang (s : State) (ch : Nat) : Nat := (s.vlv ch).drv.getD (s.gang ch)

/-- Channels of a gang by its code (Table 9.1). -/
def gangLen (g : Nat) : Nat := [0, 1, 2, 4].getD g 0

/-- The lowest channel of the gang that holds a channel, for the gang codes given; none when the channel is unused. -/
def baseBy (gang : Nat → Nat) (ch : Nat) : Option Nat :=
  ((List.range (ch % 6 + 1)).map fun k => ch - k).find? fun b => decide (b + gangLen (gang b) > ch)

/-- A gang's channel other than its lowest, for the gang codes given. -/
def memberBy (gang : Nat → Nat) (ch : Nat) : Bool :=
  match baseBy gang ch with | none => false | some b => b != ch

/-- The lowest channels of a group's gangs, for the gang codes given. -/
def basesBy (gang : Nat → Nat) (g : Nat) : List Nat :=
  ((List.range 6).map (6 * g + ·)).filter fun ch => gang ch != 0 && !memberBy gang ch

/-- As configured: members, the gangs of a group, quads (R242). -/
def State.cfgMember (s : State) (ch : Nat) : Bool := memberBy s.gang ch
def State.cfgGangs (s : State) (g : Nat) : List Nat := basesBy s.gang g
def State.cfgQuad (s : State) (b : Nat) : Bool := s.gang b == 3

/-- As driven: the gang of a channel, members, channels of a gang, the gangs of a group, quads. -/
def State.gangBase (s : State) (ch : Nat) : Option Nat := baseBy s.drvGang ch
def State.isMember (s : State) (ch : Nat) : Bool := memberBy s.drvGang ch
def State.gangChans (s : State) (b : Nat) : List Nat := (List.range (gangLen (s.drvGang b))).map (b + ·)
def State.groupGangs (s : State) (g : Nat) : List Nat := basesBy s.drvGang g
def State.isQuad (s : State) (b : Nat) : Bool := s.drvGang b == 3

/-- No other gang still decays in a channel of the gang at `b`. -/
def State.gangFree (s : State) (b : Nat) : Bool := (s.gangChans b).all fun c => s.gangBase c == some b

/-! ### Limits (R259, R275) -/

/-- The factor f of limit group `g`, in eighths and as a fraction. -/
def State.lim8 (s : State) (g : Nat) : Nat := (s.th.lims.getD g {}).f
def f8 (n : Nat) : F32 := fOfRat (n : Int) 8
def State.limF (s : State) (g : Nat) : F32 := f8 (s.lim8 g)

/-- f in %, as delivered on the bound points. -/
def State.limPct (s : State) (g : Nat) : F32 := fOfRat ((((s.th.lims.getD g {}).f * 25 : Nat)) : Int) 2

def State.iFs (s : State) (b : Nat) : F32 := mAmp (s.cf (vlvObj b 0x020) Fd.vConf.I_FS)
def State.iPeak (s : State) (b : Nat) : F32 := mAmp (s.cf (vlvObj b 0x020) Fd.vConf.I_PEAK)
def State.iHold (s : State) (b : Nat) : F32 := mAmp (s.cf (vlvObj b 0x020) Fd.vConf.I_HOLD)

/-- The set current of a gang for a command value under a factor of `e` eighths, and whether it is capped (R245, R259). -/
def State.setUnder (s : State) (b : Nat) (v : F32) (e : Nat) : F32 × Bool :=
  let f := f8 e
  if s.isQuad b then
    if fEq v fZero then (fZero, false) else (fMul (s.iHold b) f, fLt f fOne)
  else
    let want := fMul (fDiv v f100) (s.iFs b)
    let cap := fMul f (s.iFs b)
    if fLt cap want then (cap, true) else (want, false)

/-- The set current of a gang for a new command. -/
def State.setCurrent (s : State) (b : Nat) (v : F32) : F32 × Bool := s.setUnder b v (s.lim8 (b / 6))

/-! ### Command ranges (Tables 5.12, 7.17) -/

def State.fanMin (s : State) (n : Nat) : F32 := fOfNat (s.cf (fanObj n 0x020) Fd.fConf.N_MIN_RPM)
def State.fanMax (s : State) (n : Nat) : F32 := fOfNat (s.cf (fanObj n 0x020) Fd.fConf.N_MAX_RPM)
def State.fanDrive (s : State) (n : Nat) : Nat := s.cf (fanObj n 0x020) Fd.fConf.DRIVE
/-- The low end of an output's range in V. -/
def State.aoLow (s : State) (n : Nat) : F32 := if s.cfb (aoObj n 0x020) Fd.aConf.RANGE_2_10 then fOfNat 2 else fZero
def fTen : F32 := fOfNat 10

/-- The fan that owns an output as its `AO_LINK` (R293). -/
def State.aoLink (s : State) (n : Nat) : Option Nat :=
  (List.range 12).find? fun k => s.fanDrive k == 3 && s.cf (fanObj k 0x020) Fd.fConf.AO_LINK == n

/-- The command value of a stage for u in % (Table 7.17); a quad compares with its own thresholds and keeps its value
between them. -/
def State.fromPct (s : State) (st : Stage) (onPct : F32) (u : F32) : F32 :=
  match st with
  | .valve ch =>
    if s.isQuad ch.val then
      if fLe onPct u then f100
      else if fLe u (fSub onPct fTen) then fZero
      else (s.vlv ch.val).cmd
    else u
  | .fan n =>
    if fLe u fZero then fZero
    else fAdd (s.fanMin n.val) (fMul (fDiv u f100) (fSub (s.fanMax n.val) (s.fanMin n.val)))
  | .ao n => fAdd (s.aoLow n.val) (fMul (fDiv u f100) (fSub fTen (s.aoLow n.val)))

/-- Guard's value in % for a stage (R413): a quad turns on above 0. -/
def State.fromGuard (s : State) (st : Stage) (p : Nat) : F32 :=
  match st with
  | .valve ch => if s.isQuad ch.val then (if p > 0 then f100 else fZero) else fOfNat p
  | _ => s.fromPct st fZero (fOfNat p)

/-- The inverse of Table 7.17: a command value of a stage in %. -/
def State.toPct (s : State) (st : Stage) (v : F32) : F32 :=
  match st with
  | .valve _ => v
  | .fan n =>
    if fLe v fZero then fZero
    else fMul f100 (fDiv (fSub v (s.fanMin n.val)) (fSub (s.fanMax n.val) (s.fanMin n.val)))
  | .ao n => fMul f100 (fDiv (fSub v (s.aoLow n.val)) (fSub fTen (s.aoLow n.val)))

/-- The configured safe value of a stage (R263, R292, R294). -/
def State.safeValue (s : State) (st : Stage) : F32 :=
  match st with
  | .valve ch =>
    let o := vlvObj ch.val 0x020
    if s.cfb o Fd.vConf.SAFE_ON then
      (if s.isQuad ch.val then f100 else fOfNat (s.cf o Fd.vConf.SAFE_PCT))
    else fZero
  | .fan n => fOfNat (s.cf (fanObj n.val 0x020) Fd.fConf.SAFE_RPM)
  | .ao n =>
    let o := aoObj n.val 0x020
    match s.cf o Fd.aConf.SAFE_MODE with
    | 1 => s.cff o Fd.aConf.SAFE_V
    | 2 => (s.ao n.val).v
    | _ => s.aoLow n.val

/-- The class and instance of a stage. -/
def Stage.cls : Stage → Nat
  | .valve _ => 4 | .fan _ => 5 | .ao _ => 6
def Stage.inst : Stage → Nat
  | .valve ch => ch.val | .fan n => n.val | .ao n => n.val

/-- The stage of a class and instance. -/
def Stage.of (cls inst : Nat) : Option Stage :=
  match cls with
  | 4 => if h : inst < 24 then some (.valve ⟨inst, h⟩) else none
  | 5 => if h : inst < 12 then some (.fan ⟨inst, h⟩) else none
  | 6 => if h : inst < 16 then some (.ao ⟨inst, h⟩) else none
  | _ => none

/-- `ACT_SET` value ranges (Table 5.12). -/
def State.stageAccepts (s : State) (st : Stage) (v : F32) : Bool :=
  !fNotFinite v && (match st with
  | .valve ch => if s.isQuad ch.val then fEq v fZero || fEq v f100 else fLe fZero v && fLe v f100
  | .fan n => fEq v fZero || (fLe (s.fanMin n.val) v && fLe v (s.fanMax n.val))
  | .ao n => fLe (s.aoLow n.val) v && fLe v fTen)

/-- The direct command in force on a stage. -/
def State.directOf (s : State) (st : Stage) : Option Direct := s.act.direct.find? fun d => d.stage == st

/-- The stage is taken by Guard. -/
def State.guardHas (s : State) (st : Stage) : Bool :=
  match st with
  | .valve ch => (s.vlv ch.val).guard
  | .fan n => (s.fan n.val).guard.isSome
  | .ao n => (s.ao n.val).guard

/-- n_tgt in force; row 2 of Table 10.3 only switches the stage off (R275). -/
def State.fanTgt (s : State) (n : Nat) : F32 := (s.fan n).target

/-- The command in force at a stage after every limit, in % (R212, Table 8.1); the current of a prove stroke is none of it. -/
def State.inForce (s : State) (st : Stage) : F32 :=
  match st with
  | .valve ch =>
    let v := s.vlv ch.val
    let e := min (s.lim8 (ch.val / 6)) v.capF
    let a := (s.setUnder ch.val v.cmd e).1
    if fEq v.cmd fZero || fEq a fZero then fZero
    else if s.isQuad ch.val then fMul f100 (f8 e)
    else fMul f100 (fDiv a (s.iFs ch.val))
  | .fan n => s.toPct st (s.fanTgt n.val)
  | .ao n => s.toPct st (s.ao n.val).cmd

/-! ### The peak budget (R258, R271) -/

/-- The current in mA that a gang is charged with. -/
def State.gangCharge (s : State) (b : Nat) : Nat :=
  let v := s.vlv b
  match v.st with
  | .pullin => toMa v.target
  | .reg => toMa v.iset
  | _ => 0

def State.valveCharge (s : State) : Nat :=
  ((List.range 24).map fun ch => if s.drvGang ch != 0 && !s.isMember ch then s.gangCharge ch else 0).sum

/-- The current in mA that a fan is charged with. -/
def State.fanCharge (s : State) (n : Nat) : Nat :=
  match (s.fan n).onAt with
  | none => 0
  | some t => if s.now - t < 500000 then 4000 else s.cf (fanObj n 0x020) Fd.fConf.I_RUN_MAX_MA

def State.fansCharge (s : State) : Nat := ((List.range 12).map s.fanCharge).sum

/-! ### Driver results (R46, R265) -/

/-- `DE` puts a result into its result table, an error entry of a valve with its verdict; without a credit of the crossing a newer
result replaces an older one of the same index and counts as a stall. -/
def State.deResultOf (s : State) (idx : Nat) (v : F32) (err : Bool) (verdict : Nat) : State :=
  if !s.deOn then s
  else
    match s.se.table.findIdx? fun e => e.1 == idx with
    | some k =>
      let s1 := { s with se.table := lset s.se.table k (idx, v, err, verdict) }
      if s.se.cross.length ≥ 32 then s1.noteStall 0 else s1
    | none => { s with se.table := s.se.table ++ [(idx, v, err, verdict)] }

/-- A result without a verdict. -/
def State.deResult (s : State) (idx : Nat) (v : F32) (err : Bool) : State := s.deResultOf idx v err 0

/-- DE_RESULT_FORWARD: one result of the table goes into the crossing on a credit (R46). -/
def execDeResultForward (s : State) : Out :=
  match s.se.table with
  | [] => .next s
  | (i, v, err, c) :: rest =>
    if s.deOn && s.se.cross.length < 32 then
      let e : QE SmpVal := { val := .de i v err c, prod := 2 }
      .next (State.crossOut { s with se.table := rest, se.cross := s.se.cross ++ [e] })
    else .next s

/-- A pulse on a `DE` event line reaches the triggered modulators (R163, R266). -/
def State.deLine (s : State) (n : Nat) : State := s.triggerFrom (0x20 + n)

/-! ### `Q-CMD` (R44) -/

/-- `Q-CMD` producers: 0 `GD`, 1 `SB`, 2–5 `ZC0`–`ZC3`, 6 `PE`. -/
def cmdCredits (prod : Nat) : Nat := if prod == 6 then 32 else 16
/-- The ring of a producer. -/
def cmdRing (prod : Nat) : Nat := if prod == 0 then 0 else if prod == 1 then 1 else if prod == 6 then 3 else 2

/-- A command enters its ring on a credit, and waits otherwise. -/
def State.postCmd (s : State) (prod : Nat) (v : CmdVal) : State :=
  let ring := cmdRing prod
  let qe : QE CmdVal := { val := v, prod := prod }
  let blocked := s.act.cmdWait.any fun w => w.2.prod == prod
  if held (s.act.qCmd.getD ring []) prod < cmdCredits prod && !blocked then
    let q := lmod s.act.qCmd ring (· ++ [qe])
    State.noteHigh { s with act.qCmd := q } 2 (q.map List.length).sum
  else State.noteStall { s with act.cmdWait := s.act.cmdWait ++ [(ring, qe)] } 2

/-- Waiting commands enter as credits return, in order for each producer. -/
def State.refillCmd (s : State) : State :=
  s.act.cmdWait.foldl (fun t w =>
    let blocked := t.act.cmdWait.any fun x => x.2.prod == w.2.prod
    if held (t.act.qCmd.getD w.1 []) w.2.prod < cmdCredits w.2.prod && !blocked then
      let q := lmod t.act.qCmd w.1 (· ++ [w.2])
      State.noteHigh { t with act.qCmd := q } 2 (q.map List.length).sum
    else { t with act.cmdWait := t.act.cmdWait ++ [w] }) { s with act.cmdWait := [] }

/-- `SB` sends a stage to its safe value through `Q-CMD` (R16, R44); what the zones and the plan still have queued for the stage is
drained first (R33). -/
def State.sendSafe (s : State) (st : Stage) : State :=
  let keep (e : QE CmdVal) : Bool := e.val.stage != st || e.prod < 2
  let s1 := { s with act.qCmd := s.act.qCmd.map (List.filter keep), act.cmdWait := s.act.cmdWait.filter fun w => keep w.2 }
  s1.refillCmd.postCmd 1 { stage := st, act := .safe }

end Sys2Proof.Machine
end

