-- ==== Sys2Proof/Machine/Valves.lean ====
section
/-!
DEFINITION. Sys2Proof/Machine/Valves.lean: the valve bank (chapter 09): the current loop, strokes and their verdicts, the
order of deferred strokes, faults, `VALVE_PROVE` strokes and the manual driver pulse unit.
-/
namespace Sys2Proof.Machine
open Sys2Proof

/-! ### Currents -/

/-- `VDRV` in V as measured last. -/
def State.vdrvV (s : State) : F32 := mAmp s.pw.vdrvMv

/-- The supply monitor's reading that a driver command uses. -/
def State.setVdrv (s : State) (mv : Nat) : State := { s with pw.vdrvMv := mv }

/-- The current of a pair's data register in A (R180). -/
def sarAmp (pair avg data : Nat) : F32 := fOfRat ((data * (if pair < 4 then 5 else 8) : Nat) : Int) (4096 * 2 ^ min avg 4)

/-- Mean of a list; 0 of none. -/
def meanOf (l : List F32) : F32 := if l.isEmpty then fZero else fDiv (fSum l) (fOfNat l.length)

/-- `I_MEAS` of one channel: the mean of its centre samples over the last 50 ms (R245). -/
def State.iMeasCh (s : State) (ch : Nat) : F32 :=
  meanOf (((s.vlv ch).samples.filter fun p => s.now - p.1 ≤ 50000).map (·.2))

/-- The current of a gang: mean over 50 ms, and by the latest centre samples. -/
def State.iMeas (s : State) (b : Nat) : F32 := fSum ((s.gangChans b).map s.iMeasCh)
def State.gangNow (s : State) (b : Nat) : F32 := fSum ((s.gangChans b).map fun c => (s.vlv c).i)

/-- The current through `VHSg`: the sum of the channel centre samples. -/
def State.groupI (s : State) (g : Nat) : F32 := fSum ((List.range 6).map fun k => (s.vlv (6 * g + k)).i)

def State.openA (s : State) (b : Nat) : F32 := mAmp (s.cf (vlvObj b 0x020) Fd.vConf.OPEN_MA)
def State.tPeakUs (s : State) (b : Nat) : Nat := s.cf (vlvObj b 0x020) Fd.vConf.T_PEAK_MS * 1000

/-! ### Proof results (R254, R265) -/

/-- The verdicts delivered as error entries (Table 9.2). -/
def failedVerdict (v : Nat) : Bool := v == 9 || v == 6 || v == 4 || v == 5 || v == 3 || v == 7

/-- A fault holds the channel off, or its group's high side or the supply is off (R260). -/
def State.heldOff (s : State) (b : Nat) : Bool :=
  let v := s.vlv b
  let g := s.vgrp (b / 6)
  !s.powered || g.hsOff.isSome || g.latched || g.config || v.fault == 1 || v.fault == 2 || v.fault == 3 || v.fault == 5

/-- The proof result of a gang, once for each of its channels: the entries of a gang that is held off carry verdict 9, which
`VERDICT` does not show (R254, R260). -/
def State.proofResult (s : State) (b : Nat) : State :=
  let v := s.vlv b
  let judged := if s.heldOff b then 9 else if v.verdict == 7 then 7 else v.strokeVerdict
  let ms := fOfRat (v.ttp : Int) 1000
  (s.gangChans b).foldl (fun t c => t.deResultOf (24 + c) ms (failedVerdict judged) judged) s

/-- A verdict is set: a failed one counts once for its stroke and logs `VALVE_UNPROVEN` (R253, R254). -/
def State.setVerdict (s : State) (b v : Nat) : State :=
  let x := s.vlv b
  let fresh := failedVerdict v && !x.failed
  let s1 := s.modVlv b fun y =>
    { y with verdict := v, strokeVerdict := if v == 8 || v == 7 then y.strokeVerdict else v,
             fails := if fresh then sat 16 (y.fails + 1) else y.fails, failed := y.failed || failedVerdict v }
  let s2 := if fresh then { s1 with rs.hot.vfails := lmod s1.rs.hot.vfails b fun n => (n + 1) % 2 ^ 32 } else s1
  if failedVerdict v then s2.raise prDE evValveUnproven b (sat 16 x.ttp * 65536 + v) else s2

/-! ### Starting strokes (R249, R252, R256, R258) -/

/-- The pull-in target I_t of a gang at its set current, under the lowest f since its command (R32, R252, R259). -/
def State.pullTarget (s : State) (b : Nat) : F32 :=
  if s.isQuad b then fMul (s.iPeak b) (f8 (min (s.lim8 (b / 6)) (s.vlv b).capF)) else (s.vlv b).iset

/-- t_exp in ms; none when I_t × R ≥ 0.98 × `VDRV` (R252). -/
def State.tExp (s : State) (b : Nat) (it : F32) : Option F32 :=
  let o := vlvObj b 0x020
  let r := s.cff o Fd.vConf.R_OHM
  let drop := fMul it r
  if fLe (fMul (fOfRat 98 100) s.vdrvV) drop then none
  else some (fMul (fDiv (s.cff o Fd.vConf.L_MH) r) (fLn (fDiv fOne (fSub fOne (fDiv drop s.vdrvV)))))

/-- The gang in pull-in in a group (R256). -/
def State.pullGang (s : State) (g : Nat) : Option Nat := (s.groupGangs g).find? fun b => (s.vlv b).st == .pullin

/-- The 40 A budget leaves room for a stroke (R258). -/
def State.fitsBudget (s : State) (mA : Nat) : Bool := s.valveCharge + s.fansCharge + mA ≤ 40000

/-- Strokes of a gang may run at all: powered, no fault that holds it off but `LS_OCP` and `OPEN_LOAD` (Table 9.5), and no other
gang still decaying in its channels. -/
def State.mayStroke (s : State) (b : Nat) : Bool :=
  let g := s.vgrp (b / 6)
  s.deOn && s.powered && g.hsOff.isNone && !g.latched && !g.config && (s.vlv b).fault != 5 && (s.vlv b).fault != 3 && s.gangFree b

/-- The I_t that the gang's next stroke asks for. -/
def State.nextTarget (s : State) (b : Nat) : F32 :=
  if (s.vlv b).why == .pulse then mAmp s.act.pulse.lim else s.pullTarget b

/-- The stroke of a gang may start now. -/
def State.canStroke (s : State) (b : Nat) : Bool :=
  s.mayStroke b && (s.pullGang (b / 6)).isNone && s.fitsBudget (toMa (s.nextTarget b))

/-- The clamp limit holds for a gang: for one of its channels (R248). -/
def State.gangLimited (s : State) (b : Nat) : Bool := (s.gangChans b).any fun c => (s.vlv c).clampLim

/-- A fault of a gang is cleared: `FAULT` reads 4 while the clamp limit holds, otherwise 0. -/
def State.unfault (s : State) (b : Nat) : State :=
  let f := if s.gangLimited b then 4 else 0
  s.modVlv b fun v => { v with fault := f }

/-- A fault 1 or 2 is cleared by the next stroke (Table 9.5). -/
def State.clearByStroke (s : State) (b : Nat) : State :=
  let f := (s.vlv b).fault
  if f == 1 || f == 2 then (s.unfault b).raise prDE evValveFaultClear b f else s

/-- The first entry that satisfies `p` is changed. -/
def changeFirst {α : Type} (p : α → Bool) (f : α → α) : List α → List α
  | [] => []
  | x :: l => if p x then f x :: l else x :: changeFirst p f l

/-- A `VALVE_PROVE` of the gang that `DE` has executed and whose stroke has not started. -/
def Prove.waits (b : Nat) (p : Prove) : Bool := p.gang == b && p.live && !p.started

/-- A pulse starts now, and its capture with it. -/
def Pulse.begin (p : Pulse) (now : Nat) : Pulse :=
  { p with startAt := some now, result := 0, capAt := if p.capture then some now else none, capUs := p.sampleUs }

/-- A stroke starts (R249): low sides fully on, event line g (R266). -/
def State.beginStroke (s : State) (b : Nat) : State :=
  let re := (s.vlv b).st == .decay || ((s.vlv b).st == .defer && fLe (s.openA b) (s.gangNow b))
  let it := s.nextTarget b
  let s1 := s.clearByStroke b
  let te := s1.tExp b it
  let s2 := (s1.gangChans b).foldl (fun t c => t.modVlv c fun v => { v with integ := fZero, duty := fOne }) s1
  let s3 := s2.modVlv b fun v =>
    { v with st := .pullin, startAt := s.now, restroke := re, target := it, texp := te, burst := [], dipM := fZero, sampleAt := s.now,
             dipCand := none, dipAt := none, peakAt := none, failed := false, stepDown := false,
             strokes := (v.strokes + 1) % 2 ^ 32 }
  let s4 := { s3 with rs.hot.strokes := lmod s3.rs.hot.strokes b fun n => (n + 1) % 2 ^ 32,
                      act.proves := if (s.vlv b).why == Stroke.prove then changeFirst (Prove.waits b) (fun p => { p with started := true }) s3.act.proves else s3.act.proves }
  let s5 := if (s.vlv b).why == .pulse then
      { s4 with act.pulse := s4.act.pulse.begin s.now }
    else s4
  s5.deLine (b / 6)

/-- Takes a gang out of its group's queue. -/
def State.unqueue (s : State) (b : Nat) : State :=
  s.modGrp (b / 6) fun g => { g with queue := g.queue.filter fun e => e.1 != b }

/-- The place of a new deferred gang: Guard's strokes first, then in order (R256). -/
def queueIn (q : List (Nat × Bool)) (b : Nat) (guard : Bool) : List (Nat × Bool) :=
  if guard then q.filter (·.2) ++ [(b, true)] ++ q.filter (fun e => !e.2) else q ++ [(b, false)]

/-- A stroke is asked for: it starts, or is deferred behind the gang in pull-in or the budget (R256, R258). -/
def State.requestStroke (s : State) (b : Nat) (guard : Bool) (why : Stroke) : State :=
  let s0 := s.modVlv b fun v => { v with why := why }
  if !s0.mayStroke b then s0
  else if (s0.vlv b).st == .defer then s0
  else
    let q := queueIn (s0.vgrp (b / 6)).queue b guard
    if s0.canStroke b && (q.head?.map (·.1)) == some b then
      (s0.modVlv b fun v => { v with deferred := false }).beginStroke b
    else
      let s1 := (s0.modGrp (b / 6) fun g => { g with queue := q }).modVlv b fun v =>
        { v with st := .defer, deferred := true, deferAt := s.now, deferCount := sat 16 (v.deferCount + 1) }
      if why == .pulse then { s1 with act.pulse := { s1.act.pulse with result := 4 } } else s1

/-- DEFERRED_STROKE_START: the head deferred stroke of group `g` starts when nothing is in pull-in and the budget allows
it (R256). -/
def execDeferredStrokeStart (g : Fin 4) (mv : Fin 65536) (s : State) : Out :=
  let s0 := s.setVdrv mv.val
  match (s0.vgrp g.val).queue with
  | [] => .next s0
  | (b, _) :: _ =>
    if !s0.canStroke b then .next s0
    else
      let us := s0.now - (s0.vlv b).deferAt
      let log := !(s0.vlv b).deferLog
      let s1 := (s0.unqueue b).modVlv b fun v => { v with deferUs := us % 2 ^ 32, deferLog := true }
      let s2 := if log then s1.raise prDE evValveDefer b (us % 2 ^ 32) else s1
      .next (s2.beginStroke b)

/-! ### The manual pulse under way (R264) -/

/-- The valve gang that a `TARGET` code names, by its lowest channel. -/
def State.targetGang (s : State) (t : Nat) : Option Nat := if t < 24 && s.gang t != 0 && !s.cfgMember t then some t else none
/-- The fan that a `TARGET` code names. -/
def State.targetFan (s : State) (t : Nat) : Option Nat :=
  if 0x40 ≤ t && t < 0x4C && s.fanDrive (t - 0x40) != 0 then some (t - 0x40) else none

/-- The target of the pulse under way, as `FIRE` took it, else what the register names. -/
def Pulse.code (p : Pulse) : Nat := if p.busy then p.run else p.target
def State.pulseGang (s : State) : Option Nat := s.targetGang s.act.pulse.code
def State.pulseFan (s : State) : Option Nat := s.targetFan s.act.pulse.code

/-- The pulse has ended without its decay. -/
def State.pulseDone (s : State) (result : Nat) : State :=
  { s with act.pulse := { s.act.pulse with busy := false, startAt := none, decaying := false, result := result } }

/-- The manual pulse waits, runs or decays in gang `b`. -/
def State.pulseIn (s : State) (b : Nat) : Bool :=
  let v := s.vlv b
  v.why == .pulse && s.act.pulse.busy && (v.st == .pullin || v.st == .defer || (v.st == .decay && s.act.pulse.decaying))

/-- The pulse in gang `b` goes into its decay with `result`; `DIP_US` is what the pull-in has found. -/
def State.pulseDecays (s : State) (b result : Nat) : State :=
  let dip := sat 16 ((s.vlv b).dipAt.getD 0)
  { s with act.pulse := { s.act.pulse with decaying := true, result := result, dip := dip } }

/-- `FIRE` has taken `TARGET`: `BUSY`, with nothing measured yet. -/
def State.pulseFired (s : State) : State :=
  let p := s.act.pulse
  let p1 := { p with busy := true, run := p.target, result := 0, verdict := 0, iMax := 0, ttp := 0xFFFF, dip := 0, startAt := none }
  { s with act.pulse := { p1 with samples := List.replicate 32 none, decaying := false, capAt := none, capFree := s.freeCtr },
           freeCtr := s.freeCtr + 32 }

/-- `SAMPLEk` as it reads: what a burst on the instant k × `SAMPLE_US` has measured. The model is told no current at an instant without a
burst, so that sample is free once its instant has come (log 67). -/
def Pulse.sample (p : Pulse) (now k : Nat) : Nat :=
  match p.samples.getD k none, p.capAt with
  | some v, _ => v
  | none, none => 0
  | none, some t => if t + k * p.capUs ≤ now then Config.free (p.capFree + k) % 65536 else 0

/-! ### Decay and stops (R247, R248) -/

/-- The low sides of a gang open and its current decays, fast through the clamp unless `slow` or the clamp limit holds. -/
def State.openGang (s : State) (b : Nat) (slow : Bool) : State :=
  let lim := s.gangLimited b
  let s1 := (s.gangChans b).foldl (fun t c => t.modVlv c fun v => { v with duty := fZero, integ := fZero }) s
  s1.modVlv b fun v => { v with st := .decay, slowDecay := slow || lim, stepDown := false }

/-- A `VALVE_PROVE` stroke's pull-in has ended. -/
def Prove.pulled (b now : Nat) (p : Prove) : Prove :=
  if p.gang == b && p.started && p.pullEnd.isNone then { p with pullEnd := some now } else p

/-- The pull-in of a gang ends with verdict `v`; event line 4 + g (R253, R266). -/
def State.endPull (s : State) (b v : Nat) : State :=
  let x := s.vlv b
  let keep := v == 8 || x.restroke || x.why == .pulse
  let dip := x.dipAt.getD 0
  let (tt, s0) : Nat × State := match x.peakAt with
    | some t => (t, s)
    | none => (Config.free s.freeCtr % 65536, if keep then s else s.freeNext)
  let s1 := if keep then s0 else s0.modVlv b fun y => { y with ttp := sat 16 tt, dip := sat 16 dip }
  let s2 := if x.why == .pulse then { s1 with act.pulse := { s1.act.pulse with verdict := v } } else s1.setVerdict b v
  let s3 := { s2 with act.proves := s2.act.proves.map (Prove.pulled b s2.now) }
  let s4 := if v == 8 || x.why == .pulse then s3 else s3.proofResult b
  s4.deLine (4 + b / 6)

/-- The dip counts: inside `DIP_T_MIN_MS`–`DIP_T_MAX_MS` (R251). -/
def State.dipCounts (s : State) (b : Nat) : Bool :=
  let o := vlvObj b 0x030
  match (s.vlv b).dipAt with
  | none => false
  | some t => decide (s.cf o Fd.vProof.DIP_T_MIN_MS * 1000 ≤ t) && decide (t ≤ s.cf o Fd.vProof.DIP_T_MAX_MS * 1000)

/-- The window of R252 in ms. -/
def State.ttpLow (s : State) (b : Nat) : F32 :=
  match (s.vlv b).texp with
  | none => fZero
  | some te => fMul (pctF (s.cf (vlvObj b 0x030) Fd.vProof.TTP_LO_PCT)) te
def State.ttpHigh (s : State) (b : Nat) : F32 :=
  let tp := fOfNat (s.cf (vlvObj b 0x020) Fd.vConf.T_PEAK_MS)
  match (s.vlv b).texp with
  | none => tp
  | some te => fMin (fMul (pctF (s.cf (vlvObj b 0x030) Fd.vProof.TTP_HI_PCT)) te) tp

/-- The verdict of a stroke, the rows of Table 9.2 top to bottom (the rows 9 and 8 are decided by the caller). -/
def State.judgeStroke (s : State) (b : Nat) : Nat :=
  let v := s.vlv b
  let o := vlvObj b 0x020
  if v.restroke then 2
  else match v.peakAt with
  | none => 6
  | some t =>
    let ms := fOfRat (t : Int) 1000
    if t > s.tPeakUs b then 6
    else if s.cfb o Fd.vConf.TTP_EN && fLt ms (s.ttpLow b) then 4
    else if s.cfb o Fd.vConf.TTP_EN && fLt (s.ttpHigh b) ms then 5
    else if s.cfb o Fd.vConf.DIP_EN && !s.dipCounts b then 3
    else 1

/-- After its pull-in a gang regulates or holds: the loop starts with s = 0 (R244). -/
def State.toReg (s : State) (b : Nat) (down : Bool) : State :=
  let s1 := (s.gangChans b).foldl (fun t c => t.modVlv c fun v => { v with integ := fZero }) s
  s1.modVlv b fun v => { v with st := .reg, ditherAt := s.now, stepDown := down }

/-- The gang is stopped without a fault: a pull-in ends with verdict `v`, a wait is withdrawn, the current decays. A manual pulse that it
ends is aborted, `RESULT` 2 (log 67). -/
def State.stopGang (s : State) (b v : Nat) : State :=
  let pulse := s.pulseIn b
  match (s.vlv b).st with
  | .pullin =>
    let s1 := (s.endPull b v).openGang b false
    if pulse then s1.pulseDecays b 2 else s1
  | .reg => s.openGang b false
  | .defer =>
    let s1 := (s.unqueue b).modVlv b fun x => { x with st := .off }
    if pulse then s1.pulseDone 2 else s1
  | _ => s

/-- A command is executed: the set current of the gang after the f of this moment (R32, R245, R259). -/
def State.applySet (s : State) (b : Nat) (v : F32) : State :=
  let (a, cl) := s.setCurrent b v
  s.modVlv b fun x =>
    { x with cmd := v, iset := a, clamped := cl, capF := s.lim8 (b / 6), lastSet := if fEq v fZero then x.lastSet else some a }

/-- The command in force runs again, under the lowest f since it was executed (R32). -/
def State.reapply (s : State) (b : Nat) : State :=
  let r := s.setUnder b (s.vlv b).cmd (min (s.lim8 (b / 6)) (s.vlv b).capF)
  s.modVlv b fun x => { x with iset := r.1, clamped := r.2 }

/-- A `VALVE_PROVE` of the gang waits for its stroke. -/
def State.proveWaits (s : State) (b : Nat) : Bool := s.act.proves.any (Prove.waits b)

/-- A command reaches a gang (R261). While a `VALVE_PROVE` waits for its stroke, or runs it on a gang that was off, the command is
kept as the command in force, to which the gang returns (R262; log 63); so it is while a manual pulse waits, runs or decays, which a take
of Guard's ends (log 67). -/
def State.gangCmd (s : State) (b : Nat) (v : F32) (guard : Bool) : State :=
  let on := !fEq v fZero
  let quad := s.isQuad b
  let x := s.vlv b
  let proving := x.why == .prove && (x.st == .defer || ((x.st == .pullin || x.st == .reg) && !on && fEq x.cmd fZero))
  let s1 := s.applySet b v
  if !guard && (proving || s.pulseIn b || (x.st == .decay && s.proveWaits b)) then
    s.modVlv b fun y => { y with cmd := v, capF := s.lim8 (b / 6) }
  else if s.pulseIn b then
    let s2 := s1.stopGang b 8
    if on && (s2.vlv b).st == .off then s2.requestStroke b guard .cmd else s2
  else match x.st with
  | .off => if on then s1.requestStroke b guard .cmd else s1
  | .defer => if on then s1 else s1.stopGang b 8
  | .pullin =>
    if !on then s1.stopGang b 8
    else if quad then s1
    else
      let it := (s1.vlv b).iset
      let hit := (s1.vlv b).peakAt.isNone && fLe it (s1.gangNow b)
      s1.modVlv b fun x => { x with target := it, peakAt := if hit then some (s1.now - x.startAt) else x.peakAt }
  | .reg => if on then s1 else s1.openGang b false
  | .decay => if on && x.drv.isNone then s1.requestStroke b guard .cmd else s1

/-- Every gang that is on goes off: pull-ins end with verdict `v`, deferred strokes are withdrawn (R260, R263). -/
def State.gangsOff (s : State) (v : Nat) : State :=
  (List.range 24).foldl (fun t b => if t.drvGang b != 0 && !t.isMember b then t.stopGang b v else t) s

/-- While `DE` does not run every low side is off and its current decays (R415); a manual pulse in a gang has ended. -/
def State.gangsDead (s : State) : State :=
  let q := s.act.groups.map fun g => { g with queue := [] }
  let p := s.act.pulse
  let s := if p.busy && s.pulseGang.isSome then s.pulseDone (if p.decaying then p.result else 2) else s
  { s with act.groups := q, act.valves := s.act.valves.map fun v => { v with st := .off, duty := fZero, integ := fZero, i := fZero, drv := none } }

/-- The cap of a gang's set current: f × `I_FS`, or f × `I_HOLD` of a quad (R259). -/
def State.setCap (s : State) (b : Nat) : F32 := fMul (s.limF (b / 6)) (if s.isQuad b then s.iHold b else s.iFs b)

/-- f of group `g` has been lowered: every current above it, that of a prove stroke too, is capped at once (R259). -/
def State.capGroup (s : State) (g : Nat) : State :=
  (s.groupGangs g).foldl (fun t b =>
    let v := t.vlv b
    let cap := t.setCap b
    let low := fLt cap v.iset
    let t1 := t.modVlv b fun x => { x with capF := min x.capF (t.lim8 g), iset := if low then cap else x.iset, clamped := x.clamped || low }
    let it := t1.pullTarget b
    if v.st == .pullin && v.why != .pulse && fLt it v.target then
      let hit := v.peakAt.isNone && fLe it (t1.gangNow b)
      t1.modVlv b fun x => { x with target := it, peakAt := if hit then some (t1.now - x.startAt) else x.peakAt }
    else t1) s

/-! ### The current loop (R244–R246) -/

/-- The triangle of R245 at `us` µs after the end of the pull-in, frequency `hz`: it starts at 0 and rises (log 30). -/
def dither (hz us : Nat) : F32 :=
  let ph := us * hz % 1000000
  if ph < 250000 then fOfRat (4 * ph : Nat) 1000000
  else if ph < 750000 then fOfRat (2000000 - 4 * (ph : Int)) 1000000
  else fOfRat (4 * (ph : Int) - 4000000) 1000000

/-- The commanded current of one channel: the gang's set current with its dither, an equal share (R242, R245). -/
def State.iCmd (s : State) (b : Nat) : F32 :=
  let v := s.vlv b
  let o := vlvObj b 0x020
  let dp := s.cf o Fd.vConf.DITHER_PCT
  let i := if v.st == .pullin then v.target
    else if s.isQuad b || dp == 0 then v.iset
    else fMul v.iset (fAdd fOne (fMul (pctF dp) (dither (s.cf o Fd.vConf.F_DITHER_HZ) (s.now - v.ditherAt))))
  fDiv i (fOfNat (gangLen (s.drvGang b)))

/-- The centre sample of a channel from its pair's data register. A `MUXSETTLE` result leaves i at the value of the previous cycle
and is itself the prior value of the next one (R182, R244). -/
def State.centre (s : State) (ch : Nat) : State :=
  let x := s.se.sar.getD (ch / 6) {}
  let s1 := s.sarRead (ch / 6)
  if x.full && x.point == ch % 6 then
    let i := sarAmp (ch / 6) x.avg x.data
    s1.modVlv ch fun v => { v with i := if x.mux then v.prior else i, prior := i }
  else s1

/-- The loop of R244 for channel `ch` of gang `b`, on a set PWM frequency. -/
def State.loopStep (s : State) (b ch : Nat) : State :=
  let v := s.vlv ch
  let o := vlvObj b 0x020
  let hz := fOfNat (s.cf (grpObj (b / 6) 0x020) Fd.gConf.PWM_HZ)
  let c := s.iCmd b
  let e := fSub c v.i
  let r := fMul (s.cff o Fd.vConf.R_OHM) (fOfNat (gangLen (s.drvGang b)))
  let d := fAdd (fAdd (fDiv (fMul c r) s.vdrvV) (fMul (s.cff o Fd.vConf.KP_CL) e)) v.integ
  let hold := (fLe fOne d && fLt fZero e) || (fLe d fZero && fLt e fZero)
  let integ := if hold then v.integ else fAdd v.integ (fDiv (fMul (s.cff o Fd.vConf.KI_CL) e) hz)
  let d1 := fMin fOne (fMax fZero d)
  let short := fLt (fDiv d1 hz) (fOfRat 2 1000000)
  s.modVlv ch fun x => { x with integ := integ, duty := if short then fZero else d1 }

/-- CURRENT_LOOP_STEP: once per PWM period a regulating channel takes its centre sample and updates its duty (R243,
R244); a quad that steps down keeps its low sides off until the gang current has fallen to `I_HOLD` (R246). -/
def execCurrentLoopStep (ch : Fin 24) (mv : Fin 65536) (s : State) : Out :=
  let s0 := s.setVdrv mv.val
  match s0.gangBase ch.val with
  | none => .next s0
  | some b =>
    let v := s0.vlv b
    let chop := v.st == .pullin && (s0.isQuad b || v.why == .pulse) && v.peakAt.isSome
    if !s0.deOn || !(v.st == .reg || chop) then .next s0
    else
      let s1 := s0.centre ch.val
      let now := s1.now
      let s2 := s1.modVlv ch.val fun x => { x with samples := ((now, x.i) :: x.samples).filter fun p => now - p.1 ≤ 50000 }
      if v.stepDown then
        if fLt (s2.vlv b).iset (s2.gangNow b) then .next (s2.modVlv ch.val fun x => { x with duty := fZero })
        else .next ((s2.modVlv b fun x => { x with stepDown := false }).loopStep b ch.val)
      else .next (s2.loopStep b ch.val)

/-! ### Pull-in samples (R250–R252) -/

/-- One sample (i, t) of the pull-in through the dip rule of R251. -/
def State.dipSample (s : State) (b : Nat) (i : F32) (t : Nat) : State :=
  let o := vlvObj b 0x030
  s.modVlv b fun v =>
    let thr := fMax (mAmp (s.cf o Fd.vProof.DIP_ABS_MA)) (fMul (pctF (s.cf o Fd.vProof.DIP_REL_PCT)) v.dipM)
    let m := if fLt v.dipM i then i else v.dipM
    match v.dipAt, v.dipCand with
    | some _, _ => { v with dipM := m }
    | none, none => { v with dipM := m, dipCand := if fLe i (fSub m thr) then some (i, t) else none }
    | none, some (ci, ct) =>
      if fLt i ci then { v with dipM := m, dipCand := some (i, t) }
      else if fLe (fAdd ci thr) i then { v with dipM := m, dipAt := some ct }
      else { v with dipM := m }

/-- A pull-in sample of gang `b`: the dip rule, then the target (R251, R252). -/
def State.pullSample (s : State) (b : Nat) (i : F32) : State :=
  let v := s.vlv b
  let t := s.now - v.startAt
  if v.st != .pullin || v.peakAt.isSome then s
  else
    let s0 := s.dipSample b i t
    let s1 := if fLe v.target i then s0.modVlv b fun x => { x with peakAt := some t } else s0
    if v.why == .pulse && fLe v.target i then
      { s1 with act.pulse := { s1.act.pulse with ttp := sat 16 t } }
    else s1

/-- What a sample does to the capture of the manual pulse unit: it is `SAMPLEk` when it falls on the instant k × `SAMPLE_US`
(Table 9.6). -/
def State.pulseSample (s : State) (i : F32) : State :=
  let p := s.act.pulse
  if p.startAt.isNone then s
  else
    let ma := sat 16 (toMa i)
    let smp := match p.capAt with
      | none => p.samples
      | some t0 =>
        let k := (s.now - t0) / p.capUs
        if (s.now - t0) % p.capUs == 0 && k < 32 then lset p.samples k ((p.samples.getD k none).or (some ma)) else p.samples
    { s with act.pulse := { p with iMax := max p.iMax ma, samples := smp } }

/-- A pull-in trace burst of channel `ch` has the current `i`: a sample is taken every `DIP_DT_US`, and for a quad four bursts make
one sample (R250). -/
def State.traceBurst (s : State) (ch : Nat) (i : F32) : State :=
  match s.gangBase ch with
  | none => s
  | some b =>
    let v0 := s.vlv b
    let due := v0.sampleAt + s.cf (vlvObj b 0x030) Fd.vProof.DIP_DT_US
    let sN := if v0.st == .pullin && v0.burst.isEmpty then
        (s.advTo due).modVlv b fun v => { v with sampleAt := (s.advTo due).now }
      else s
    let s1 := sN.modVlv ch fun v => { v with i := i }
    if s1.isQuad b then
      let l := (s1.vlv b).burst ++ [i]
      if l.length ≥ 4 then
        let sum := fSum l
        let s2 := (s1.modVlv b fun v => { v with burst := [] }).pullSample b sum
        if (s2.vlv b).why == .pulse then s2.pulseSample sum else s2
      else s1.modVlv b fun v => { v with burst := l }
    else
      let sum := s1.gangNow b
      let s2 := s1.pullSample b sum
      if (s2.vlv b).why == .pulse then s2.pulseSample sum else s2

/-- PULLIN_END: a pull-in ends, at its target or at `T_PEAK_MS`, and its verdict and proof result are set (R249, R253); a
quad that has reached `I_PEAK` goes on into its peak phase. -/
def execPullinEnd (ch : Fin 24) (s : State) : Out :=
  let b := ch.val
  let v := s.vlv b
  if !s.deOn || v.st != .pullin || v.why == .pulse then .next s
  else match v.peakAt with
  | some t =>
    if s.isQuad b then .next s
    else
      let s0 := s.advTo (v.startAt + t)
      .next ((s0.endPull b (s0.judgeStroke b)).toReg b false)
  | none =>
    let s0 := s.advTo (v.startAt + s.tPeakUs b)
    .next ((s0.endPull b (s0.judgeStroke b)).toReg b false)

/-- The end of a quad's peak phase: `T_PEAK_MS` after the start, or with `EARLY_HOLD` the later of `I_PEAK` reached and the
dip plus `T_SEAT_MS`, when that is earlier (R246). -/
def State.peakEnd (s : State) (b : Nat) : Nat :=
  let v := s.vlv b
  let o := vlvObj b 0x020
  let late := v.startAt + s.tPeakUs b
  match s.cfb o Fd.vConf.EARLY_HOLD, v.peakAt, v.dipAt with
  | true, some tp, some td => min late (v.startAt + max tp (td + s.cf o Fd.vConf.T_SEAT_MS * 1000))
  | _, _, _ => late

/-- PEAK_END: a quad's peak phase ends and it steps to hold by slow decay (R246). -/
def execPeakEnd (ch : Fin 24) (s : State) : Out :=
  let b := ch.val
  let v := s.vlv b
  if !s.deOn || v.st != .pullin || v.why == .pulse || !s.isQuad b || v.peakAt.isNone then .next s
  else
    let s0 := s.advTo (s.peakEnd b)
    .next ((s0.endPull b (s0.judgeStroke b)).toReg b true)

/-! ### Manual driver pulse unit (R264) -/

/-- `CFG_ERR`: no gang or stage, or a limit above the target's pull-in rating (Table 9.1; a fan's is its 4.0 A inrush). -/
def State.pulseCfgErr (s : State) : Bool :=
  match s.targetGang s.act.pulse.target, s.targetFan s.act.pulse.target with
  | some b, _ => s.act.pulse.lim > [0, 1500, 3000, 10000].getD (s.gang b) 0
  | none, some _ => s.act.pulse.lim > 4000
  | none, none => true

/-- A gang returns to its safe state or its command in force after a pulse or a prove stroke. -/
def State.resumeGang (s : State) (b : Nat) : State :=
  let s1 := s.reapply b
  if fEq (s.vlv b).cmd fZero then s1 else s1.requestStroke b false .cmd

/-- The running pulse ends with its decay, `result` set. -/
def State.pulseStop (s : State) (result : Nat) : State :=
  match s.pulseGang with
  | some b =>
    let v := s.vlv b
    if v.st == .defer && v.why == .pulse then
      (((s.unqueue b).modVlv b fun x => { x with st := .off }).pulseDone 2).resumeGang b
    else if v.st == .pullin && v.why == .pulse then
      ((s.endPull b (s.judgeStroke b)).openGang b (!s.act.pulse.fast)).pulseDecays b result
    else s.pulseDone result
  | none => s.pulseDone result

/-! ### Ends of decays, faults -/

/-- The first `VALVE_PROVE` of a gang that waits for its stroke asks for it once the gang is off (R262). -/
def State.proveNext (s : State) (b : Nat) : State :=
  match s.act.proves.find? (Prove.waits b) with
  | none => s
  | some _ =>
    let it := if s.isQuad b then (fMul (s.iHold b) (s.limF (b / 6)))
      else fMin ((s.vlv b).lastSet.getD (s.iFs b)) (fMul (s.limF (b / 6)) (s.iFs b))
    (s.modVlv b fun v => { v with iset := it }).requestStroke b false .prove

/-- An old gang has decayed: a gang now configured in its channels runs the command it has received since (R267). -/
def State.newGangs (s : State) (chans : List Nat) : State :=
  (chans.filterMap s.gangBase).eraseDups.foldl (fun (t : State) b =>
    if (t.vlv b).st == .off && !fEq (t.vlv b).cmd fZero then (t.reapply b).requestStroke b false .cmd else t) s

/-- DECAY_END: the sensed current of a decaying channel falls below `OPEN_MA` and it becomes `OFF` (R247). -/
def execDecayEnd (ch : Fin 24) (s : State) : Out :=
  match s.gangBase ch.val with
  | none => .next (s.modVlv ch.val fun v => { v with st := if v.st == .decay then .off else v.st })
  | some b =>
    let v := s.vlv b
    if !s.deOn || v.st != .decay then .next s
    else
      let s1 := (s.gangChans b).foldl (fun t c => t.modVlv c fun x => { x with i := fZero, prior := fZero, duty := fZero, drv := none }) s
      let s2 := s1.modVlv b fun x => { x with st := .off, slowDecay := false }
      let pulse := v.why == .pulse && s2.act.pulse.decaying
      let s3 := if pulse then s2.pulseDone s2.act.pulse.result else s2
      if v.drv.isSome then .next (s3.newGangs (s.gangChans b))
      else if pulse then .next (s3.resumeGang b)
      else .next (s3.proveNext b)

/-- A gang goes off under a fault: its pull-in ends, its wait is withdrawn; slow decay for `LS_OCP` (Table 9.5). A tripped pulse is
`BUSY` until its decay has ended (Table 9.6). -/
def State.faultOff (s : State) (b v : Nat) (slow : Bool) : State :=
  let x := s.vlv b
  let pulse := s.pulseIn b
  let s1 := match x.st with
    | .pullin => (s.endPull b v).openGang b slow
    | .reg => s.openGang b slow
    | .defer => (s.unqueue b).modVlv b fun y => { y with st := .off }
    | _ => s
  if !pulse then s1
  else if (s1.vlv b).st == .decay then s1.pulseDecays b 3
  else s1.pulseDone 3

/-- LS_OCP: a low-side trip switches its gang off; the third within 60 s latches it off (R260). -/
def execLsOcp (ch : Fin 24) (s : State) : Out :=
  match s.gangBase ch.val with
  | none => .next s
  | some b =>
    let v := s.vlv b
    if v.st != .pullin && v.st != .reg then .next s
    else
      let trips := (v.trips.filter fun t => s.now - t < 60000000) ++ [s.now]
      let f := if trips.length ≥ 3 then 5 else 1
      let s1 := s.faultOff b (s.judgeStroke b) true
      let s2 := s1.modVlv b fun x => { x with trips := trips, fault := f }
      .next ((s2.raise prDE evValveFault b f).proofResult b)

/-- OPEN_LOAD: current below `OPEN_MA` at high duty or early in a pull-in; the gang goes off with verdict `NO_PEAK`
(R260). -/
def execOpenLoad (ch : Fin 24) (s : State) : Out :=
  match s.gangBase ch.val with
  | none => .next s
  | some b =>
    let v := s.vlv b
    if !s.deOn || (v.st != .pullin && v.st != .reg) then .next s
    else
      let s1 := s.faultOff b 6 false
      let s2 := if v.st == .reg then s1.setVerdict b 6 else s1
      let s2 := if v.why == .pulse && s2.act.pulse.decaying then s2.pulseDone 3 else s2
      let s3 := s2.modVlv b fun x => { x with st := .off, fault := 2, openAt := s.now }
      .next ((s3.raise prDE evValveFault b 2).proofResult b)

/-- OPEN_LOAD_RETRY: every 10 s an open-load gang with a non-zero command retries a stroke (R260). -/
def execOpenLoadRetry (ch : Fin 24) (mv : Fin 65536) (s : State) : Out :=
  let b := ch.val
  let v := s.vlv b
  if !s.deOn || v.fault != 2 || v.st != .off || fEq v.cmd fZero then .next s
  else
    let s0 := (s.advTo (v.openAt + 10000000)).setVdrv mv.val
    .next ((s0.modVlv b fun x => { x with openAt := s0.now }).requestStroke b false .retry)

/-- HS_OCP: a high-side trip switches the group and all its gangs off; a second within 10 s latches it (R260). -/
def execHsOcp (g : Fin 4) (s : State) : Out :=
  let x := s.vgrp g.val
  if x.hsOff.isSome || x.latched || !s.powered then .next s
  else
    let trips := (x.trips.filter fun t => s.now - t < 10000000) ++ [s.now]
    let n := sat 16 (x.hsTrips + 1)
    let latch := trips.length ≥ 2
    let s1 := s.modGrp g.val fun y => { y with hsOff := some s.now, trips := trips, hsTrips := n, latched := latch }
    let s2 := (s1.groupGangs g.val).foldl (fun t b =>
      let t1 := (t.faultOff b 9 false).modVlv b fun v => { v with fault := if v.fault == 5 then 5 else 3 }
      t1.proofResult b) s1
    let s3 := s2.raise prDE evGroupHsTrip (0x100 + g.val) trips.length
    .next (if latch then s3.raise prDE evGroupLatched (0x100 + g.val) n else s3)

/-- The high side of a group is on again: the fault is cleared, and every gang with a non-zero command restarts as a stroke
(R260). -/
def State.groupBack (s : State) (g : Nat) : State :=
  let s1 := s.raise prDE evValveFaultClear (0x100 + g) 3
  (s1.groupGangs g).foldl (fun (u : State) b =>
    let u1 := if (u.vlv b).fault == 3 then u.unfault b else u
    if u1.proveWaits b then u1.proveNext b
    else if fEq (u1.vlv b).cmd fZero then u1
    else (u1.reapply b).requestStroke b false .cmd) s1

/-- HS_OCP_RESTART: 100 ms after the trip every gang with a non-zero command restarts as a stroke (R260). -/
def execHsOcpRestart (g : Fin 4) (mv : Fin 65536) (s : State) : Out :=
  let x := s.vgrp g.val
  match x.hsOff with
  | none => .next s
  | some t =>
    if x.latched || !s.deOn then .next s
    else
      let s0 := (s.advTo (t + 100000)).setVdrv mv.val
      .next ((s0.modGrp g.val fun y => { y with hsOff := none }).groupBack g.val)

/-- CLAMP_LIMIT: the 10 s mean clamp power of a channel passes 0.5 W, or falls below 0.4 W; the limit of a gang lasts while one of
its channels is above (R248, R260). -/
def execClampLimit (ch : Fin 24) (mw : Fin 65536) (s : State) : Out :=
  match s.gangBase ch.val with
  | none => .next s
  | some b =>
    let c := s.vlv ch.val
    if !s.deOn then .next s
    else if mw.val > 500 && !c.clampLim then
      let s1 := (s.modVlv ch.val fun x => { x with clampLim := true }).raise prDE evClampLimit b mw.val
      if s.gangLimited b then .next s1
      else .next ((s1.modVlv b fun x => { x with fault := if x.fault == 0 then 4 else x.fault }).raise prDE evValveFault b 4)
    else if mw.val < 400 && c.clampLim then
      let s1 := s.modVlv ch.val fun x => { x with clampLim := false }
      if s1.gangLimited b then .next s1
      else .next ((s1.modVlv b fun x => { x with fault := if x.fault == 4 then 0 else x.fault }).raise prDE evValveFaultClear b 4)
    else .next s

/-- REG_ERR: the mean error of a regulating channel has been above 10 % for 200 ms, or back within it (R253). -/
def execRegErr (ch : Fin 24) (back : Bool) (s : State) : Out :=
  match s.gangBase ch.val with
  | none => .next s
  | some b =>
    let v := s.vlv b
    if !s.deOn || v.st != .reg then .next s
    else if back then
      if v.verdict == 7 then .next ((s.modVlv b fun x => { x with verdict := x.strokeVerdict }).proofResult b) else .next s
    else if v.verdict == 7 then .next s
    else .next ((s.setVerdict b 7).proofResult b)

/-- The die sensors' temperatures, error entries of those that have failed, the band and the hottest temperature (R420). -/
def State.dieResults (s : State) : State :=
  let s1 := (List.range 9).foldl (fun (t : State) n =>
    let d := t.th.dies.getD n {}
    t.deResult (128 + n) (if d.failed then fZero else d.t) (d.failed || fNotFinite d.t)) s
  let hot := (s.th.dies.filter fun d => !d.failed && !fNotFinite d.t).map (·.t)
  let top := match hot with
    | [] => fZero
    | x :: l => l.foldl fMax x
  (s1.deResult 137 (fOfNat s.band) false).deResult 138 top hot.isEmpty

/-- PROOF_REPORT: every 250 ms each channel's proof result, current and bound is delivered (R254, R265, R284), and what the die sensors
show (R420). -/
def execProofReport (s : State) : Out :=
  if !s.deOn then .next s
  else
    let s0 := s.advTo (s.act.reportAt + 250000)
    let s1 := { s0 with act.reportAt := s0.now }
    let s2 := (List.range 24).foldl (fun t c =>
      let t1 := t.deResult c (t.iMeasCh c) false
      match t1.gangBase c with
      | none => t1.deResult (24 + c) fZero false
      | some b => if b == c then t1.proofResult b else t1) s1
    let s3 := (List.range 4).foldl (fun t g =>
      (t.deResult (48 + g) (t.limPct g) false).deResult (52 + g) (t.groupI g) false) s2
    .next ((s3.deResult 100 (s3.limPct 4) false).deResult 101 (s3.limPct 5) false).dieResults

/-! ### `VALVE_PROVE` (R262) -/

/-- Answers the `VALVE_PROVE` of a gang that was requested at `since`. -/
def State.answerProve (s : State) (b since r tt : Nat) : State :=
  match s.host.waiting.find? fun w => w.kind == .prove b since with
  | none => s
  | some w =>
    let s1 := { s with host.waiting := s.host.waiting.erase w }
    s1.respond w.hdr stOk 0 ([by8 r, 0#8, 0#8, 0#8] ++ leBytes 4 tt)

/-- The next `VALVE_PROVE` of a gang that waits, when no other of the gang runs its stroke: a gang that is on is first decayed fast,
then one judged stroke runs (R262). -/
def State.proveGo (s : State) (b : Nat) : State :=
  let running := s.act.proves.any fun p => p.gang == b && p.started
  if running || !s.proveWaits b || (s.vlv b).drv.isSome then s
  else match (s.vlv b).st with
  | .off => s.proveNext b
  | .decay => s
  | .defer => if (s.vlv b).why == .prove then s else (s.stopGang b 8).proveNext b
  | _ => s.stopGang b 8

/-- `DE` executes the first `VALVE_PROVE` of a gang that it has not executed yet; one that has been cancelled is no more there. -/
def State.prove (s : State) (b : Nat) : State :=
  let l := changeFirst (fun p => p.gang == b && !p.live) (fun p => { p with live := true }) s.act.proves
  State.proveGo { s with act.proves := l } b

/-- Guard has taken the gang, so `DE` discards the `VALVE_PROVE` (R405): its stroke will not start, which result 2 tells (log 63). -/
def State.proveDrop (s : State) (b : Nat) : State :=
  match s.act.proves.find? fun p => p.gang == b && !p.live with
  | none => s
  | some p =>
    let s1 := { s with act.proves := s.act.proves.erase p }
    if p.answered then s1 else s1.answerProve b p.since 2 0

/-- PROVE_STROKE_RETURN: 50 ms after the pull-in of a `VALVE_PROVE` stroke the gang returns to its command in force and
the response carries the verdict (R262). -/
def execProveStrokeReturn (ch : Fin 24) (s : State) : Out :=
  let b := ch.val
  match s.act.proves.find? fun p => p.gang == b && p.pullEnd.isSome with
  | none => .next s
  | some p =>
    if !s.deOn then .next s
    else
      let s0 := s.advTo (p.pullEnd.getD 0 + 50000)
      let v := s0.vlv b
      let s1 := { s0 with act.proves := s0.act.proves.erase p }
      let s2 := if v.st == .reg && v.why == .prove then
          (let t := s1.reapply b; if fEq v.cmd fZero then t.openGang b false else t)
        else s1
      let ok := v.strokeVerdict == 1 || v.strokeVerdict == 2
      let s3 := if p.answered then s2
        else s2.answerProve b p.since (if ok && v.verdict != 8 then 0 else 1) (match v.peakAt with | some t => t | none => 0)
      .next (s3.proveGo b)

/-- PROVE_DEFER_TIMEOUT: 250 ms after the request its stroke has not started; result 2. The stroke still runs (R262). -/
def execProveDeferTimeout (ch : Fin 24) (s : State) : Out :=
  let b := ch.val
  let late (p : Prove) : Bool := p.gang == b && !p.started && !p.answered
  match s.act.proves.find? late with
  | none => .next s
  | some p =>
    let s0 := s.advTo (p.since + 250000)
    let s1 := { s0 with act.proves := changeFirst late (fun q => { q with answered := true }) s0.act.proves }
    .next (s1.answerProve b p.since 2 0)

/-! ### The pulse unit's commands -/

/-- FIRE: a manual pulse starts into one gang or fan; no effect while `BUSY` or `CFG_ERR` is 1 (R264). The fan part is
`State.firePulse` of the fan bank. -/
def State.fireGang (s : State) (b : Nat) : State :=
  let s3 := ((s.stopGang b 8).pulseFired).requestStroke b false .pulse
  if (s3.vlv b).st == .pullin || (s3.vlv b).st == .defer then s3 else s3.pulseDone 3

end Sys2Proof.Machine
end

