-- ==== Sys2Proof/Machine/Fans.lean ====
section
/-!
DEFINITION. Sys2Proof/Machine/Fans.lean: the fans (R269–R288), the analog outputs (R289–R293) and the critical comparator
(R287, R288) of chapter 10, and the manual pulse unit on either bank (R264).
-/
namespace Sys2Proof.Machine
open Sys2Proof

/-! ### Configuration in force -/

def State.fc (s : State) (n : Nat) (f : Fld) : Nat := s.cf (fanObj n 0x020) f
def State.ppr (s : State) (n : Nat) : Nat := s.fc n Fd.fConf.PPR
/-- The limit group of a fan: 4 for `FAN0`–`FAN5`, 5 for `FAN6`–`FAN11` (R275). -/
def fanGroup (n : Nat) : Nat := 4 + n / 6

/-! ### The stage and its on-time (R272, RUN_S) -/

/-- The stage is on now. -/
def State.fanOn (s : State) (n : Nat) : Bool :=
  let x := s.fan n
  x.stageOn && (match x.pulseEnd with | none => true | some e => decide (s.now < e))

/-- On-time up to now is counted, in µs and in whole seconds for the hot values (Table 14.9). -/
def State.fanCount (s : State) (n : Nat) : State :=
  let x := s.fan n
  let upTo := match x.pulseEnd with | none => s.now | some e => min e s.now
  let more := if x.stageOn then upTo - x.onFrom else 0
  let total := x.onUs + more
  let secs := total / 1000000 - x.onUs / 1000000
  let s1 := s.modFan n fun y => { y with onUs := total, onFrom := max x.onFrom upTo }
  if secs == 0 then s1 else { s1 with rs.hot.fanRun := lmod s1.rs.hot.fanRun n fun v => (v + secs) % 2 ^ 32 }

/-- The stage switches on for a pulse that ends at `e`; one that is on stays on without a break. -/
def State.fanPulse (s : State) (n : Nat) (e : Option Nat) : State :=
  (s.fanCount n).modFan n fun y =>
    if s.fanOn n then { y with pulseEnd := e }
    else { y with stageOn := true, pulseEnd := e, pulseAt := s.now, onFrom := s.now, edgeAt := none }

/-- The stage switches off within LF switching. -/
def State.fanPulseOff (s : State) (n : Nat) : State :=
  (s.fanCount n).modFan n fun y => { y with stageOn := false, pulseEnd := none, edgeAt := none }

/-- A stretch that has reached `STRETCH_MAX_MS` ends and counts (R274); a nominal pulse that has ended is off. -/
def State.fanSettle (s : State) (n : Nat) : State :=
  let x := s.fan n
  let cap := s.fc n Fd.fConf.STRETCH_MAX_MS * 1000
  let s1 := if x.stretch.isSome && s.now ≥ x.strAt + cap && x.pulseEnd.isNone then
      s.modFan n fun y => { y with stretch := none, pulseEnd := some (x.strAt + cap), excess := cap - x.nominal,
                                   stretchFails := sat 16 (y.stretchFails + 1) }
    else s
  if (s1.fan n).stageOn && !s1.fanOn n then s1.fanPulseOff n else s1

/-! ### Duty and the linked output (R293) -/

/-- Duty d of a fan; in `DRIVE` 3 it drives the linked output without slew, which holds its last code while `DE` does not run (R415). -/
def State.setDuty (s : State) (n : Nat) (d : F32) : State :=
  let s1 := s.modFan n fun y => { y with d := d }
  if s.fanDrive n == 3 then
    let k := s.fc n Fd.fConf.AO_LINK
    let v := fAdd (s.aoLow k) (fMul d (fSub fTen (s.aoLow k)))
    s1.modAo k fun y => { y with cmd := v, v := if s.deOn then v else y.v }
  else s1

/-! ### Signature (R277, R278) -/

/-- A learned bin's current. -/
def Fan.binI (x : Fan) (k : Nat) : Option F32 :=
  let b := x.sig.getD (k - 1) (fZero, 0)
  if b.2 ≥ 16 then some b.1 else none

/-- I_ref at a duty (R278); a fan in `DRIVE` 1 runs at duty 1. -/
def Fan.iRef (x : Fan) : Option F32 :=
  let d8 := fMul x.d (fOfNat 8)
  let below := ((List.range 8).map fun j => 8 - j).find? fun k => fLe (fOfNat k) d8 && (x.binI k).isSome
  let above := ((List.range 8).map fun j => j + 1).find? fun k => fLe d8 (fOfNat k) && (x.binI k).isSome
  match below, above with
  | some a, some b =>
    let ia := (x.binI a).getD fZero
    let ib := (x.binI b).getD fZero
    if a == b then some ia
    else some (fAdd ia (fMul (fDiv (fSub d8 (fOfNat a)) (fOfNat (b - a))) (fSub ib ia)))
  | some a, none => if fLe (fSub d8 (fOfNat a)) (fOfNat 2) then x.binI a else none
  | none, some b => if fLe (fSub (fOfNat b) d8) (fOfNat 2) then x.binI b else none
  | none, none => none

/-- `I_ON` in % of I_ref, 0xFFFF unlearned. -/
def refPct (i : F32) (r : Option F32) : Nat :=
  match r with
  | none => 0xFFFF
  | some x => min 0xFFFE (fNatScaled 100 (fDiv i x))

/-- `I_ON` lies within lo–hi % of I_ref. -/
def withinPct (i x : F32) (lo hi : Nat) : Bool := fLe (fMul (pctF lo) x) i && fLe i (fMul (pctF hi) x)

/-! ### Results (R284, R285) -/

/-- The `STATE` code of Table 10.8. -/
def State.fanCode (s : State) (n : Nat) : Nat :=
  let x := s.fan n
  if x.guard.isSome || x.line then 11
  else match x.st with
  | .stall => 5 | .fault => 6 | .ocp => 8 | .ocpLatched => 9
  | st => if !s.powered then 10 else st.code

/-- The proof result: none, a value, or an error entry (Table 10.6). -/
def State.fanProof (s : State) (n : Nat) : Option (F32 × Bool) :=
  let x := s.fan n
  if !s.powered && x.st == .off then some (fZero, true)
  else if s.ppr n == 0 && x.onAt.isSome && (x.st == .running || x.st == .spinup) then
    (match x.iRef with
     | some r => some (x.target, !withinPct x.iOn r 65 135)
     | none => some (x.target, true))
  else match x.st with
  | .off => some (fZero, false)
  | .startWait => none
  | .spinup => none
  | .running => some (x.n, fNotFinite x.n)
  | .tachLost => some (x.n, x.sigDev)
  | _ => some (fZero, true)

/-- The fan's results are delivered; `noSample` marks an interval without a speed sample while on. -/
def State.fanResults (s : State) (n : Nat) (noSample : Bool) : State :=
  let x := s.fan n
  let s1 := if x.onAt.isNone then s.deResult (64 + n) fZero false
    else if noSample then s.deResult (64 + n) x.n true
    else if fNotFinite x.n then s else s.deResult (64 + n) x.n false
  let s2 := s1.deResult (76 + n) x.iOn false
  match s2.fanProof n with
  | none => s2
  | some (v, err) => s2.deResult (88 + n) v err

/-! ### Switching on and off (R269, R271, R276) -/

/-- A manual pulse runs in the fan (R264). -/
def State.pulseOn (s : State) (n : Nat) : Bool := s.act.pulse.busy && s.pulseFan == some n && s.act.pulse.startAt.isSome

/-- A manual pulse that runs or waits in the fan is aborted with its stage, `RESULT` 2 (log 67). -/
def State.pulseCut (s : State) (n : Nat) : State :=
  if s.pulseOn n || (s.act.pulse.busy && s.pulseFan == some n && s.act.fanWait.contains n) then s.pulseDone 2 else s

/-- The supply switches off: state `st`. A manual pulse in the fan ends with it. -/
def State.fanOff (s : State) (n : Nat) (st : FSt) : State :=
  let s1 := ((s.pulseCut n).fanCount n).modFan n fun y =>
    { y with st := st, stageOn := false, pulseEnd := none, onAt := none, kick := false, stretch := none, stretchDue := false,
             excess := 0, bursts := [], iOn := fZero, lrSince := none, openSince := none, backSince := none, edgeAt := none,
             periods := 0, periodSum := 0, missed := 0, runSince := none, steadySince := none, slowSince := none,
             sigDev := false }
  let s2 := { s1 with act.fanWait := s1.act.fanWait.filter (· != n) }
  (if s.fanDrive n == 3 then s2.setDuty n fZero else s2).fanResults n false

/-! ### Targets (R275) -/

/-- f of a fan's group now, in eighths. -/
def State.fanF (s : State) (n : Nat) : Nat := (s.th.lims.getD (fanGroup n) {}).f

/-- The cap of a fan's target for a factor f in eighths: N_MIN + f × (N_MAX − N_MIN). -/
def State.fanCap (s : State) (n f : Nat) : F32 :=
  fAdd (s.fanMin n) (fMul (fOfRat (f : Int) 8) (fSub (s.fanMax n) (s.fanMin n)))

/-- The control point or the comparator asks for full speed (R286, R288). -/
def Fan.forced (x : Fan) : Bool := x.forceCtrl || x.forceCrit

/-- A fan's stage is under direct command. -/
def State.fanDirect (s : State) (n : Nat) : Bool := s.act.direct.any fun d => match d.stage with | .fan k => k.val == n | _ => false

/-- Row 5 of Table 10.3 is the highest row that applies (R275). -/
def State.forcedFull (s : State) (n : Nat) : Bool :=
  let x := s.fan n
  x.forced && !x.line && x.guard.isNone && s.powered && !s.fanDirect n &&
    !(x.st == .stall || x.st == .openLoad || x.st == .ocp || x.st == .ocpLatched || x.faultL)

/-- The target by rows 1 and 4–6 of Table 10.3: value, reduced by the cap, set without a ramp. A command that runs again stays under
the lowest f since it was executed (R32). -/
def State.fanWant (s : State) (n : Nat) : F32 × Bool × Bool :=
  let x := s.fan n
  if x.line then (s.fanMax n, false, true)
  else match x.guard with
  | some g => (g, false, true)
  | none =>
    let full := x.forced && !s.fanDirect n
    let w := if full then s.fanMax n else x.cmd
    let cap := s.fanCap n (if full then s.fanF n else min (s.fanF n) x.capF)
    if fLt cap w then (cap, true, full) else (w, false, full)

/-! ### The speed loop (R276) -/

/-- n_ref moved towards the target by the ramp; rows 1 and 5 of Table 10.3 set it at once. -/
def State.rampRef (s : State) (n : Nat) (dt : F32) : F32 :=
  let x := s.fan n
  let r := s.fc n Fd.fConf.RAMP_RPM_S
  if r == 0 || (s.fanWant n).2.2 then x.target
  else
    let st := fMul (fOfNat r) dt
    if fLt x.nRef x.target then fMin x.target (fAdd x.nRef st) else fMax x.target (fSub x.nRef st)

/-- One run of the loop at a speed sample. A loop that closes again takes no bump: n_ref := n, s := d − d_ff − `KP_SP` × e. -/
def State.speedLoop (s : State) (n : Nat) : State :=
  let x := s.fan n
  let nmax := s.fanMax n
  let dt := fOfRat ((s.now - x.loopAt : Nat) : Int) 1000000
  let kp := s.cff (fanObj n 0x020) Fd.fConf.KP_SP
  let dmin := pctF (s.fc n Fd.fConf.D_MIN_PCT)
  let r := s.rampRef n dt
  if s.ppr n == 0 then
    (s.modFan n fun y => { y with nRef := r, loopAt := s.now, loopOpen := false }).setDuty n (fMin fOne (fMax dmin (fDiv r nmax)))
  else if x.loopOpen then
    s.modFan n fun y => { y with nRef := x.n, s := fSub x.d (fDiv x.n nmax), loopAt := s.now, loopOpen := false }
  else
    let e := fDiv (fSub r x.n) nmax
    let d := fAdd (fAdd (fDiv r nmax) (fMul kp e)) x.s
    let hold := (fLe fOne d && fLt fZero e) || (fLe d dmin && fLt e fZero)
    let i := if hold then x.s else fAdd x.s (fMul (fMul (s.cff (fanObj n 0x020) Fd.fConf.KI_SP) e) dt)
    (s.modFan n fun y => { y with nRef := r, s := i, loopAt := s.now }).setDuty n (fMin fOne (fMax dmin d))

/-- The on-time of one LF period in µs: resolution 0.1 %, 1 ms at least on and off (R272). -/
def lfOn (hz : Nat) (d : F32) : Nat :=
  let p := 1000000 / hz
  let on := fNatScaled 1000 d * p / 1000
  if on < 1000 then 0 else if p - on < 1000 then p else on

/-- An LF period starts now: a stretch that runs goes on, a new one may begin, or excess is repaid (R272, R274). -/
def State.lfStart (s : State) (n : Nat) : State :=
  let hz := s.fc n Fd.fConf.LF_HZ
  let now := s.now
  let s1 := s.modFan n fun y => { y with lfAt := now }
  let x := s1.fan n
  let on := lfOn hz x.d
  if x.stretch.isSome then s1.modFan n fun y => { y with nominal := y.nominal + on }
  else if on == 1000000 / hz then s1.fanPulse n none
  else if on == 0 then s1.fanPulseOff n
  else if x.stretchDue && x.excess == 0 then
    (s1.fanPulse n none).modFan n fun y => { y with stretch := some 0, nominal := on, stretchDue := false, strAt := now }
  else
    let cut := min x.excess (on / 2)
    let len := on - cut
    if len < 1000 then (s1.fanPulseOff n).modFan n fun y => { y with excess := y.excess - min y.excess on }
    else (s1.fanPulse n (some (now + len))).modFan n fun y => { y with excess := y.excess - cut }

/-! ### Starting (R269, R271, R276) -/

/-- n_ref at the start of the loop: the latest speed sample, or 0. -/
def Fan.startRef (x : Fan) : F32 := if fNotFinite x.n then fZero else x.n

/-- The loop starts with s = 0, n_ref at the latest speed sample; without tachometer its duty is the feedforward value at once (R270),
and in `DRIVE` 2 an LF period begins. -/
def State.loopStart (s : State) (n : Nat) : State :=
  let w := s.fanWant n
  let s1 := s.modFan n fun y => { y with kick := false, s := fZero, nRef := if w.2.2 then y.target else y.startRef, loopAt := s.now }
  let s2 := if s1.ppr n == 0 && s1.fanDrive n ≥ 2 then s1.speedLoop n else s1
  if s2.fanDrive n == 2 then s2.lfStart n else s2

/-- The intervals of the fan hold a stretched on-time (R274). -/
def State.stretches (s : State) (n : Nat) : Bool := s.fanDrive n == 2 && s.ppr n != 0

/-- The stage switches on from off: the kick and spin-up begin (R276, R279). A manual pulse holds it fully on from its start (R264). -/
def State.switchOn (s : State) (n : Nat) : State :=
  let q := s.act.pulse
  let kick := s.fc n Fd.fConf.KICK_MS != 0 || (q.busy && s.pulseFan == some n && q.startAt.isNone)
  let s1 := s.modFan n fun y =>
    { y with st := .spinup, onAt := some s.now, stageOn := true, pulseAt := s.now, onFrom := s.now, lfAt := s.now,
             spinAt := s.now, kick := kick, nRef := y.startRef, s := fZero, loopAt := s.now, loopOpen := false,
             bursts := [], iOn := fZero, lrSince := none, openSince := none, backSince := none, edgeAt := none,
             edgeSeen := false, periods := 0, periodSum := 0, ivAt := s.now, stretchDue := s.stretches n, stretch := none,
             nominal := 0, excess := 0, pulseEnd := none, missed := 0, runSince := none,
             steadySince := if s.ppr n == 0 then some s.now else none, slowSince := some s.now, sigDev := false }
  let s2 := s1.setDuty n fOne
  let s3 := if kick then s2 else s2.loopStart n
  let p := s3.act.pulse
  let s4 := if p.busy && s3.pulseFan == some n && p.startAt.isNone then
      { s3 with act.pulse := p.begin s.now }
    else s3
  s4.fanResults n false

/-- While `FAULT` is latched a non-zero target switches the stage on at the duty held (R281). -/
def State.resumeFault (s : State) (n : Nat) : State :=
  let s1 := s.modFan n fun y =>
    { y with st := .fault, onAt := some s.now, stageOn := true, pulseEnd := none, pulseAt := s.now, onFrom := s.now, edgeAt := none,
             periods := 0, periodSum := 0, ivAt := s.now, lfAt := s.now, stretchDue := s.stretches n }
  let s2 := s1.setDuty n (s.fan n).dHeld
  (if s2.fanDrive n == 2 then s2.lfStart n else s2).fanResults n false

/-- The supply of a fan that may start switches on. -/
def State.fanGo (s : State) (n : Nat) : State := if (s.fan n).faultL then s.resumeFault n else s.switchOn n

/-- The peak budget leaves room for 4 A of inrush (R271). -/
def State.fanRoom (s : State) : Bool := s.valveCharge + s.fansCharge + 4000 ≤ 30000

/-- A fan is to start: at once when it is first and the budget allows it, otherwise it waits (R271). -/
def State.fanStart (s : State) (n : Nat) : State :=
  if !s.powered || !s.deOn || s.fanDrive n == 0 then s
  else if s.act.fanWait.isEmpty && s.fanRoom then s.fanGo n
  else
    let s1 := s.modFan n fun y => { y with st := .startWait, waitAt := s.now }
    State.fanResults { s1 with act.fanWait := s1.act.fanWait ++ [n] } n false

/-- FAN_START: the first waiting fan starts once the budget leaves room (R271). -/
def execFanStart (s : State) : Out :=
  match s.act.fanWait with
  | [] => .next s
  | n :: rest =>
    if !s.deOn || !s.powered || !s.fanRoom then .next s
    else
      let x := s.fan n
      let s1 := { s with act.fanWait := rest }
      let ms := (s.now - x.waitAt) / 1000
      let s2 := if x.waitLog then s1 else (s1.modFan n fun y => { y with waitLog := true }).raise prDE evFanStartWait n ms
      .next (s2.fanGo n)

/-- The stall back-off and `RETRIES` reset (R280). -/
def State.backoffReset (s : State) (n : Nat) : State := s.modFan n fun y => { y with backoff := 0, retries := 0 }

/-- The state that a fan keeps while its stage is off for another reason: a wait or a latch in force stays (R275). -/
def Fan.heldSt (x : Fan) : FSt :=
  match x.st with
  | .stall => .stall
  | .ocp => .ocp
  | .ocpLatched => .ocpLatched
  | _ => if x.faultL then .fault else .off

/-- The target in force reaches the fan; `cmd` says that a command brings it (R62, R276, R280, R281). A stage that its override line
forces is left to the line (R19), and in the Shunting of a cold start no fan starts without its line (Table 16.4). A manual pulse goes
on, and the stage follows its target after it, but a take of Guard's ends it (log 67). -/
def State.fanApply (s : State) (n : Nat) (t : F32) (clamped forced cmd : Bool) : State :=
  let x := s.fan n
  let s1 := s.modFan n fun y =>
    { y with target := t, clamped := clamped, awaitCmd := y.awaitCmd && !cmd,
             nRef := if forced && y.onAt.isSome then t else y.nRef,
             steadySince := if s.ppr n == 0 && !fEq t y.target then some s.now else y.steadySince }
  if x.line then s1
  else if s.pulseOn n && x.guard.isNone then s1
  else
  let s1 := if s.pulseOn n then s1.fanOff n .off else s1
  let x := s1.fan n
  if fEq t fZero then
    let s2 := s1.backoffReset n
    match x.st with
    | .off => s2
    | .ocp => s2
    | .ocpLatched => s2
    | _ => s2.fanOff n (if x.faultL then .fault else .off)
  else match x.st with
  | .off => if (x.awaitCmd && !cmd) || (s.mn.cold && s.mn.mode == .shunting) then s1 else s1.fanStart n
  | .fault => if x.onAt.isSome || (x.awaitCmd && !cmd) then s1 else s1.fanStart n
  | _ => s1

/-- The target of a fan is decided afresh; a command is executed against the f of this moment (R32). -/
def State.fanRetarget (s : State) (n : Nat) (cmd : Bool) : State :=
  if s.fanDrive n == 0 then s
  else
    let s1 := if cmd then s.modFan n fun y => { y with capF := s.fanF n } else s
    let w := s1.fanWant n
    s1.fanApply n w.1 w.2.1 w.2.2 cmd

/-- The fan is stopped before another `DRIVE`, `PPR` or `AO_LINK` takes effect (R295). With `DRIVE` set to 0 the supply is off (Table 10.1)
whatever `SAFE_RPM` holds: the safe speed of R294 has no stage left to run (log 68). -/
def State.fanStop (s : State) (n : Nat) : State :=
  let s1 := s.modFan n fun y => { y with cmd := fZero }
  if (s.fan n).line then s1 else s1.fanApply n fZero false false true

/-- f of a fan group has been lowered: targets above the cap come down at once; a raise waits for the next command. -/
def State.capFans (s : State) (g : Nat) : State :=
  ((List.range 6).map (6 * (g - 4) + ·)).foldl (fun t n =>
    let x := t.fan n
    let cap := t.fanCap n (t.fanF n)
    let t1 := t.modFan n fun y => { y with capF := min y.capF (t.fanF n) }
    if x.guard.isNone && !x.line && fLt cap x.target then
      t1.modFan n fun y => { y with target := cap, clamped := true, steadySince := if t.ppr n == 0 then some t.now else y.steadySince }
    else t1) s

/-- KICK_END: the full-on kick ends and the speed loop starts with s = 0 (R276). -/
def execKickEnd (n : Fin 12) (s : State) : Out :=
  let x := s.fan n.val
  match x.onAt with
  | none => .next s
  | some t =>
    if !x.kick || !s.deOn || s.pulseOn n.val then .next s
    else
      .next ((s.advTo (t + s.fc n.val Fd.fConf.KICK_MS * 1000)).loopStart n.val)

/-! ### Stalls and judgements (R279–R283) -/

/-- A native `STALL` with its cause: the supply switches off and the wait starts (R280). -/
def State.stall (s : State) (n cause : Nat) : State :=
  let x := s.fan n
  let j := x.backoff + 1
  let wait := min (5 * 2 ^ (min j 7 - 1)) 300
  let s1 := s.modFan n fun y => { y with stallCause := cause, stalls := sat 16 (y.stalls + 1), backoff := j,
                                         waitEnd := s.now + wait * 1000000, waitLeft := none }
  let s2 := { s1 with rs.hot.fanStalls := lmod s1.rs.hot.fanStalls n fun v => (v + 1) % 2 ^ 32 }
  (s2.raise prDE evFanStall n (sat 16 x.retries * 65536 + cause)).fanOff n .stall

/-- `DE` judges the fan: it runs and no override line holds it (R294). -/
def State.fanJudged (s : State) (n : Nat) : Bool := s.deOn && s.powered && !(s.fan n).line && (s.fan n).onAt.isSome

/-- FAN_LOCKED_ROTOR: `I_ON` at or above `I_LR_MA` for 500 ms in spin-up (R279). -/
def execFanLockedRotor (n : Fin 12) (s : State) : Out :=
  let x := s.fan n.val
  match x.lrSince with
  | none => .next s
  | some t =>
    if s.native && s.fanJudged n.val && x.st == .spinup && t + 500000 ≤ x.spinAt + 3000000 then
      .next ((s.advTo (t + 500000)).stall n.val 1)
    else .next s

/-- FAN_NO_EDGE: no edge accepted within 3 s of switch-on (R279). -/
def execFanNoEdge (n : Fin 12) (s : State) : Out :=
  let x := s.fan n.val
  if s.native && s.fanJudged n.val && x.st == .spinup && s.ppr n.val != 0 && !x.edgeSeen then
    .next ((s.advTo (x.spinAt + 3000000)).stall n.val 2)
  else .next s

/-- Spin-up ends: `RUNNING`. -/
def State.toRunning (s : State) (n rpm : Nat) : State :=
  (s.modFan n fun y => { y with st := .running, runSince := some s.now }).raise prDE evFanRunning n rpm

/-- FAN_SPINUP_END: a fan without tachometer has spun up for 3 s without a stall (R279). -/
def execFanSpinupEnd (n : Fin 12) (s : State) : Out :=
  let x := s.fan n.val
  if s.fanJudged n.val && x.st == .spinup && s.ppr n.val == 0 then
    let s0 := s.advTo (x.spinAt + 3000000)
    .next ((s0.freeNext.toRunning n.val (Config.free s0.freeCtr % 2 ^ 32)).fanResults n.val false)
  else .next s

/-- A stalled fan starts again after a wait of `wait` s: `RETRIES` increments and `FAN_RETRY` is logged (R280). -/
def State.fanRetry (s : State) (n wait : Nat) : State :=
  let r := sat 16 ((s.fan n).retries + 1)
  let s1 := (s.modFan n fun y => { y with retries := r, st := .off }).raise prDE evFanRetry n (r * 65536 + wait)
  s1.fanStart n

/-- The wait of the stall in force, s. -/
def Fan.stallWait (x : Fan) : Nat := min (5 * 2 ^ (min x.backoff 7 - 1)) 300

/-- FAN_RETRY: a stall wait ends and the fan starts again (R280). -/
def execFanRetry (n : Fin 12) (s : State) : Out :=
  let x := s.fan n.val
  if s.deOn && s.powered && s.native && x.st == .stall && !x.line && !fEq x.target fZero then
    .next ((s.advTo x.waitEnd).fanRetry n.val x.stallWait)
  else .next s

/-- FAN_BACKOFF_RESET: 60 s of continuous `RUNNING` (R280); while an override line holds the fan its timer pauses (R294). -/
def execFanBackoffReset (n : Fin 12) (s : State) : Out :=
  match (s.fan n.val).runSince with
  | none => .next s
  | some t =>
    if s.deOn && (s.fan n.val).st == .running && !(s.fan n.val).line then .next ((s.advTo (t + 60000000)).backoffReset n.val)
    else .next s

/-- FAN_FAULT: in Profile L the speed has stayed below `N_LIMIT_RPM` for 5 s (R281). -/
def execFanFault (n : Fin 12) (s : State) : Out :=
  let x := s.fan n.val
  match x.slowSince with
  | none => .next s
  | some t =>
    if !s.native && s.fanJudged n.val && s.ppr n.val != 0 && !x.faultL && !fEq x.target fZero then
      let s0 := s.advTo (t + 5000000)
      let s1 := s0.modFan n.val fun y => { y with st := .fault, faultL := true, dHeld := y.d, loopOpen := true, runSince := none }
      .next ((s1.raise prDE evFanFault n.val (fNatScaled 1 x.n)).fanResults n.val true)
    else .next s

/-- The response code of `FAN_CLEAR` (R282). -/
def Fan.clearCode (x : Fan) : Nat := if x.faultL then 1 else if x.st == .stall then 2 else 0

/-- The oldest `FAN_CLEAR` of a fan that waits is answered. -/
def State.answerClear (s : State) (n status : Nat) (data : List Byte) : State :=
  match s.host.waiting.find? fun w => w.kind == .clear n with
  | none => s
  | some w => State.respond { s with host.waiting := s.host.waiting.erase w } w.hdr status 0 data

/-- What a `FAN_CLEAR` does (R282). -/
def State.fanClearDo (s : State) (n : Nat) : State :=
  let x := s.fan n
  if x.faultL then
    let s1 := s.modFan n fun y => { y with faultL := false }
    let s2 := if x.st == .fault && !x.line then
        (let t := s1.fanOff n .off; if fEq x.target fZero then t else t.fanStart n)
      else if x.st == .fault then s1.modFan n fun y => { y with st := .running }
      else s1
    s2.raise prDE evFanCleared n 1
  else if x.st == .stall then
    let s1 := s.backoffReset n
    let s2 := if s.deOn && s.powered && !x.line then s1.fanRetry n x.stallWait else s1.modFan n fun y => { y with waitEnd := s.now }
    s2.raise prDE evFanCleared n 2
  else s.raise prDE evFanCleared n 0

/-- `DE` executes a `FAN_CLEAR` and it is answered with the code that `FAN_CLEARED` carries; while Guard has the fan it clears nothing and
is refused (R140, R405). -/
def State.fanClear (s : State) (n : Nat) : State :=
  if (s.fan n).guard.isSome then s.answerClear n stDenied []
  else (s.fanClearDo n).answerClear n stOk [by8 (s.fan n).clearCode, 0#8, 0#8, 0#8]

/-- What a judgement without a speed sample, or a low current, finds (Table 10.4). -/
inductive TachVerdict where
  | same | lost | dev | openLoad | stall
  deriving DecidableEq, Repr

/-- The judgement of R283 on the mean `I_ON` of the last two intervals. -/
def State.tachVerdict (s : State) (n : Nat) : TachVerdict :=
  let x := s.fan n
  let i := x.missI
  match x.iRef with
  | some r =>
    if fLt (fMul (pctF 180) r) i then .stall
    else if fLt i (fMul (pctF 10) r) then .openLoad
    else if withinPct i r 65 135 then .lost
    else .dev
  | none =>
    if fLe (mAmp (s.fc n Fd.fConf.I_LR_MA)) i then .stall
    else if fLt i (mAmp (s.fc n Fd.fConf.OPEN_MA)) then .openLoad
    else .dev

/-- A fan enters `OPEN_LOAD`: the stage stays on at the held duty (Table 10.4). -/
def State.toOpenLoad (s : State) (n : Nat) (i : F32) : State :=
  ((s.modFan n fun y => { y with st := .openLoad, loopOpen := true, runSince := none, backSince := none }).raise
    prDE evFanOpenLoad n (sat 16 (toMa i))).fanResults n true

/-- A fan is in `TACH_LOST`, with or without `SIG_DEV`; only a change is logged (R283). -/
def State.toTachLost (s : State) (n : Nat) (dev : Bool) : State :=
  let x := s.fan n
  if x.st == .tachLost && x.sigDev == dev then s
  else
    let arg := sat 16 (toMa x.missI) * 65536 + refPct x.missI x.iRef
    let s1 := s.modFan n fun y => { y with st := .tachLost, sigDev := dev, loopOpen := true, runSince := none }
    (s1.raise prDE (if dev then evFanSigDev else evFanTachLost) n arg).fanResults n true

/-- FAN_TACH_JUDGE: two intervals without a speed sample are judged from the current signature, and `I_ON` below `OPEN_MA`
for 500 ms after the inrush window (R283). -/
def execFanTachJudge (n : Fin 12) (s : State) : Out :=
  let x := s.fan n.val
  let open_ := match x.openSince with | none => false | some t => decide (t + 500000 ≤ s.now)
  if !s.fanJudged n.val || x.faultL then .next s
  else if open_ && x.st != .openLoad then .next (s.toOpenLoad n.val x.iOn)
  else if s.native && s.ppr n.val != 0 && x.missed ≥ 2 && (x.st == .running || x.st == .tachLost) then
    match s.tachVerdict n.val with
    | .stall => .next (s.stall n.val 3)
    | .openLoad => .next (s.toOpenLoad n.val x.missI)
    | .lost => .next (s.toTachLost n.val false)
    | .dev => .next (s.toTachLost n.val true)
    | .same => .next s
  else match x.openSince with
  | none => .next s
  | some t => if x.st == .openLoad then .next s else .next ((s.advTo (t + 500000)).toOpenLoad n.val x.iOn)

/-- FAN_OPEN_LOAD_END: `I_ON` at or above 2 × `OPEN_MA` for 1 s; spin-up restarts without a switch-off (Table 10.4). -/
def execFanOpenLoadEnd (n : Fin 12) (s : State) : Out :=
  let x := s.fan n.val
  match x.backSince with
  | none => .next s
  | some t =>
    if s.fanJudged n.val && x.st == .openLoad then
      let s0 := s.advTo (t + 1000000)
      .next ((s0.modFan n.val fun y =>
        { y with st := .spinup, spinAt := s0.now, edgeSeen := false, edgeAt := none, lrSince := none, missed := 0,
                 openSince := none, backSince := none }).fanResults n.val false)
    else .next s

/-- FAN_OCP: a trip of R269 switches the stage off; the third within 60 s latches it off (R283). -/
def execFanOcp (n : Fin 12) (s : State) : Out :=
  let x := s.fan n.val
  if x.onAt.isNone then .next s
  else
    let trips := s.now :: (x.trips.filter fun t => s.now - t < 60000000)
    let total := sat 16 (x.ocpTrips + 1)
    let s0 := if s.act.pulse.busy && s.pulseFan == some n.val then s.pulseDone 3 else s
    let s1 := s0.modFan n.val fun y => { y with trips := trips, ocpTrips := total }
    let s2 := (s1.raise prDE evFanOcp n.val trips.length).fanOff n.val (if trips.length ≥ 3 then .ocpLatched else .ocp)
    .next (if trips.length ≥ 3 then s2.raise prDE evFanOcpLatched n.val total else s2)

/-- FAN_OCP_RESTART: 5 s after the trip a fan with a non-zero target starts again (R283). -/
def execFanOcpRestart (n : Fin 12) (s : State) : Out :=
  let x := s.fan n.val
  match x.trips with
  | [] => .next s
  | t :: _ =>
    if !s.deOn || !s.powered || x.st != .ocp || x.line || fEq x.target fZero then .next s
    else .next (((s.advTo (t + 5000000)).modFan n.val fun y => { y with st := if y.faultL then .fault else .off }).fanStart n.val)

/-! ### Speed samples (R273, R277, R283) -/

/-- The signature bin of a fan's duty; none below bin 1. -/
def State.sigBin (s : State) (n : Nat) : Option Nat :=
  let k := if s.fanDrive n == 1 then 8 else fNatScaled 8 (s.fan n).d
  if k == 0 || k > 8 then none else some k

/-- Bins learned. -/
def Fan.learned (x : Fan) : Nat := (x.sig.filter fun b => b.2 ≥ 16).length

/-- A bin learns from `I_ON` (R277). -/
def State.learn (s : State) (n : Nat) : State :=
  let x := s.fan n
  let old (o : Option Nat) : Bool := match o with | none => false | some t => decide (s.now - t ≥ 5000000)
  if x.st == .running && old x.runSince && old x.steadySince then
    match s.sigBin n with
    | none => s
    | some k =>
      let b := x.sig.getD (k - 1) (fZero, 0)
      let i := if b.2 == 0 then x.iOn else fAdd b.1 (fDiv (fSub x.iOn b.1) (fOfNat 16))
      let s1 := s.modFan n fun y => { y with sig := lset y.sig (k - 1) (i, sat 8 (b.2 + 1)) }
      if b.2 == 15 then s1.raise prDE evFanSigSave n ((s1.fan n).learned * 256 + 1) else s1
  else s

/-- 3,600 s of running save the signature (R277). -/
def State.sigClock (s : State) (n ms : Nat) : State :=
  let x := s.fan n
  if x.st != .running then s
  else if x.sigRun + ms ≥ 3600000 then
    (s.modFan n fun y => { y with sigRun := x.sigRun + ms - 3600000 }).raise prDE evFanSigSave n (x.learned * 256 + 2)
  else s.modFan n fun y => { y with sigRun := x.sigRun + ms }

/-- A speed sample `v` rpm: it ends `SIG_DEV` whatever state the fan has passed through since (R283). -/
def State.speedSample (s : State) (n : Nat) (v : F32) : State :=
  let rpm := fNatScaled 1 v
  let x := s.fan n
  let near := fLe (fAbs (fSub v x.target)) (fMul (pctF 5) x.target)
  let slow := fLt v (fOfNat (s.fc n Fd.fConf.N_LIMIT_RPM))
  let steady := if near then (if x.steadySince.isSome then x.steadySince else some s.now) else none
  let s1 := s.modFan n fun y =>
    { y with n := v, missed := 0, steadySince := steady, sigDev := false,
             slowSince := if slow then (if y.slowSince.isSome then y.slowSince else some s.now) else some s.now }
  let s2 := match x.st with
    | .spinup => s1.toRunning n rpm
    | .tachLost =>
      (s1.modFan n fun y => { y with st := .running, runSince := some s.now }).raise prDE evFanTachBack n rpm
    | _ => s1
  let s3 := if (s2.fan n).st == .running && !x.kick && s2.fanDrive n ≥ 2 && !x.line then s2.speedLoop n else s2
  (s3.learn n).fanResults n false

/-- An interval without a speed sample: it counts when its pulse was stretched or the stage was on throughout (R283). -/
def State.noSample (s : State) (n : Nat) : State :=
  let x := s.fan n
  let seen := s.fanDrive n != 2 || (x.stageOn && x.pulseEnd.isNone) || !x.stretchDue
  let s1 := s.modFan n fun y =>
    { y with missed := if seen then y.missed + 1 else 0, missI := fDiv (fAdd y.prevI y.iOn) (fOfNat 2), prevI := y.iOn,
             steadySince := y.steadySince }
  let s2 := if s.ppr n == 0 then
      (let t := if !x.kick && s.fanDrive n ≥ 2 && x.st != .openLoad then s1.speedLoop n else s1; t.learn n)
    else s1
  s2.fanResults n true

/-- FAN_SPEED_SAMPLE: at the end of a `SPEED_MS` interval `DE` forms a speed sample, runs the loop and learns (R273, R276,
R277). -/
def execFanSpeedSample (n : Fin 12) (s : State) : Out :=
  let x := s.fan n.val
  let ms := s.fc n.val Fd.fConf.SPEED_MS
  if !s.deOn || s.fanDrive n.val == 0 then .next s
  else
    let s0 := (s.advTo (x.ivAt + ms * 1000)).fanSettle n.val
    let now := s0.now
    let next (t : State) : State := t.modFan n.val fun y =>
      { y with ivAt := now, periods := 0, periodSum := 0, stretchDue := y.onAt.isSome && s.stretches n.val }
    let speed := fOfRat ((60000000 * x.periods : Nat) : Int) (s.ppr n.val * x.periodSum)
    let seen := x.periods != 0 && s.ppr n.val != 0
    if x.onAt.isNone then .next (next (s0.fanResults n.val false))
    else if x.line then
      .next (next ((s0.modFan n.val fun y => { y with n := if seen then speed else y.n }).fanResults n.val (!seen)))
    else
      let s1 := s0.sigClock n.val ms
      if seen then .next (next (s1.speedSample n.val speed))
      else .next (next (s1.noSample n.val))

/-! ### LF switching and the tachometer (R272–R274) -/

/-- LF_PERIOD: an LF period starts (R272, R274). -/
def execLfPeriod (n : Fin 12) (s : State) : Out :=
  let x := s.fan n.val
  if !s.deOn || s.fanDrive n.val != 2 || x.onAt.isNone || x.kick || x.line then .next s
  else .next (((s.advTo (x.lfAt + 1000000 / s.fc n.val Fd.fConf.LF_HZ)).fanSettle n.val).lfStart n.val)

/-- TACH_EDGE: an accepted rising edge opens or closes a tach period; the second edge of a stretched pulse ends it (R273,
R274). -/
def execTachEdge (n : Fin 12) (s : State) : Out :=
  let k := n.val
  let s0 := s.fanSettle k
  let x := s0.fan k
  if !s0.deOn || s.ppr k == 0 || !s0.fanOn k || s0.now < x.pulseAt + s.fc k Fd.fConf.TACH_BLANK_US then .next s0
  else
    let now := s0.now
    let s1 := s0.modFan k fun y => match y.edgeAt with
      | none => { y with edgeAt := some now, edgeSeen := true }
      | some t => { y with edgeAt := some now, edgeSeen := true, periods := y.periods + 1, periodSum := y.periodSum + (now - t) }
    match x.stretch with
    | none => .next s1
    | some e =>
      if e + 1 < 2 then .next (s1.modFan k fun y => { y with stretch := some (e + 1) })
      else if now < x.strAt + x.nominal then
        .next (s1.modFan k fun y => { y with stretch := none, excess := 0, pulseEnd := some (x.strAt + x.nominal) })
      else
        let s2 := s1.modFan k fun y => { y with stretch := none, excess := (now - x.strAt) - x.nominal }
        .next (s2.fanPulseOff k)

/-! ### Currents (R269) -/

/-- A current burst of a fan stage: `I_ON` and the times it has crossed its levels since (R269, R279, R283). A manual pulse chops at its
limit: the stage is off from a burst at or above it to the next below it (R264; log 67). A stage that its override line forces is not
chopped (R19). -/
def State.fanBurst (s : State) (n : Nat) (i : F32) : State :=
  let x := s.fan n
  match x.onAt with
  | none => s
  | some t =>
    if !s.fanOn n && !s.pulseOn n then s
    else
      let win := s.fc n Fd.fConf.SPEED_MS * 1000
      let b := ((s.now, i) :: x.bursts).filter fun p => s.now - p.1 ≤ win
      let m := meanOf (b.map (·.2))
      let open_ := mAmp (s.fc n Fd.fConf.OPEN_MA)
      let keep (c : Bool) (o : Option Nat) : Option Nat := if c then (if o.isSome then o else some s.now) else none
      let s1 := s.modFan n fun y =>
        { y with bursts := b, iOn := m, lrSince := keep (fLe (mAmp (s.fc n Fd.fConf.I_LR_MA)) m) y.lrSince,
                 openSince := keep (s.now ≥ t + 500000 && fLt m open_) y.openSince,
                 backSince := keep (y.st == .openLoad && fLe (fMul (fOfNat 2) open_) m) y.backSince }
      if s1.pulseOn n then
        let p := s1.act.pulse
        let high := fLe (mAmp p.lim) i
        let hit := p.ttp == 0xFFFF && high
        let s2 := if hit then { s1 with act.pulse := { p with ttp := sat 16 (s.now - p.startAt.getD s.now) } } else s1
        let s3 := s2.pulseSample i
        if x.line then s3
        else if high then s3.fanPulseOff n else if s3.fanOn n then s3 else s3.fanPulse n none
      else s1

/-- SAR_BURST_DONE: a burst ends and its mean goes to the pair's data register (R181, R183); a pull-in trace and a fan burst are read
at once, and discarded when flagged `MUXSETTLE` (R182). -/
def execSarBurstDone (pair : Fin 6) (sum : Fin 16777216) (s : State) : Out :=
  match (s.se.sar.getD pair.val {}).busy with
  | none => .next s
  | some b =>
    if !s.deOn then .next s
    else
      let s1 := (s.advTo b.endAt).sarStore pair.val sum.val
      let x := s1.se.sar.getD pair.val {}
      let i := sarAmp pair.val x.avg x.data
      match b.use with
      | .centre => .next s1
      | .pullIn =>
        let s2 := s1.sarRead pair.val
        .next (if x.mux || pair.val ≥ 4 then s2 else s2.traceBurst (6 * pair.val + b.point) i)
      | .fan =>
        let s2 := s1.sarRead pair.val
        .next (if x.mux || pair.val < 4 then s2 else s2.fanBurst (6 * (pair.val - 4) + b.point) i)

/-! ### Forced full speed (R286, R288) -/

/-- The stage that actuator input `i` of zone `z` names; none when the input is not used. -/
def State.inputStage (s : State) (z i : Nat) : Option Stage :=
  let o := znObj z 0x040
  Stage.of (s.cf o (inpFld Fd.znAct.A_CLASS0 i)) (s.cf o (inpFld Fd.znAct.A_INST0 i))

/-- The zone and input that name a stage. -/
def State.stageInput (s : State) (st : Stage) : Option (Nat × Nat) :=
  ((List.range 32).flatMap fun z => (List.range 4).map fun i => (z, i)).find? fun p => s.inputStage p.1 p.2 == some st

/-- `A_LOOP`: the loop that drives an input of a zone. -/
def State.inputLoop (s : State) (z i : Nat) : Option Nat :=
  (s.zoneLoops z).find? fun k =>
    s.cf (lpObj k 0x020) Fd.loopConf.OUT_DST == 1 && s.cf (lpObj k 0x020) Fd.loopConf.OUT_INPUT == i

/-- The control point of a fan (R286). -/
def State.ctrlPt (s : State) (n : Nat) : Option Nat :=
  let c := s.fc n Fd.fConf.CTRL_PT
  let p :=
    if c != 0xFE then c
    else if h : n < 12 then
      match s.stageInput (.fan ⟨n, h⟩) with
      | none => 0xFF
      | some (z, i) =>
        (match s.inputLoop z i with
         | none => 0xFF
         | some k => s.cf (lpObj k 0x020) Fd.loopConf.PV_PT)
    else 0xFF
  if p < 160 then some p else none

/-- At t0 `SB` checks the control points (R286). -/
def State.ctrlCheck (s : State) : State :=
  if !s.zonesRun then s
  else (List.range 12).foldl (fun (t : State) n =>
    let st : Option PStat := (t.ctrlPt n).map fun p => (t.pt p).stat
    let bad := st == some .bad || st == some .stale
    t.modFan n fun y => { y with ctrlBad := if bad then (if y.ctrlBad.isSome then y.ctrlBad else some t.now) else none,
                                 ctrlGood := st == some .good }) s

/-- FAN_CTRL_FAIL: at a t0 the control point has been `BAD` or `STALE` for `CTRL_FAIL_S`; `SB` forces full speed (R286). -/
def execFanCtrlFail (n : Fin 12) (s : State) : Out :=
  let x := s.fan n.val
  match x.ctrlBad, s.ctrlPt n.val with
  | some t, some p =>
    if s.zonesRun && !x.ctrlSent && s.fanDrive n.val != 0 && s.per.t0 ≥ t + s.fc n.val Fd.fConf.CTRL_FAIL_S * 1000000 then
      let s1 := (s.modFan n.val fun y => { y with ctrlSent := true }).postCmd 1 { stage := .fan n, act := .force true }
      .next (s1.sbEvent evFanForcedFull n.val (0x100 + p))
    else .next s
  | _, _ => .next s

/-- FAN_FORCE_END: the control point was `GOOD` at the last t0 (R286). -/
def execFanForceEnd (n : Fin 12) (s : State) : Out :=
  let x := s.fan n.val
  match s.ctrlPt n.val with
  | none => .next s
  | some _ =>
    if s.zonesRun && x.ctrlSent && x.ctrlGood then
      let s1 := (s.modFan n.val fun y => { y with ctrlSent := false, ctrlBad := none }).postCmd 1 { stage := .fan n, act := .force false }
      .next (s1.sbEvent evFanForceEnd n.val 0x100)
    else .next s

/-- The comparator forces the fan: `DRIVE` is set, and `CRIT_FULL`. -/
def State.critFan (s : State) (n : Nat) : Bool := s.act.critOn && s.fanDrive n != 0 && s.fc n Fd.fConf.CRIT_FULL == 1

/-- A fan follows the comparator (R288): the force begins as a command of `DE`'s own, and ends at release. -/
def State.critFollowFan (s : State) (n : Nat) : State :=
  let want := s.critFan n
  if want == (s.fan n).forceCrit then s
  else
    let s1 := (s.modFan n fun y => { y with forceCrit := want }).fanRetarget n want
    if want then s1.raise prDE evFanForcedFull n 0x2FF else s1.raise prDE evFanForceEnd n 0x200

/-- `DE` reads the comparator while it runs: it logs the change and forces or frees the fans (R288). -/
def State.critFollow (s : State) : State :=
  if !s.deOn then s
  else
    let s1 := if s.act.critOn == s.act.critSeen then s
      else State.raise { s with act.critSeen := s.act.critOn } prDE (if s.act.critOn then evCritTrip else evCritClear) 0 s.act.critC
    (List.range 12).foldl State.critFollowFan s1

/-- CRIT_CLEAR: the sensor has fallen 10 °C below the threshold; the pin is released and the force ends (R287, R288). -/
def execCritClear (s : State) : Out :=
  if !s.act.critOn then .next s else .next (State.critFollow { s with act.critOn := false })

/-! ### Analog outputs (R289–R292) -/

/-- An output of the device: its code rounds to 2.5 mV (R289). -/
def aoCode (v : F32) : Nat := min 4000 (fNatScaled 400 v)

/-- A command reaches an output: it is driven at once, or slews in steps of 1 ms (R289); a linked output obeys its fan
only (R293), and `DE` must run (R16, R415). -/
def State.aoCmd (s : State) (n : Nat) (v : F32) : State :=
  if (s.aoLink n).isSome || !s.deOn then s
  else
    let slew := s.cff (aoObj n 0x020) Fd.aConf.SLEW_V_S
    s.modAo n fun y => { y with cmd := v, v := if fEq slew fZero || !y.enabled then v else y.v }

/-- The readback is off the value being driven by more than `FAULT_MV`, slewing or not (R291). -/
def State.aoOff (s : State) (n mv : Nat) : Bool :=
  let y := s.ao n
  y.enabled && fLt (mAmp (s.cf (aoObj n 0x020) Fd.aConf.FAULT_MV)) (fAbs (fSub (mAmp mv) y.v))

/-- The readback differs from the value being driven, after slewing, by more than `FAULT_MV` (R291). -/
def State.aoDiffers (s : State) (n mv : Nat) : Bool := fEq (s.ao n).v (s.ao n).cmd && s.aoOff n mv

/-- One readback of an output that drives `v`: since when it differs after slewing, or lies within the limit; the time within the limit
begins anew after every readback that is off, slewing or not (R291). -/
def State.aoRead (s : State) (n : Nat) (v : F32) (mv : Nat) : State :=
  let s1 := s.modAo n fun x => { x with v := v, meas := mAmp mv }
  let bad := s1.aoDiffers n mv
  let off := s1.aoOff n mv
  s1.modAo n fun x => { x with devSince := if bad then x.devSince.or (some s.now) else none,
                                okSince := if off then none else x.okSince.or (some s.now) }

/-- AO_SLEW_STEP: each ms `DE` moves a slewing output and reads every output back (R289, R291); the readback is delivered
every 100 ms (R284). -/
def execAoSlewStep (n : Fin 16) (mv : Fin 65536) (s : State) : Out :=
  let k := n.val
  if !s.deOn then .next s
  else
    let y := s.ao k
    let s := s.advTo (y.slewAt + 1000)
    let slew := s.cff (aoObj k 0x020) Fd.aConf.SLEW_V_S
    let st := fDiv slew (fOfNat 1000)
    let v := if fEq slew fZero || (s.aoLink k).isSome then y.cmd
      else if fLt y.v y.cmd then fMin y.cmd (fAdd y.v st) else fMax y.cmd (fSub y.v st)
    let due := s.now ≥ y.measAt + 100000
    let s1 := s.aoRead k v mv.val
    let s1 := s1.modAo k fun x => { x with measAt := if due then s.now else x.measAt, slewAt := s.now }
    .next (if due then s1.deResult (102 + k) (mAmp mv.val) y.fault else s1)

/-- AO_FAULT: the readbacks have differed from the driven value by more than `FAULT_MV` for `FAULT_MS` (R291), the latest being `mv`. -/
def execAoFault (n : Fin 16) (mv : Fin 65536) (s : State) : Out :=
  let y := s.ao n.val
  match y.devSince with
  | none => .next s
  | some t =>
    if !s.deOn || y.fault || !s.aoDiffers n.val mv.val then .next s
    else
    let s0 := s.advTo (t + s.cf (aoObj n.val 0x020) Fd.aConf.FAULT_MS * 1000)
    let s1 := s0.modAo n.val fun x => { x with fault := true, faults := sat 16 (x.faults + 1), meas := mAmp mv.val }
    .next ((s1.raise prDE evAoFault n.val mv.val).deResult (102 + n.val) (mAmp mv.val) true)

/-- AO_FAULT_CLEAR: the readbacks have stayed within the limit for `FAULT_MS` (R291), the latest being `mv`. -/
def execAoFaultClear (n : Fin 16) (mv : Fin 65536) (s : State) : Out :=
  let y := s.ao n.val
  match y.okSince with
  | none => .next s
  | some t =>
    if !s.deOn || !y.fault || s.aoOff n.val mv.val then .next s
    else
    let s0 := s.advTo (t + s.cf (aoObj n.val 0x020) Fd.aConf.FAULT_MS * 1000)
    let s1 := s0.modAo n.val fun x => { x with fault := false, meas := mAmp mv.val }
    .next ((s1.raise prDE evAoFaultClear n.val mv.val).deResult (102 + n.val) (mAmp mv.val) false)

/-! ### Commands to stages (R139, R261, R275, R405, R406, R459) -/

/-- A value commanded to a stage. A channel in which an old gang still decays keeps the command until it has (R267). -/
def State.stageCmd (s : State) (st : Stage) (v : F32) (guard : Bool) : State :=
  match st with
  | .valve ch =>
    if s.gang ch.val == 0 || s.cfgMember ch.val then s
    else if s.gangBase ch.val != some ch.val then s.modVlv ch.val fun y => { y with cmd := v, capF := s.lim8 (ch.val / 6) }
    else s.gangCmd ch.val v guard
  | .fan n =>
    let s1 := s.modFan n.val fun y => if guard then { y with guard := some v } else { y with cmd := v }
    s1.fanRetarget n.val true
  | .ao n => s.aoCmd n.val v

/-- The stage's `GUARD` bit. -/
def State.setGuard (s : State) (st : Stage) (on : Bool) : State :=
  match st with
  | .valve ch => s.modVlv ch.val fun v => { v with guard := on }
  | .fan n => s.modFan n.val fun y => if on then y else { y with guard := none, cmd := (y.guard).getD y.cmd }
  | .ao n => s.modAo n.val fun y => { y with guard := on }

/-- The command value of a take item (Table 15.2): a value in %, or the stage's safe value. -/
def State.takeValue (s : State) (st : Stage) : Option Nat → F32
  | some p => s.fromGuard st p
  | none => s.safeValue st

/-- A stage goes to its safe value; a stage that Guard has taken keeps Guard's. -/
def State.toSafe (s : State) (st : Stage) : State :=
  if s.guardHas st then s else s.stageCmd st (s.safeValue st) false

/-- A take or a release that changes a fan's `STATE` to or from Guard alone, with the stage as it was, delivers the fan's results
(R284). -/
def State.guardResults (s t : State) (st : Stage) : State :=
  match st with
  | .fan n =>
    let x := s.fan n.val
    let y := t.fan n.val
    if s.fanCode n.val != t.fanCode n.val && x.st == y.st && x.onAt == y.onAt then t.fanResults n.val false else t
  | _ => t

/-- What an executed `Q-CMD` entry does: commands of `SB`, the zones and the plan are discarded for a stage that Guard has
taken (R405), and those of the zones and the plan for a stage under direct command (R138). The end of a force is no command to the
stage: it is noted while Guard has the stage too (log 67). -/
def State.doCmd (s : State) (prod : Nat) (c : CmdVal) : State :=
  match c.act with
  | .take pct =>
    s.guardResults ((s.setGuard c.stage true).stageCmd c.stage (s.takeValue c.stage pct) true) c.stage
  | .release =>
    let s1 := s.setGuard c.stage false
    s.guardResults (match s1.directOf c.stage with
     | some d => s1.stageCmd c.stage d.value false
     | none => s1) c.stage
  | .set v =>
    if s.guardHas c.stage then s
    else if prod != 1 && (s.directOf c.stage).isSome then s
    else s.stageCmd c.stage v false
  | .force on =>
    (match c.stage with
     | .fan n =>
       if on && s.guardHas c.stage then s
       else
         let s1 := s.modFan n.val fun y => { y with forceCtrl := on }
         if on then s1.fanRetarget n.val true else s1
     | _ => s)
  | .safe => s.toSafe c.stage
  | .freed =>
    (match c.stage with
     | .fan n => if s.guardHas c.stage then s else s.fanRetarget n.val true
     | _ => s)
  | .clear =>
    (match c.stage with
     | .fan n => s.fanClear n.val
     | _ => s)
  | .prove =>
    (match c.stage with
     | .valve ch => if s.guardHas c.stage then s.proveDrop ch.val else s.prove ch.val
     | _ => s)

/-- A poisoned entry is not executed (R42): a `FAN_CLEAR` in it has cleared nothing, which its response tells (log 29). -/
def State.lostCmd (s : State) (c : CmdVal) : State :=
  match c.act, c.stage with
  | .clear, .fan n => s.answerClear n.val stOk [0#8, 0#8, 0#8, 0#8]
  | _, _ => s

/-- `DE` takes the oldest entry of the highest `Q-CMD` ring and executes it. -/
def State.takeCmd (s : State) : State :=
  match popRings s.act.qCmd with
  | none => s.underrunBy prDE 2
  | some (e, q) =>
    let s1 := { s with act.qCmd := q }
    let s2 := if e.bad then (s1.poisonEvent prDE 2).lostCmd e.val else s1.doCmd e.prod e.val
    s2.refillCmd

/-! ### Safe values and stops (R263, R292, R294) -/

def allStages : List Stage :=
  (List.finRange 24).map Stage.valve ++ (List.finRange 12).map Stage.fan ++ (List.finRange 16).map Stage.ao

/-- The value an output takes when it is enabled: what Guard or a fan holds, otherwise its safe value, with `SAFE_MODE` 2 the low
end of its range (R292, R293). -/
def State.aoStart (s : State) (n : Nat) : F32 :=
  let y := s.ao n
  match s.aoLink n with
  | some k => fAdd (s.aoLow n) (fMul (s.fan k).d (fSub fTen (s.aoLow n)))
  | none =>
    if y.guard then y.cmd
    else if s.cf (aoObj n 0x020) Fd.aConf.SAFE_MODE == 2 then s.aoLow n
    else if h : n < 16 then s.safeValue (.ao ⟨n, h⟩) else fZero

/-- At ready every output that is still disabled is enabled; a restart leaves the outputs as they stand (R292). Buffer Stop holds them
disabled (R427), and without `DE` the code stays until it runs (R415). -/
def State.aosEnable (s : State) : State :=
  if s.th.bufStop.isSome then s
  else (List.range 16).foldl (fun (t : State) n =>
    if (t.ao n).enabled then t
    else
      let v := t.aoStart n
      t.modAo n fun y => { y with enabled := true, cmd := v, v := if t.deOn then v else y.v }) s

/-- An override line can feed its stage: the gate drivers have `VSUP` and `VDRV`, and no Buffer Stop holds (R19, R427). -/
def State.lineFed (s : State) : Bool := s.vsupOk && s.pw.vdrv && s.th.bufStop.isNone

/-- Every power stage goes off; pull-ins end with verdict `v` (R62, R63, R82). Fans start again from their next command. `DE` cannot
change a stage that an override line forces (R19). -/
def State.stagesOff (s : State) (v : Nat) : State :=
  let s1 := s.gangsOff v
  (List.range 12).foldl (fun t n =>
    let x := t.fan n
    if x.line && t.lineFed then t
    else (t.fanOff n x.heldSt).modFan n fun y => { y with awaitCmd := true }) s1

/-! ### The manual pulse unit (R264) -/

/-- A fan pulse starts the fan under R271. -/
def State.firePulseFan (s : State) (n : Nat) : State :=
  let waits := (s.fan n).st == .startWait
  let s2 := ((if (s.fan n).onAt.isSome || waits then s.fanOff n .off else s).pulseFired).fanStart n
  match (s2.fan n).st with
  | .startWait => { s2 with act.pulse := { s2.act.pulse with result := 4 } }
  | .spinup => s2
  | _ => s2.pulseDone 3

/-- `FIRE` written: no effect while `BUSY` or `CFG_ERR` is 1. -/
def State.fire (s : State) : State :=
  if s.act.pulse.busy || s.pulseCfgErr then s
  else match s.targetGang s.act.pulse.target, s.targetFan s.act.pulse.target with
  | some b, _ => s.fireGang b
  | none, some n => s.firePulseFan n
  | none, none => s

/-- A pulse ends with `result`; a fan stage returns to its target in force. A stage that its override line has meanwhile forced on is left
to the line (R19). -/
def State.endPulse (s : State) (result : Nat) : State :=
  match s.pulseGang, s.pulseFan with
  | none, some n =>
    if (s.fan n).line then s.pulseDone result
    else
    let s1 := (s.fanOff n .off).pulseDone result
    let s2 := { s1 with act.pulse := { s1.act.pulse with verdict := if s1.act.pulse.ttp == 0xFFFF then 6 else 1 } }
    if fEq (s.fan n).target fZero then s2 else s2.fanStart n
  | _, _ => s.pulseStop result

/-- The pulse unit answers in Depot, while `SB` serves its registers. -/
def State.depotRegs (s : State) : Bool := s.mn.mode == .depot && s.mn.serving

/-- `ABORT` written: a running or waiting pulse ends. -/
def State.abortPulse (s : State) : State := if s.act.pulse.busy && !s.act.pulse.decaying then s.endPulse 2 else s

/-- ABORT. -/
def execAbort (s : State) : Out := if s.depotRegs && s.deOn then .next s.abortPulse else .next s

/-- PULSE_END: `PULSE_US` after its start a pulse ends with its decay, `RESULT` 1 (R264). -/
def execPulseEnd (s : State) : Out :=
  match s.act.pulse.startAt with
  | none => .next s
  | some t =>
    if !s.deOn || !s.act.pulse.busy || s.act.pulse.decaying then .next s
    else .next ((s.advTo (t + s.act.pulse.us)).endPulse 1)

end Sys2Proof.Machine
end

