-- ==== Sys2Proof/Machine/Zones.lean ====
section
/-!
DEFINITION. Sys2Proof/Machine/Zones.lean: the zone's own work (chapter 07): the zone-side entries (R192), proof of motion
(R212), the presence estimate (R195, R196), schedules (R198–R201), state and band (R202–R205), the loops (R206–R208), the
bounds (R211), the commands (R210) and the status words (R214).
-/
namespace Sys2Proof.Machine
open Sys2Proof

/-! ### Access -/

def State.zone (s : State) (z : Nat) : Zone := s.zs.zn.getD z {}
def State.modZone (s : State) (z : Nat) (f : Zone → Zone) : State := { s with zs.zn := lmod s.zs.zn z f }
def State.loop (s : State) (k : Nat) : Loop := s.zs.lp.getD k {}
def State.modLoop (s : State) (k : Nat) (f : Loop → Loop) : State := { s with zs.lp := lmod s.zs.lp k f }
def State.inp (s : State) (z i : Nat) : Inp := (s.zone z).inputs.getD i {}
def State.modInp (s : State) (z i : Nat) (f : Inp → Inp) : State :=
  s.modZone z fun x => { x with inputs := lmod x.inputs i f }
def State.modPres (s : State) (z : Nat) (f : Presence → Presence) : State :=
  s.modZone z fun x => { x with pres := f x.pres }

/-- The period in force, ms (R21, R22). -/
def State.periodMs (s : State) : Nat := s.per.ms

/-- The core that carries a zone, for its events and status. -/
def State.coreOf (s : State) (z : Nat) : Nat := (s.per.zmap.getD z none).getD (z / 8)

/-- A time difference in µs as seconds. -/
def secF (us : Nat) : F32 := fOfRat (us : Int) 1000000

/-! ### Zone-side entries (R192) -/

def zGet (l : List (Nat × ZEntry)) (p : Nat) : ZEntry := ((l.find? fun e => e.1 == p).map (·.2)).getD {}

def zSet (l : List (Nat × ZEntry)) (p : Nat) (e : ZEntry) : List (Nat × ZEntry) :=
  match l with
  | [] => [(p, e)]
  | (q, x) :: r => if p < q then (p, e) :: (q, x) :: r else if p == q then (p, e) :: r else (q, x) :: zSet r p e

/-- The entry of a point in a zone; the empty entry for no point. -/
def State.zent (s : State) (z p : Nat) : ZEntry := if p < 160 then zGet (s.zone z).entries p else {}

/-- The status a zone consumer sees: `SUSPECT` for the period after a poisoned item (R42). -/
def ZEntry.status (e : ZEntry) : PStat := if e.poisoned then .suspect else e.stat

/-- The value of a point while it is `GOOD`. -/
def State.zgood (s : State) (z p : Nat) : Option F32 :=
  let e := s.zent z p
  if e.status == .good then some e.y else none

/-- A `Q-PNT` item enters the zone-side entries of every zone of the ring that its point is bound to, or becomes the
zone's plan item. -/
def State.absorbItem (s : State) (ring : Nat) (bad : Bool) (v : PntVal) : State :=
  match v with
  | .point p y st c =>
    (((List.range 32).filter fun z => s.ringOf z == ring && s.bound p z)).foldl (fun t z => t.modZone z fun x =>
      let e := zGet x.entries p
      let n : ZEntry :=
        if bad then { e with poisoned := true }
        else { y := y, stat := st, cause := c, lastGood := if st == .good then y else e.lastGood, poisoned := e.poisoned }
      { x with entries := zSet x.entries p n }) s
  | .plan z item => s.modZone z fun x => if bad then { x with planBad := true } else { x with plan := some item, planBad := false }

/-- One item of a ring is absorbed by its core, or by `SB` while the core is offline (R36). -/
def State.absorbOne (s : State) (ring : Nat) : State :=
  match s.zs.qPnt.getD ring [] with
  | [] => s.underrunBy (prZC ring) 1
  | e :: rest =>
    let s1 := { s with zs.qPnt := lset s.zs.qPnt ring rest }
    let s2 := if e.bad then s1.poisonEvent (prZC ring) 1 else s1
    let s3 := s2.absorbItem ring e.bad e.val
    State.refillPnt { s3 with per.cores := lmod s3.per.cores ring fun c => if c.online then { c with progress := s3.now } else c }

/-- `n` items of a ring at most. -/
def State.absorbAll (s : State) (ring : Nat) : Nat → State
  | 0 => s
  | n + 1 => if (s.zs.qPnt.getD ring []).isEmpty then s else State.absorbAll (s.absorbOne ring) ring n

/-- PNT_ABSORB: a zone core, or `SB` for a core that is offline, takes one `Q-PNT` item (R192, R36); none between tc and t0 (R29). -/
def execPntAbsorb (core : Fin 4) (s : State) : Out :=
  if s.mn.phase == .run && s.mn.mode != .siding && !s.pastTc then .next (s.absorbOne core.val) else .next s

/-! ### Temperature (R193) -/

/-- The zone temperature, whether it comes from `T_ALT`, and the point it comes from; none when neither is `GOOD`. -/
def State.zoneTemp (s : State) (z : Nat) : Option (F32 × Bool × Nat) :=
  let o := znObj z 0x030
  let p := s.cf o Fd.znPts.T_PT
  let a := s.cf o Fd.znPts.T_ALT
  match s.zgood z p, s.zgood z a with
  | some y, _ => some (y, false, p)
  | none, some y => some (y, true, a)
  | none, none => none

/-- Step 1: the temperature in use, with its events. -/
def State.takeTemp (s : State) (z : Nat) : State :=
  let x := s.zone z
  let c := prZC (s.coreOf z)
  match s.zoneTemp z with
  | some (y, alt, p) =>
    let s1 := s.modZone z fun q => { q with t := y, tAlt := alt, noTemp := false }
    if x.noTemp then s1.raise c evZoneTempBack z p else s1
  | none =>
    let s1 := s.modZone z fun q => { q with t := fNaN, tAlt := false, noTemp := true }
    if x.noTemp then s1 else s1.raise c evZoneNoTemp z (s.cf (znObj z 0x030) Fd.znPts.T_PT)

/-! ### Proof of motion (R212) -/

def State.proofPt (s : State) (z i : Nat) : Nat := s.cf (znObj z 0x040) (inpFld Fd.znAct.PROOF_PT0 i)
def State.limitPt (s : State) (z i : Nat) : Nat := s.cf (znObj z 0x040) (inpFld Fd.znAct.LIMIT_PT0 i)

/-- Step 2 for one input: what it judges, and keeps as proven, is the command at the end of the previous period. -/
def State.judgeProof (s : State) (z i : Nat) : State :=
  let x := s.inp z i
  let c := prZC (s.coreOf z)
  let p := s.proofPt z i
  let bad := x.wasOn && p < 160 && (s.zent z p).status != .good
  if bad then
    let n := x.unprovenRun + 1
    let first := n ≥ s.cf (znObj z 0x020) Fd.znConf.UNPROVEN_N && !x.unprovenLog
    let s1 := s.modInp z i fun y => { y with unproven := true, unprovenRun := n, unprovenLog := y.unprovenLog || first }
    if first then s1.raise c evActUnproven z (i * 2 ^ 16 + sat 16 n) else s1
  else
    let s1 := s.modInp z i fun y => { y with unproven := false, unprovenRun := 0, unprovenLog := false, proven := y.endVal }
    if x.unprovenLog then s1.raise c evActProven z i else s1

/-! ### Presence (R195, R196) -/

/-- L0 of a prior. -/
def priorL (p : F32) : F32 := fLn (fDiv p (fSub fOne p))
/-- p of the log-odds. -/
def oddsP (l : F32) : F32 := fDiv fOne (fAdd fOne (fExp (fNeg l)))

def State.presCf (s : State) (z : Nat) (f : Fld) : F32 := s.cff (prObj z 0x020) f

/-- A motion point shows motion against its count at the previous computation. -/
def State.motionAt (s : State) (z p : Nat) (prev : Option F32) : Bool :=
  match s.zgood z p with
  | none => false
  | some v =>
    if s.srcType p == 5 then
      (if bits (s.srcCfg p) 31 30 == 0 then fEq v fOne
       else match prev with | none => false | some w => !fEq v w)
    else fLt (fOfRat 1 2) v

/-- The time a zone has been occupied since the last count goes into `OCC_S_LIFE` (Table 14.9). -/
def State.countOcc (s : State) (z : Nat) : State :=
  let x := (s.zone z).pres
  let us := if x.occ then x.occUs + (s.now - x.occMark) else x.occUs
  let s1 := s.modPres z fun y => { y with occUs := us % 1000000, occMark := s.now }
  { s1 with rs.hot.occS := lmod s1.rs.hot.occS z fun v => (v + us / 1000000) % 2 ^ 32 }

/-- `OCCUPIED` follows p, and each change is logged (R196). -/
def State.setOcc (s : State) (z : Nat) (p : F32) : State :=
  let s := s.countOcc z
  let x := (s.zone z).pres
  let on := s.cf (prObj z 0x020) Fd.presConf.P_ON
  let off := s.cf (prObj z 0x020) Fd.presConf.P_OFF
  let occ := if fLe (pctF on) p then true else if fLe p (pctF off) then false else x.occ
  let s1 := s.modPres z fun y => { y with p := p, occ := occ, since := if occ == x.occ then y.since else s.now }
  if occ == x.occ then s1
  else s1.raise (prZC (s.coreOf z)) (if occ then evPresOccupied else evPresVacant) z (fNatScaled 1000 p)

/-- Evidence of the CO2 slope, per minute at full slope: its sign and its amount. The oldest value counts from the first one on, before
the ring is full (R195; log 68). -/
def State.co2Evidence (s : State) (z : Nat) (dt : F32) : Option (Bool × F32) :=
  match s.zgood z (s.cf (znObj z 0x030) Fd.znPts.CO2_PT), (s.zone z).pres.co2.head? with
  | some c, some (t, c0) =>
    let a := fDiv (secF (s.now - t)) (fOfNat 60)
    if s.now ≤ t then none
    else
      let sl := fDiv (fSub c c0) a
      let s0 := s.presCf z Fd.presConf.S0
      let sp := s.presCf z Fd.presConf.S_SPAN
      let amt (v : F32) : F32 :=
        fDiv (fMul (fMul (s.presCf z Fd.presConf.W_CO2) (fMin fOne (fDiv (fSub v s0) sp))) dt) (fOfNat 60)
      if fLt s0 sl then some (true, amt sl)
      else if fLt sl (fNeg s0) then some (false, amt (fNeg sl))
      else none
  | _, _ => none

/-- The CO2 ring after the computation: 16 `GOOD` values, one every `CO2_WIN_S` / 16. -/
def State.co2Ring (s : State) (z : Nat) : List (Nat × F32) :=
  let r := (s.zone z).pres.co2
  match s.zgood z (s.cf (znObj z 0x030) Fd.znPts.CO2_PT) with
  | none => r
  | some c =>
    let due : Bool := match r.getLast? with
      | none => true
      | some (t, _) => decide ((s.now - t) * 16 ≥ s.cf (prObj z 0x020) Fd.presConf.CO2_WIN_S * 1000000)
    if due then let r1 := r ++ [(s.now, c)]; r1.drop (r1.length - 16) else r

/-- `PRES_INPUT_BAD` once while no bound presence input is `GOOD`. -/
def State.presInputs (s : State) (z : Nat) : State :=
  let o := prObj z 0x020
  let l := [s.cf o Fd.presConf.PIR0_PT, s.cf o Fd.presConf.PIR1_PT, s.cf o Fd.presConf.DOOR_PT,
            s.cf (znObj z 0x030) Fd.znPts.CO2_PT].filter (· < 160)
  match l with
  | [] => s
  | p :: _ =>
    if l.any fun q => (s.zgood z q).isSome then s.modPres z fun y => { y with badLog := false }
    else if (s.zone z).pres.badLog then s
    else (s.modPres z fun y => { y with badLog := true }).raise (prZC (s.coreOf z)) evPresInputBad z p

/-- A door window that ends without motion removes `W_DOOR`. -/
def State.doorStep (s : State) (z : Nat) (l : F32) (seen : Bool) : F32 × Option Nat × Bool × Bool :=
  let x := (s.zone z).pres
  let dp := s.cf (prObj z 0x020) Fd.presConf.DOOR_PT
  let moved : Bool := match s.zgood z dp, x.door with
    | some v, some w => !fEq v w
    | _, _ => false
  if moved then (l, some (s.now + s.cf (prObj z 0x020) Fd.presConf.DOOR_WIN_S * 1000000), false, false)
  else if x.doorOut then
    (if seen then (l, none, seen, false) else (fSub l (s.presCf z Fd.presConf.W_DOOR), none, seen, true))
  else match x.doorEnd with
    | none => (l, none, seen, false)
    | some t =>
      if s.now ≥ t then
        (if seen then (l, none, seen, false) else (fSub l (s.presCf z Fd.presConf.W_DOOR), none, seen, true))
      else (l, some t, seen, false)

/-- The values of motion and door points of this computation, which the next one compares with (R195). -/
def State.presMemo (s : State) (z : Nat) : State :=
  let o := prObj z 0x020
  let keep (p : Nat) (v : Option F32) : Option F32 := match s.zgood z p with | some w => some w | none => v
  s.modPres z fun y => { y with pir0 := keep (s.cf o Fd.presConf.PIR0_PT) y.pir0, pir1 := keep (s.cf o Fd.presConf.PIR1_PT) y.pir1,
                                door := keep (s.cf o Fd.presConf.DOOR_PT) y.door }

/-- Step 3: the presence estimate. -/
def State.presence (s : State) (z : Nat) (dt : F32) : State :=
  let prior := s.presCf z Fd.presConf.P_PRIOR
  if !s.cfb (znObj z 0x020) Fd.znConf.PRES_EN then
    let was := (s.zone z).pres.occ
    let s1 := ((s.countOcc z).presMemo z).modPres z fun y => { y with p := prior, occ := false, since := if was then s.now else y.since, ev := 0, panel := false }
    if was then s1.raise (prZC (s.coreOf z)) evPresVacant z (fNatScaled 1000 prior) else s1
  else
    let x := (s.zone z).pres
    let o := prObj z 0x020
    let l0 := priorL prior
    let p0 := s.cf o Fd.presConf.PIR0_PT
    let p1 := s.cf o Fd.presConf.PIR1_PT
    let start := if x.fresh then l0 else x.l
    let la := fAdd l0 (fMul (fSub start l0) (fExp (fNeg (fDiv dt (s.presCf z Fd.presConf.TAU_DECAY_S)))))
    let motion := s.motionAt z p0 x.pir0 || s.motionAt z p1 x.pir1
    let lb := if motion then fAdd la (s.presCf z Fd.presConf.W_PIR) else la
    let seen := x.motion || motion
    let ce := s.co2Evidence z dt
    let lc := match ce with | none => lb | some (true, a) => fAdd lb a | some (false, a) => fSub lb a
    let ld := if x.panel then fAdd lc (s.presCf z Fd.presConf.W_PANEL) else lc
    let (le, dend, seen2, gone) := s.doorStep z ld seen
    let lm := s.presCf z Fd.presConf.L_MAX
    let lf := fMax (fNeg lm) (fMin lm le)
    let ring := s.co2Ring z
    let ev := b2n motion * 16 + b2n (ce.any fun c => c.1) * 8 + b2n (ce.any fun c => !c.1) * 4 + b2n x.panel * 2 + b2n gone
    let s1 := (s.presMemo z).modPres z fun y =>
      { y with fresh := false, l := lf, doorEnd := dend, doorOut := false, motion := seen2, ev := ev, panel := false, co2 := ring }
    (s1.presInputs z).setOcc z (oddsP lf)

/-! ### Schedules (R198–R201, R8) -/

/-- A Gregorian leap year. -/
def leapYear (y : Nat) : Bool := y % 4 == 0 && (y % 100 != 0 || y % 400 == 0)

def monthDays (y m : Nat) : Nat :=
  if m == 2 then (if leapYear y then 29 else 28) else if m == 4 || m == 6 || m == 9 || m == 11 then 30 else 31

/-- Year and day of the year of a day after 2000-01-01. -/
def yearOf : Nat → Nat → Nat → Nat × Nat
  | 0, y, n => (y, n)
  | k + 1, y, n =>
    let d := if leapYear y then 366 else 365
    if n < d then (y, n) else yearOf k (y + 1) (n - d)

/-- Month and day of the month. -/
def monthOf (y : Nat) : Nat → Nat → Nat → Nat × Nat
  | 0, m, n => (m, n + 1)
  | k + 1, m, n => if n < monthDays y m then (m, n + 1) else monthOf y k (m + 1) (n - monthDays y m)

/-- Year − 2000, month and day of a day after the epoch. -/
def dateOf (n : Nat) : Nat × Nat × Nat :=
  let (y, r) := yearOf 300 2000 n
  let (m, d) := monthOf y 12 1 r
  (y - 2000, m, d)

/-- A switching minute as Profile L uses it (R8). -/
def State.minuteOf (s : State) (m : Nat) : Nat := if s.mn.profActive then m / 15 * 15 else m

def schObj (i : Nat) : Nat := objId 0x07 i 0x010

/-- The entries of an exception day: stored minute and state. -/
def State.exEntries (s : State) (e : Nat) : List (Nat × Nat) :=
  let o := schObj (32 + e)
  (List.range (s.cf o Fd.exday.N_ENT)).map fun j => (s.cf o (Fd.exday.MINUTE0.at_ j), s.cf o (Fd.exday.STATE0.at_ j))

/-- The exception day of schedule `sc` on day `n`, the lowest-numbered one that is active. -/
def State.exDay (s : State) (sc n : Nat) : Option Nat :=
  let (y, m, d) := dateOf n
  (List.range 64).find? fun e =>
    let o := schObj (32 + e)
    s.cf o Fd.exday.N_ENT != 0 && bitOf (s.cf o Fd.exday.SCHED_MASK) sc && s.cf o Fd.exday.MONTH == m &&
      s.cf o Fd.exday.DAY == d && (s.cf o Fd.exday.YEAR == 127 || s.cf o Fd.exday.YEAR == y)

/-- The weekly entries: weekday, stored minute, state. -/
def State.wkEntries (s : State) (sc : Nat) : List (Nat × Nat × Nat) :=
  let o := schObj sc
  (List.range (s.cf o Fd.sched.N_ENT)).flatMap fun j =>
    ((List.range 7).filter fun d => bitOf (s.cf o (Fd.sched.DAYS0.at_ j)) d).map fun d =>
      (d, s.cf o (Fd.sched.MINUTE0.at_ j), s.cf o (Fd.sched.STATE0.at_ j))

/-- The entry with the least key, a later stored minute winning a tie (R8). -/
def latestEntry (l : List (Nat × Nat × Nat)) : Option Nat :=
  (l.foldl (fun (b : Option (Nat × Nat × Nat)) e => match b with
    | none => some e
    | some c => if e.1 < c.1 || (e.1 == c.1 && e.2.1 > c.2.1) then some e else b) none).map (·.2.2)

/-- The scheduled state of schedule `sc` at a minute since the epoch; none when no entry gives one. -/
def State.schedAt (s : State) (sc minute : Nat) : Option Nat :=
  let day := minute / 1440
  let mod_ := minute % 1440
  let ex : Option Nat := match s.exDay sc day with
    | none => none
    | some e => latestEntry (((s.exEntries e).filter fun p => s.minuteOf p.1 ≤ mod_).map fun p => (mod_ - s.minuteOf p.1, p.1, p.2))
  match ex with
  | some st => some st
  | none =>
    let wk := (day + 5) % 7
    latestEntry ((s.wkEntries sc).map fun e => (((wk * 1440 + mod_) + 10080 - (e.1 * 1440 + s.minuteOf e.2.1)) % 10080, e.2.1, e.2.2))

/-- Step 4, R201: the scheduled state of a zone at an RTC second. -/
def State.schedState (s : State) (z secs : Nat) : Nat :=
  let o := znObj z 0x020
  let sc := s.cf o Fd.znConf.SCHED
  let dflt := s.cf o Fd.znConf.DEF_STATE
  if sc ≥ 32 || !s.rtc.valid then dflt else (s.schedAt sc (secs / 60)).getD dflt

/-- The minutes of a day at which a schedule's state can change. -/
def State.switchMinutes (s : State) (sc day : Nat) : List Nat :=
  0 :: (((s.wkEntries sc).filter fun e => e.1 == (day + 5) % 7).map fun e => s.minuteOf e.2.1) ++
    (match s.exDay sc day with | none => [] | some e => (s.exEntries e).map fun p => s.minuteOf p.1)

/-- The next change of scheduled state within 8 days: RTC second and state; (0, 0) without one. -/
def State.nextSwitch (s : State) (z secs : Nat) : Nat × Nat :=
  let sc := s.cf (znObj z 0x020) Fd.znConf.SCHED
  if sc ≥ 32 || !s.rtc.valid then (0, 0)
  else
    let cur := s.schedState z secs
    let cand := ((List.range 9).flatMap fun d =>
      (s.switchMinutes sc (secs / 86400 + d)).map fun m => ((secs / 86400 + d) * 1440 + m) * 60).filter
        fun t => t > secs && t ≤ secs + 8 * 86400
    let ch := cand.filter fun t => s.schedState z t != cur
    match ch with
    | [] => (0, 0)
    | t :: r =>
      let m := r.foldl min t
      -- the first instant at which the state differs, provided no earlier candidate ends the stretch
      (m, s.schedState z m)

/-! ### State and band (R202–R205) -/

/-- The shift by presence (Table 7.11), given whether COMFORT is released. -/
def presShift (sched : Nat) (occ eco released : Bool) : Nat :=
  match sched with
  | 0 => if occ then 0 else if released then 1 else 0
  | 1 => if occ then 0 else 1
  | 2 => if occ && eco then 0 else 2
  | k => k

/-- The vacancy hold of COMFORT is over (Table 7.11). -/
def State.holdOver (s : State) (z : Nat) : Bool :=
  let x := s.zone z
  let h := s.cf (znObj z 0x020) Fd.znConf.VACANT_HOLD_S
  h != 0 && s.now ≥ max x.pres.since x.comfortAt + h * 1000000

/-- A changed effective state is logged (R202). -/
def State.setEff (s : State) (z e : Nat) : State :=
  let old := (s.zone z).eff
  let s1 := s.modZone z fun x => { x with eff := e }
  if old == e then s1 else s1.raise (prZC (s.coreOf z)) evZoneState z (old * 256 + e)

/-- A state override ends (R205). -/
def State.endOverride (s : State) (z why : Nat) : State :=
  if (s.zone z).ovr.isSome then (s.modZone z fun x => { x with ovr := none, ovrEnd := 0 }).sbEvent evOverrideEnd z why else s

/-- An offset ends. -/
def State.endOffset (s : State) (z : Nat) (why : Nat) (byZone : Bool) : State :=
  if fEq (s.zone z).offset fZero then s
  else
    let s1 := s.modZone z fun x => { x with offset := fZero }
    if byZone then s1.raise (prZC (s.coreOf z)) evOverrideEnd z why else s1.sbEvent evOverrideEnd z why

/-- The band of an effective state with an offset (R204). -/
def State.bandOf (s : State) (z eff : Nat) (ofs : F32) : F32 × F32 :=
  let o := znObj z 0x050
  let lo := s.cff o Fd.znSp.SP_HEAT3
  let hi := s.cff o Fd.znSp.SP_COOL3
  let d := if eff == 3 then fZero else ofs
  (fClamp lo hi (fAdd (s.cff o (spHeatFld eff)) d), fClamp lo hi (fAdd (s.cff o (spCoolFld eff)) d))

/-- Step 4: scheduled state, override, effective state, band, next switch. -/
def State.stateBand (s : State) (z : Nat) : State :=
  let x := s.zone z
  let c := prZC (s.coreOf z)
  let o := znObj z 0x020
  let secs := rtcSeconds s
  let s0 := if !s.rtc.valid && !s.zs.noTimeLog then ({ s with zs.noTimeLog := true }).raise c evSchedNoTime 0 0 else s
  let sched := s0.schedState z secs
  let nx := s0.nextSwitch z secs
  let changed := sched != x.sched
  let s1 := s0.modZone z fun q =>
    { q with sched := sched, nextSw := nx.1, nextSt := nx.2,
             comfortAt := if sched == 0 && (changed || q.first) then s0.now else q.comfortAt }
  let s2 := if changed && !x.first && !x.keep then s1.endOffset z 2 true else s1
  let s3 := if (s2.zone z).ovr.isSome && s2.now ≥ (s2.zone z).ovrEnd then s2.endOverride z 0 else s2
  let y := s3.zone z
  let rel := sched == 0 && !y.pres.occ && ((y.released && !changed) || s3.holdOver z)
  let eff := match y.ovr with
    | some e => e
    | none => if s3.cfb o Fd.znConf.PRES_EN then presShift sched y.pres.occ (s3.cfb o Fd.znConf.PRES_ECO) rel else sched
  let s4 := (s3.modZone z fun q => { q with released := rel }).setEff z eff
  let b := s4.bandOf z eff (s4.zone z).offset
  s4.modZone z fun q => { q with bandH := b.1, bandC := b.2 }

/-! ### Loops (R206–R208) -/

/-- The zone's plan item in force; none when absent, poisoned, or the zone takes no part. -/
def State.planItem (s : State) (z : Nat) : Option PlanItem :=
  let x := s.zone z
  if x.planBad || !s.cfb (znObj z 0x020) Fd.znConf.PLAN_EN then none
  else match x.plan with
    | some i => if i.inPlan then some i else none
    | none => none

/-- The plan's command of an input that is plan-driven (R210). -/
def State.planCmd (s : State) (z i : Nat) : Option F32 :=
  match s.planItem z with
  | none => none
  | some it => if s.cfb (znObj z 0x040) (inpFld Fd.znAct.A_PLAN0 i) then (it.cmds.getD i none) else none

/-- A guard zone of zone `z` is carried by Guard (R405). -/
def State.carried (s : State) (z : Nat) : Bool :=
  s.gd.zones.any fun g => g.carried && bits (g.cfg.getD 0 0) 7 0 == z

/-- The value in % that an input's loop tracks: Guard's, the direct command's or the plan's; none when the loop drives
the input itself (Table 7.15). -/
def State.tracked (s : State) (z i : Nat) : Option F32 :=
  match s.inputStage z i with
  | none => none
  | some st =>
    if s.guardHas st then some (s.inForce st)
    else match s.directOf st with
      | some d => some (s.toPct st d.value)
      | none => (match s.planCmd z i with | some u => some (fMin u (s.inp z i).b) | none => none)

/-- The setpoint of a loop (R207). -/
def State.loopSp (s : State) (z k : Nat) : F32 :=
  let o := lpObj k 0x020
  let x := s.zone z
  let clip (v : F32) : F32 := fClamp x.bandH x.bandC v
  match s.cf o Fd.loopConf.SP_SRC, s.planItem z with
  | 2, _ => s.cff o Fd.loopConf.SP_FIXED
  | 3, _ =>
    let u := (s.loop (s.cf o Fd.loopConf.SP_LOOP)).out
    let lo := s.cff o Fd.loopConf.SP_LO
    fAdd lo (fMul (fDiv u f100) (fSub (s.cff o Fd.loopConf.SP_HI) lo))
  | _, some it => clip it.sp
  | 0, none => x.bandH
  | 1, none => x.bandC
  | _, none => fDiv (fAdd x.bandH x.bandC) (fOfNat 2)

/-- The process value of a loop, its status and whether it comes from `T_ALT` (R193). -/
def State.loopPv (s : State) (z k : Nat) : F32 × PStat × Bool :=
  let p := s.cf (lpObj k 0x020) Fd.loopConf.PV_PT
  if p < 160 && p == s.cf (znObj z 0x030) Fd.znPts.T_PT then
    match s.zoneTemp z with
    | some (y, alt, _) => (y, .good, alt)
    | none => ((s.zent z p).y, (s.zent z p).status, false)
  else ((s.zent z p).y, (s.zent z p).status, false)

/-- The limits lo and hi of a loop for its bound B. -/
def State.loopLim (s : State) (k : Nat) (b : F32) : F32 × F32 :=
  let o := lpObj k 0x020
  let hi := fMin (s.cff o Fd.loopConf.OUT_MAX) b
  (fMin (s.cff o Fd.loopConf.OUT_MIN) hi, hi)

/-- The input a loop drives. -/
def State.loopInput (s : State) (k : Nat) : Option Nat :=
  let o := lpObj k 0x020
  if s.cf o Fd.loopConf.OUT_DST == 1 then some (s.cf o Fd.loopConf.OUT_INPUT) else none

/-- P of the error after the dead band, and the error (R207). -/
def State.loopErr (s : State) (k : Nat) (sp pv : F32) : F32 × F32 :=
  let o := lpObj k 0x020
  let e0 := if s.cfb o Fd.loopConf.ACTION then fSub pv sp else fSub sp pv
  let e := if fLe (fAbs e0) (s.cff o Fd.loopConf.DB) then fZero else e0
  (fMul (s.cff o Fd.loopConf.KP) e, e)

/-- The derivative term. -/
def State.loopD (s : State) (k : Nat) (d pv prev dt : F32) : F32 :=
  let o := lpObj k 0x020
  let td := s.cff o Fd.loopConf.TD_S
  let n := s.cff o Fd.loopConf.N_D
  if fEq td fZero then fZero
  else
    let dv := if s.cfb o Fd.loopConf.ACTION then fSub prev pv else fSub pv prev
    fDiv (fSub (fMul td d) (fMul (fMul (fMul (s.cff o Fd.loopConf.KP) td) n) dv)) (fAdd td (fMul n dt))

/-- A loop in `AUTO` (R207). -/
def State.loopAuto (s : State) (k : Nat) (x : Loop) (sp pv b dt : F32) (unproven : Bool) : Loop :=
  let o := lpObj k 0x020
  let (p, e) := s.loopErr k sp pv
  let d := s.loopD k x.d pv (x.pvPrev.getD pv) dt
  let raw := fAdd (fAdd (fAdd p x.i) d) (s.cff o Fd.loopConf.BIAS)
  let (lo, hi) := s.loopLim k b
  let u0 := fMin hi (fMax lo raw)
  let r := s.cff o Fd.loopConf.OUT_RATE
  let u := if fLt fZero r then fMin (fAdd x.out (fMul r dt)) (fMax (fSub x.out (fMul r dt)) u0) else u0
  let ti := s.cff o Fd.loopConf.TI_S
  let tt0 := s.cff o Fd.loopConf.TT_S
  let tt := if fEq tt0 fZero then ti else tt0
  let i := if fLt fZero ti && !unproven then
      fAdd (fAdd x.i (fMul (fDiv (fMul (s.cff o Fd.loopConf.KP) dt) ti) e)) (fMul (fDiv dt tt) (fSub u raw))
    else x.i
  { x with st := .auto, out := u, sp := sp, pv := pv, i := i, d := d, pvPrev := some pv, satHi := fLt hi raw, satLo := fLt raw lo,
           unproven := unproven, bounded := fLt b (s.cff o Fd.loopConf.OUT_MAX), badAt := none }

/-- One loop of a zone (Table 7.15). While Guard has the stage of its input, a loop whose PV is not `GOOD` takes the value that Guard
commands as its output, so that its first output after the handback equals it (R67, log 25). -/
def State.runLoop (s : State) (z k : Nat) (dt : F32) : State :=
  let o := lpObj k 0x020
  let x := s.loop k
  let c := prZC (s.coreOf z)
  let ptNo := s.cf o Fd.loopConf.PV_PT
  let sp := s.loopSp z k
  let (pv, st, alt) := s.loopPv z k
  let inp := s.loopInput k
  let b := match inp with | none => f100 | some i => (s.inp z i).b
  let unp : Bool := match inp with | none => false | some i => (s.inp z i).unproven
  if st == .good then
    let s0 := if x.st == .failed then s.raise c evLoopPvBack k ptNo else s
    let sw := x.pvPrev.isSome && alt != x.alt
    let y : Loop := { x with alt := alt, pvPrev := if sw || x.pvPrev.isNone then some pv else x.pvPrev,
                             d := if sw then fZero else x.d }
    match (match inp with | none => none | some i => s.tracked z i) with
    | some ut =>
      let (p, _) := s.loopErr k sp pv
      let d := s.loopD k y.d pv (y.pvPrev.getD pv) dt
      let i := fSub (fSub (fSub ut p) d) (s.cff o Fd.loopConf.BIAS)
      s0.modLoop k fun _ => { y with st := .track, out := ut, sp := sp, pv := pv, i := i, d := d, pvPrev := some pv, badAt := none,
                                     satHi := false, satLo := false, unproven := unp, bounded := fLt b (s.cff o Fd.loopConf.OUT_MAX) }
    | none =>
      if x.st == .hold || x.st == .failed then
        let (p, _) := s.loopErr k sp pv
        s0.modLoop k fun _ => { y with st := .auto, sp := sp, pv := pv, i := fSub (fSub y.out p) (s.cff o Fd.loopConf.BIAS), d := fZero,
                                       pvPrev := some pv, badAt := none, satHi := false, satLo := false, unproven := unp,
                                       bounded := fLt b (s.cff o Fd.loopConf.OUT_MAX) }
      else s0.modLoop k fun _ => s.loopAuto k y sp pv b dt unp
  else
    let bad := st == .bad || st == .stale
    let since := if bad then (if x.badAt.isSome then x.badAt else some s.now) else none
    let fail : Bool := match since with
      | none => false
      | some t => decide (s.now ≥ t + s.cf o Fd.loopConf.PV_FAIL_S * 1000000)
    let held : Option F32 := match inp with
      | none => none
      | some i => if ((s.inputStage z i).map s.guardHas).getD false then s.tracked z i else none
    let y : Loop := { x with out := held.getD x.out, sp := sp, pv := pv, alt := alt, badAt := since, satHi := false, satLo := false, unproven := unp,
                             bounded := fLt b (s.cff o Fd.loopConf.OUT_MAX) }
    if fail then
      let s1 := s.modLoop k fun _ => { y with st := .failed, out := held.getD (fOfNat (s.cf o Fd.loopConf.FAIL_OUT)) }
      if x.st == .failed then s1 else s1.raise c evLoopPvFail k ptNo
    else s.modLoop k fun _ => { y with st := .hold }

/-- Step 5: the zone's loops in ascending number. -/
def State.runLoops (s : State) (z : Nat) (dt : F32) : State := (s.zoneLoops z).foldl (fun t k => t.runLoop z k dt) s

/-- A loop goes `OFF`, I and D cleared (Table 7.15). -/
def State.loopOff (s : State) (k : Nat) : State :=
  s.modLoop k fun x => if x.st == .off then x else { }

/-! ### Commands (R210) -/

/-- `VALUE` of a stage for u in % with the input's own quad memory (Table 7.17). -/
def State.cmdValue (s : State) (z i : Nat) (st : Stage) (u : F32) : F32 :=
  let on := fOfNat (s.cf (znObj z 0x040) (inpFld Fd.znAct.ON_PCT0 i))
  match st with
  | .valve ch =>
    if s.isQuad ch.val && !fLe on u && !fLe u (fSub on fTen) then (s.inp z i).val else s.fromPct st on u
  | _ => s.fromPct st on u

/-- A command of `u` % for an input, clipped to B (R210). -/
def State.issueCmd (s : State) (prod z i : Nat) (st : Stage) (u : F32) : State :=
  let b := (s.inp z i).b
  let v := fMin u b
  let val := s.cmdValue z i st v
  (s.modInp z i fun x => { x with u := some v, val := val, clamped := fLt b u }).postCmd prod { stage := st, act := .set val }

/-- Step 7 for one input. -/
def State.zoneCommand (s : State) (z i : Nat) : State :=
  match s.inputStage z i with
  | none => s
  | some st =>
    if (s.directOf st).isSome || s.guardHas st then s
    else match s.planCmd z i with
      | some u => if (s.inp z i).byPlan then s else s.issueCmd (2 + s.coreOf z) z i st u
      | none =>
        (match s.inputLoop z i with
         | none => s
         | some k => if (s.loop k).st == .off then s else s.issueCmd (2 + s.coreOf z) z i st (s.loop k).out)

/-! ### Status words (R214) -/

/-- `CTRL` of a zone. -/
def State.zoneCtrl (s : State) (z : Nat) : Nat :=
  if !s.zoneOn z then 0 else if s.carried z then 3 else if (s.planItem z).isSome then 2 else 1

/-- The group of a zone that has not been computed: the defaults of Table 7.18. -/
def State.dfltWords (s : State) (z : Nat) : List Word :=
  [fNaN, fNaN, fNaN, s.presCf z Fd.presConf.P_PRIOR, fNaN, fNaN, fNaN, wd 0xFFFFFFFF, wd 0x50000000, wd 0xFC000000,
   wd 0, wd 0, wd 0, wd 0, wd 0x64646464, wd 0]

/-- Step 8: the status words. -/
def State.zoneWords (s : State) (z : Nat) : List Word :=
  let x := s.zone z
  let o := znObj z 0x030
  let b4 (p : Nat → Nat) : Nat := p 0 + p 1 * 2 ^ 8 + p 2 * 2 ^ 16 + p 3 * 2 ^ 24
  let m4 (p : Nat → Bool) : Nat := maskOf 4 p
  let val (p : Nat) : F32 := if p < 160 then (s.zent z p).y else fNaN
  let stc (p : Nat) : Nat := (s.zent z p).status.code
  let rh := s.cf o Fd.znPts.RH_PT
  let co := s.cf o Fd.znPts.CO2_PT
  let tp := if x.tAlt then s.cf o Fd.znPts.T_ALT else s.cf o Fd.znPts.T_PT
  let prior := s.presCf z Fd.presConf.P_PRIOR
  let occP := if x.pres.fresh || !s.cfb (znObj z 0x020) Fd.znConf.PRES_EN then prior else x.pres.p
  let failed := ((s.zoneLoops z).filter fun k => (s.loop k).st == .failed).length
  let left := cdiv (x.ovrEnd - s.now) 1000000
  let cmd := b4 fun i => match s.inputStage z i, (s.inp z i).u with | some _, some u => min 254 (fNatScaled 1 u) | _, _ => 255
  let w8 := x.eff * 2 ^ 30 + x.sched * 2 ^ 28 + s.zoneCtrl z * 2 ^ 26 + b2n x.pres.occ * 2 ^ 25 +
    b2n (x.ovr.isSome || !fEq x.offset fZero) * 2 ^ 24 + m4 (fun i => (s.inp z i).unproven) * 2 ^ 20 +
    m4 (fun i => (s.inp z i).clamped) * 2 ^ 16 +
    m4 (fun i => match s.inputStage z i with | none => false | some st => (s.directOf st).isSome) * 2 ^ 12 +
    b2n x.noTemp * 2 ^ 11 + b2n x.tAlt * 2 ^ 10 + b2n (!s.rtc.valid) * 2 ^ 9 + b2n x.computed * 2 ^ 8 + x.core
  if !s.zoneOn z && x.lastPer == 0 then s.dfltWords z
  else [x.t, val rh, val co, occP, x.bandH, x.bandC, x.planSp, wd cmd, wd w8,
   wd (stc tp * 2 ^ 30 + stc rh * 2 ^ 28 + stc co * 2 ^ 26 + failed * 2 ^ 22),
   wd (if x.ovr.isSome then left else 0), wd x.nextSw, wd (x.nextSt * 2 ^ 30), wd x.lastPer,
   wd (b4 fun i => fNatScaled 1 (s.inp z i).b), wd 0]

/-- The status words at step 5 of a Changeover: those that the zone's last computation wrote, with `COMPUTED` of this period; of a zone
that is disabled, as it stands (R186, R214). -/
def State.wordsNow (s : State) (z : Nat) : List Word :=
  let x := s.zone z
  if !s.zoneOn z || x.words.isEmpty then s.zoneWords z
  else lmod x.words 8 fun w => wd (putBit w.toNat 8 x.computed)

/-- The zone snapshot record of the last Changeover. -/
def State.snapOf (s : State) (z : Nat) : List Word :=
  if (s.zone z).snap.isEmpty then s.dfltWords z else (s.zone z).snap

/-! ### Bounds (R211) -/

/-- The bound of an input at t0: the value of its `LIMIT_PT`, or 25 while that is not `GOOD`. -/
def State.latchBound (s : State) (z i : Nat) : State :=
  let p := s.limitPt z i
  let x := s.inp z i
  if p ≥ 160 then s.modInp z i fun y => { y with b := f100, floor := false }
  else match s.zgood z p with
    | some v => s.modInp z i fun y => { y with b := v, floor := false }
    | none =>
      let s1 := s.modInp z i fun y => { y with b := fOfNat 25, floor := true }
      if x.floor then s1 else s1.raise (prZC (s.coreOf z)) evBoundFloor z i

/-- At t0 every enabled zone latches its bounds; an input that names no stage keeps 100. -/
def State.latchBounds (s : State) : State :=
  (List.range 32).foldl (fun t z =>
    if t.zoneOn z then (List.range 4).foldl (fun u i => u.latchBound z i) t else t) s

/-! ### Trend (R215) -/

/-- int16 in 0.01 °C, saturating; `nan` for NaN. -/
def centi (x : F32) (nan : Nat) : Nat :=
  match fUnpack x with
  | .nan => nan
  | .inf n => unsgn 16 (if n then -32768 else 32767)
  | _ => unsgn 16 (satI 16 (fRoundScaled 100 x))

/-- The trend entry of a zone (Table 7.20). -/
def State.trendEntry (s : State) (z : Nat) : List Byte :=
  let w := s.snapOf z
  let g (k : Nat) : F32 := w.getD k 0#32
  let w8 := (g 8).toNat
  let co := match fUnpack (g 2) with | .nan => 0xFFFF | _ => min 65534 (fNatScaled 1 (g 2))
  let rh := match fUnpack (g 1) with | .nan => 255 | _ => min 254 (fNatScaled 2 (g 1))
  let occ := if s.cfb (znObj z 0x020) Fd.znConf.PRES_EN then fNatScaled 250 (g 3) else 255
  leBytes 2 (centi (g 0) 0x8000) ++ leBytes 2 (centi (g 4) 0x8000) ++ leBytes 2 (centi (g 5) 0x8000) ++ leBytes 2 co ++
    [by8 rh, by8 occ] ++ leBytes 4 (g 7).toNat ++
    [by8 (bits w8 31 30 * 64 + bits w8 27 26 * 16 + bits w8 23 20),
     by8 (bits w8 19 16 * 16 + bits w8 25 25 * 8 + bits w8 24 24 * 4 + bits w8 11 11 * 2 + bits w8 8 8)]

/-- At a Changeover whose `PERIOD_COUNT` is a multiple of `TREND_EVERY` a frame is appended (R215). -/
def State.trendFrame (s : State) : State :=
  if s.per.count % s.cf (sysObj 0x070) Fd.znSys.TREND_EVERY != 0 then s
  else
    let n := (s.zs.frames + 1) % 2 ^ 32
    let f := leBytes 4 n ++ leBytes 4 s.per.count ++ leBytes 4 (rtcSeconds s) ++
      leBytes 4 (maskOf 32 fun z => (s.zone z).computed) ++ (List.range 32).flatMap s.trendEntry
    let l := s.zs.trend ++ [f]
    { s with zs.frames := n, zs.trend := l.drop (l.length - 992) }

/-! ### Start and disable of a zone (R213, R196, R86) -/

/-- A zone starts as at a cold start: its loops start with I = 0. -/
def State.zoneStart (s : State) (z : Nat) : State :=
  let s0 := s.countOcc z
  let s1 := s0.modZone z fun x => { ({} : Zone) with ovrSrc := x.ovrSrc,
                                                      pres := { since := s.now, occUs := x.pres.occUs, occMark := x.pres.occMark } }
  (s1.zoneLoops z).foldl (fun t k => t.modLoop k fun _ => {}) s1

/-- The disable of a zone takes effect: loops `OFF`, inputs to their safe values, overrides end (R213). -/
def State.zoneDisable (s : State) (z : Nat) : State :=
  let s1 := (s.zoneLoops z).foldl (fun t k => t.loopOff k) (s.countOcc z)
  let s2 := (List.range 4).foldl (fun t i => match t.inputStage z i with | none => t | some st => t.sendSafe st) s1
  let s3 := (s2.endOverride z 3).endOffset z 3 false
  s3.modZone z fun x => { x with plan := none, planBad := false, computed := false, first := true }

/-! ### Rows of their own -/

/-- DOOR_WINDOW_EXPIRY: a door window ends without motion. It is closed; `W_DOOR` is removed in step 3 of the computation that
follows, after the decay (R195). -/
def execDoorWindowExpiry (z : Fin 32) (s : State) : Out :=
  let x := (s.zone z.val).pres
  match x.doorEnd with
  | none => .next s
  | some t =>
    let n := z.val
    let seen (p : Nat) (w : Option F32) : Bool := s.motionAt n p w
    let moves := seen (s.cf (prObj n 0x020) Fd.presConf.PIR0_PT) x.pir0 || seen (s.cf (prObj n 0x020) Fd.presConf.PIR1_PT) x.pir1
    if !s.zonesRun || !s.zoneOn n || x.motion || moves || !s.cfb (znObj n 0x020) Fd.znConf.PRES_EN then .next s
    else .next ((s.advTo t).modPres n fun y => { y with doorEnd := none, doorOut := true })

/-- VACANT_HOLD_EXPIRY: a zone has been vacant for `VACANT_HOLD_S` and COMFORT is released to STANDBY (R202). -/
def execVacantHoldExpiry (z : Fin 32) (s : State) : Out :=
  let x := s.zone z.val
  let o := znObj z.val 0x020
  let h := s.cf o Fd.znConf.VACANT_HOLD_S
  if !s.zonesRun || !s.zoneOn z.val || !s.cfb o Fd.znConf.PRES_EN || x.sched != 0 || x.pres.occ || h == 0 || x.released then .next s
  else
    let s0 := s.advTo (max x.pres.since x.comfortAt + h * 1000000)
    let s1 := s0.modZone z.val fun q => { q with released := true }
    if x.ovr.isSome then .next s1
    else
      let s2 := s1.setEff z.val 1
      let b := s2.bandOf z.val 1 x.offset
      .next (s2.modZone z.val fun q => { q with bandH := b.1, bandC := b.2 })

/-- LOOP_PV_FAIL: a loop's process value has been `BAD` or `STALE` for `PV_FAIL_S` (R208). -/
def execLoopPvFail (k : Fin 64) (s : State) : Out :=
  let x := s.loop k.val
  let o := lpObj k.val 0x020
  match x.badAt with
  | none => .next s
  | some t =>
    if !s.zonesRun || x.st != .hold then .next s
    else
      let s0 := s.advTo (t + s.cf o Fd.loopConf.PV_FAIL_S * 1000000)
      let s1 := s0.modLoop k.val fun y => { y with st := .failed, out := fOfNat (s.cf o Fd.loopConf.FAIL_OUT) }
      .next (s1.raise (prZC (s.coreOf (s.cf o Fd.loopConf.ZONE))) evLoopPvFail k.val (s.cf o Fd.loopConf.PV_PT))

/-- OVERRIDE_EXPIRY: `OVR_S` runs out (R205). -/
def execOverrideExpiry (z : Fin 32) (s : State) : Out :=
  let x := s.zone z.val
  if x.ovr.isSome && s.mn.phase == .run then .next ((s.advTo x.ovrEnd).endOverride z.val 0) else .next s

end Sys2Proof.Machine
end

