-- ==== Sys2Proof/Machine/Predict.lean ====
section
/-!
DEFINITION. Sys2Proof/Machine/Predict.lean: the predictive engine (chapter 08): the zone models and their identification
(R220–R227), the plan problem and its ADMM (R228–R232), the use of the plan (R234–R237), boundary states (R238), the model
block and the plan buffer (Tables 8.10, 8.11).
-/
namespace Sys2Proof.Machine
open Sys2Proof

/-! ### Access -/

def State.mdl (s : State) (z : Nat) : Model := s.pr.models.getD z {}
def State.modMdl (s : State) (z : Nat) (f : Model → Model) : State := { s with pr.models := lmod s.pr.models z f }
def State.mc (s : State) (z : Nat) (f : Fld) : Nat := s.cf (mdObj z 0x020) f
def State.mcf (s : State) (z : Nat) (f : Fld) : F32 := s.cff (mdObj z 0x020) f
def State.pc (s : State) (f : Fld) : Nat := s.cf (peObj 0x020) f
def State.pcf (s : State) (f : Fld) : F32 := s.cff (peObj 0x020) f

/-- `PLAN_EVERY`. -/
def State.planEvery (s : State) : Nat := s.cf (sysObj 0x010) Fd.period.PLAN_EVERY
/-- h in ms (R218). -/
def State.hMs (s : State) : Nat := s.planEvery * s.periodMs

/-- Neighbour entry `n` of a zone: kind, node, zone. -/
def State.nbr (s : State) (z n : Nat) : Nat × Nat × Nat :=
  (s.mc z (Fd.mdConf.KIND0.at_ n), s.mc z (Fd.mdConf.NODE0.at_ n), s.mc z (Fd.mdConf.NZONE0.at_ n))

/-- The input names a stage. -/
def State.hasInput (s : State) (z i : Nat) : Bool := s.cf (znObj z 0x040) (inpFld Fd.znAct.A_CLASS0 i) != 0

/-- The instant at which zones are computed in the period (R23, R88). -/
def State.zoneInstantAt (s : State) : Nat :=
  if s.per.rejoin then s.per.t0 + 100000
  else s.per.t0 + s.periodMs * 10 * s.cf (sysObj 0x010) Fd.period.ZONE_AT_PCT

/-- The parameter positions whose regressor exists for the zone (R220), ascending. -/
def State.inUse (s : State) (z na : Nat) : List Nat :=
  (List.range (na - 1)) ++ ((List.range 4).filter fun i => s.hasInput z i).map (7 + ·) ++
    (if s.pc Fd.peConf.OUT_PT < 160 then [11] else []) ++
    ((List.range 4).filter fun n => (s.nbr z n).1 != 0).map (12 + ·) ++ [16]

/-- The temperature of a local zone in the last snapshot; none while it is NaN. -/
def State.snapTemp (s : State) (z : Nat) : Option F32 :=
  let t := (s.snapOf z).getD 0 fNaN
  if fNotFinite t then none else some t

/-! ### The covariance (upper triangle row by row) -/

/-- Index of entry (r, c), r ≤ c. -/
def triIdx (r c : Nat) : Nat := r * 17 - r * (r - 1) / 2 + (c - r)
/-- Entry (r, c) of a symmetric matrix. -/
def triAt (p : List F32) (r c : Nat) : F32 := p.getD (if r ≤ c then triIdx r c else triIdx c r) 0#32

/-- `P0` × I. -/
def triDiag (p0 : F32) : List F32 := (List.range 17).flatMap fun r => p0 :: List.replicate (16 - r) 0#32

/-- The upper triangle rebuilt from a function of its indexes. -/
def triMk (f : Nat → Nat → F32) : List F32 := (List.range 17).flatMap fun r => (List.range (17 - r)).map fun k => f r (r + k)

/-- The trace over the positions in use. -/
def triTrace (p : List F32) (idx : List Nat) : F32 := fSum (idx.map fun j => triAt p j j)

/-! ### Stability (R221, R225) -/

/-- Characteristic polynomial of A, leading coefficient first. -/
def charPoly (na : Nat) (th : List F32) (gam : F32) : List F32 :=
  let q (i : Nat) : F32 := if i == 0 then fOne else if i < na then fNeg (th.getD (i - 1) 0#32) else fZero
  fOne :: (List.range na).map fun k =>
    let d := fSub (q (k + 1)) (q k)
    if k == 0 then fAdd d gam else d

/-- The Jury test: every reflection coefficient is below 1 in magnitude; `n` reductions. -/
def jury : Nat → List F32 → Bool
  | 0, _ => true
  | n + 1, c =>
    match c with
    | [] => true
    | [_] => true
    | c0 :: _ =>
      let k := fDiv (c.getLastD 0#32) c0
      fLt (fAbs k) fOne &&
        jury n ((List.zipWith (fun a b => fSub a (fMul k b)) c c.reverse).dropLast)

/-- A is Schur stable; with γ = 0 it is not. -/
def schurStable (na : Nat) (th : List F32) (gam : F32) : Bool := !fEq gam fZero && jury (na + 1) (charPoly na th gam)

/-- γ over the terms that a parameter vector keeps. -/
def gammaOf (th : List F32) : F32 := fSum ((List.range 5).map fun k => th.getD (11 + k) 0#32)

/-! ### Qualification (R225) -/

/-- RMS of a model. -/
def Model.rms (m : Model) : F32 := fSqrt m.rms2

/-- `MODEL_OK` follows its three conditions; changes are logged by the producer given. -/
def State.qualify (s : State) (prod z : Nat) : State :=
  let m := s.mdl z
  let rmsBad := fLt (s.mcf z Fd.mdConf.ID_RMS_MAX) m.rms
  let ok := m.nReg ≥ s.mc z Fd.mdConf.ID_MIN_N && !rmsBad && m.stable
  let s1 := s.modMdl z fun x => { x with ok := ok }
  if ok == m.ok then s1
  else if ok then s1.raise prod evModelQualified (z + 1) m.nReg
  else s1.raise prod evModelLost (z + 1) (if !m.stable then 2 else if rmsBad then 1 else 3)

/-! ### The model block (Table 8.10) -/

/-- The 704 bytes of a zone's model. -/
def State.modelBlock (s : State) (z : Nat) : List Byte :=
  let m := s.mdl z
  leBytes 2 1 ++ [by8 m.na, by8 (b2n m.ok)] ++ leBytes 4 m.hMs ++ leBytes 4 m.nReg ++ wordBytes m.rms ++
    m.theta.flatMap wordBytes ++ m.p.flatMap wordBytes ++ List.replicate 8 0#8

/-- The write check of Table 8.10. -/
def State.modelBlockOk (s : State) (z : Nat) (b : List Byte) : Bool :=
  let na := s.mc z Fd.mdConf.N_A
  let w (k : Nat) : F32 := wd (leAt b k 4)
  let th := (List.range 17).map fun j => w (16 + 4 * j)
  let p := (List.range 153).map fun j => w (84 + 4 * j)
  let use := s.inUse z na
  leAt b 0 2 == 1 && leAt b 2 1 == na && leAt b 3 1 / 2 == 0 && leAt b 4 4 == s.hMs && !fNotFinite (w 12) && fLe fZero (w 12) &&
    ((List.range 17).all fun j => use.contains j || fEq (th.getD j 0#32) fZero) &&
    p.all (fun x => !fNotFinite x) && ((List.range 17).all fun j => fLt fZero (triAt p j j)) &&
    leAt b 696 8 == 0

/-- A model taken from a block; `MODEL_OK` then follows from R225. -/
def modelOf (m : Model) (b : List Byte) : Model :=
  let w (k : Nat) : F32 := wd (leAt b k 4)
  let th := (List.range 17).map fun j => w (16 + 4 * j)
  let na := max 1 (leAt b 2 1)
  { m with theta := th, p := (List.range 153).map fun j => w (84 + 4 * j), nReg := sat 24 (leAt b 8 4), rms2 := fMul (w 12) (w 12),
           hMs := leAt b 4 4, na := na, stable := schurStable na th (gammaOf th) }

/-- The record of the model is written through `Q-REC` (R227). -/
def State.saveModel (s : State) (prod z : Nat) : State :=
  (s.modMdl z fun x => { x with sinceSave := 0 }).postRec prod { region := 2, record := z, data := s.modelBlock z }

/-! ### Reset (R226) -/

/-- A model is reset, with its events and its record write. -/
def State.resetModel (s : State) (evProd recProd z why : Nat) (keep : Nat) : State :=
  let m := s.mdl z
  let n : Model := { ({} : Model) with p := triDiag (s.mcf z Fd.mdConf.P0), hMs := s.hMs, na := s.mc z Fd.mdConf.N_A,
                                       ys := m.ys.take keep, acc := m.acc, due := m.due, recalledDflt := false, nbrs := m.nbrs }
  let s1 := s.modMdl z fun _ => n
  let s2 := if m.ok then s1.raise evProd evModelLost (z + 1) 3 else s1
  (s2.raise evProd evModelReset (z + 1) why).saveModel recProd z

/-- Positions whose regressor does not exist hold 0 (R220). -/
def State.dropUnused (s : State) (z : Nat) : State :=
  let m := s.mdl z
  let use := s.inUse z m.na
  let th := (List.range 17).map fun j => if use.contains j then m.theta.getD j 0#32 else fZero
  if th == m.theta then s else s.modMdl z fun x => { x with theta := th }

/-- One neighbour entry changed: its c_n and its row and column of P start afresh (R226), its state counts as removed (R238). -/
def State.resetNbr (s : State) (z n : Nat) : State :=
  let p0 := s.mcf z Fd.mdConf.P0
  let j := 12 + n
  s.modMdl z fun m =>
    { m with theta := lset m.theta j 0#32,
             p := triMk fun r c => if r == j || c == j then (if r == c then p0 else 0#32) else triAt m.p r c,
             nbrs := lset m.nbrs n {} }

/-! ### Step means (R220, R223) -/

def StepMean.add (m : StepMean) (o : Option F32) : StepMean :=
  match o with
  | none => m
  | some v => { sum := fAdd m.sum v, n := m.n + 1 }

def StepMean.mean (m : StepMean) : F32 := fDiv m.sum (fOfNat m.n)

/-- A neighbour's temperature as identification sees it. -/
def State.nbrTemp (s : State) (z n : Nat) : Option F32 :=
  let (k, _, nz) := s.nbr z n
  let b := (s.mdl z).nbrs.getD n {}
  if k == 1 then s.snapTemp nz
  else if k == 2 then (if b.age ≤ 3 && s.mn.mode != .platform && !fNotFinite b.t then some b.t else none)
  else none

/-- Step 6, first part: the values of this period enter the running means; a period in which an input lacked proof only
marks the step (R212). -/
def State.addStep (s : State) (z : Nat) : State :=
  let unp := (List.range 4).any fun i => (s.inp z i).unproven
  let us := (List.range 4).map fun i => match s.inputStage z i with | none => none | some st => some (fDiv (s.inForce st) f100)
  let yo := s.zgood z (s.pc Fd.peConf.OUT_PT)
  let nb := (List.range 4).map fun n => s.nbrTemp z n
  s.modMdl z fun m =>
    let a := m.acc
    let a1 : StepAcc :=
      if unp then { a with periods := a.periods + 1, unproven := true }
      else { a with periods := a.periods + 1, u := List.zipWith StepMean.add a.u us, yo := a.yo.add yo,
                    nb := List.zipWith StepMean.add a.nb nb }
    { m with acc := a1 }

/-! ### Regression (R223, R224) -/

/-- A step boundary: y of the snapshot, at most nine kept (n_a + 1 for the highest order). -/
def State.boundary (s : State) (z : Nat) : State :=
  s.modMdl z fun m => { m with ys := ((s.snapTemp z) :: m.ys).take 9, due := some m.acc, acc := {} }

/-- Δy between boundaries k and k + 1, newest first. -/
def deltaAt (ys : List (Option F32)) (k : Nat) : Option F32 :=
  match ys.getD k none, ys.getD (k + 1) none with
  | some a, some b => some (fSub a b)
  | _, _ => none

/-- The regressor vector of the step that has just ended, with Δy_k; none when a case of R223 skips it. -/
def State.regressor (s : State) (z : Nat) (a : StepAcc) : Option (List F32 × F32) :=
  let m := s.mdl z
  let pe := s.planEvery
  let na := m.na
  let use := s.inUse z na
  let few (n : Nat) : Bool := 2 * (pe - n) > pe
  let lag := (List.range 7).map fun j => deltaAt m.ys (j + 1)
  let y0 := m.ys.getD 1 none
  let short := m.ys.length < na + 1 || ((List.range (na - 1)).any fun j => (lag.getD j none).isNone)
  let lack := (use.contains 11 && few a.yo.n) ||
    ((List.range 4).any fun n => use.contains (12 + n) && few (a.nb.getD n {}).n) || few a.periods ||
    ((List.range 4).any fun i => use.contains (7 + i) && few (a.u.getD i {}).n)
  match deltaAt m.ys 0, y0 with
  | some dy, some y =>
    if a.unproven || short || lack || s.cfb (mdObj z 0x020) Fd.mdConf.ID_FREEZE then none
    else
      some ((List.range 17).map (fun j =>
        if !use.contains j then fZero
        else if j < 7 then (lag.getD j none).getD fZero
        else if j < 11 then (a.u.getD (j - 7) {}).mean
        else if j == 11 then fSub a.yo.mean y
        else if j < 16 then fSub (a.nb.getD (j - 12) {}).mean y
        else fOne), dy)
  | _, _ => none

/-- A sum of products over positions, each multiply-accumulate fused (R232). -/
def dotOver (idx : List Nat) (f g : Nat → F32) : F32 := idx.foldl (fun a j => fFma (f j) (g j) a) fZero

/-- The signs of R224. -/
def State.signFix (s : State) (z : Nat) (th : List F32) : List F32 :=
  (List.range 4).foldl (fun l i =>
    let b := l.getD (7 + i) 0#32
    let r := s.cf (znObj z 0x040) (inpFld Fd.znAct.A_ROLE0 i)
    if (r == 0 && fLt b fZero) || (r == 1 && fLt fZero b) then lset l (7 + i) 0#32 else l) th

/-- One recursive least-squares update (R224). -/
def State.regress (s : State) (prod z : Nat) (phi : List F32) (dy : F32) : State :=
  let m := s.mdl z
  let idx := s.inUse z m.na
  let lam := s.mcf z Fd.mdConf.LAMBDA
  let ph (j : Nat) : F32 := phi.getD j 0#32
  let th (j : Nat) : F32 := m.theta.getD j 0#32
  let e := fSub dy (dotOver idx ph th)
  if fLt (s.mcf z Fd.mdConf.E_OUTLIER) (fAbs e) then
    let n := sat 16 (m.outliers + 1)
    if m.run + 1 ≥ 10 then
      (s.modMdl z fun x => { x with outliers := n, run := 0, p := triDiag (s.mcf z Fd.mdConf.P0) }).raise prod evIdReadapt (z + 1) n
    else s.modMdl z fun x => { x with outliers := n, run := x.run + 1 }
  else
    let pv := (List.range 17).map fun r => if idx.contains r then dotOver idx (triAt m.p r) ph else fZero
    let pf (j : Nat) : F32 := pv.getD j 0#32
    let den := fAdd lam (dotOver idx ph pf)
    let g (j : Nat) : F32 := fDiv (pf j) den
    let th1 := (List.range 17).map fun j => if idx.contains j then fFma (g j) e (th j) else th j
    let p1 := triMk fun r c =>
      if idx.contains r && idx.contains c then fDiv (fFma (fNeg (g r)) (pf c) (triAt m.p r c)) lam else triAt m.p r c
    let tr := triTrace p1 idx
    let tm := s.mcf z Fd.mdConf.TRACE_MAX
    let p2 := if fLt tm tr then
        triMk fun r c => if idx.contains r && idx.contains c then fDiv (fMul (triAt p1 r c) tm) tr else triAt p1 r c
      else p1
    let th2 := s.signFix z th1
    let r2 := fAdd (fMul lam m.rms2) (fMul (fSub fOne lam) (fMul e e))
    let s1 := s.modMdl z fun x =>
      { x with theta := th2, p := p2, rms2 := r2, run := 0, nReg := sat 24 (x.nReg + 1), sinceSave := x.sinceSave + 1,
               stable := schurStable x.na th2 (gammaOf th2) }
    let s2 := s1.qualify prod z
    if (s2.mdl z).sinceSave ≥ s2.mc z Fd.mdConf.ID_SAVE then s2.saveModel (1 + (prod - 4)) z else s2

/-- The regression of the step that has just ended, in the first period of the next one; `ID_RESET` acts here (R239). -/
def State.regression (s : State) (z : Nat) : State :=
  let prod := prZC (s.coreOf z)
  match (s.mdl z).due with
  | none => s
  | some a =>
    let s0 := s.modMdl z fun m => { m with due := none }
    let s1 := if (s0.mdl z).resetDue then s0.resetModel prod (1 + s.coreOf z) z 0 2 else s0
    let s2 := match s1.regressor z a with
      | some (phi, dy) => s1.regress prod z phi dy
      | none => s1.modMdl z fun m => { m with skipped := sat 16 (m.skipped + 1) }
    if (s0.mdl z).resetDue then s2.modMdl z fun m => { m with ys := m.ys.take 1 } else s2

/-- Step 6 of a zone computation. -/
def State.identify (s : State) (z : Nat) : State := (s.regression z).addStep z

/-- At a Changeover: a regression that its zone never reached is skipped; a step that ends takes its boundary (R218, R223). -/
def State.modelsBoundary (s : State) : State :=
  let pe := s.planEvery
  (List.range 32).foldl (fun t z =>
    if !t.zoneOn z then t
    else
      let t1 := if (t.mdl z).due.isSome && t.per.count % pe == 0 then
          t.modMdl z fun m => { m with due := none, skipped := sat 16 (m.skipped + 1) }
        else t
      if (t.per.count + 1) % pe == 0 then t1.boundary z else t1) s

/-! ### Boundary states (R238) -/

/-- What has arrived in the period becomes the state in force; the last plan blocks are kept (R374). -/
def NbrState.publish (b : NbrState) : NbrState :=
  match b.arrived with
  | none => b
  | some (t, none) => { b with t := t, arrived := none }
  | some (t, some (l, len, at_)) => { b with t := t, blocks := l, blockS := len, solveAt := at_, arrived := none }

/-- JN publishes the boundary states at each Changeover and sets the ages of the remote neighbours. -/
def State.boundaryAges (s : State) : State :=
  (List.range 32).foldl (fun t z => (List.range 4).foldl (fun u n =>
    if (u.nbr z n).1 != 2 then u
    else
      let b := (u.mdl z).nbrs.getD n {}
      let put (x : NbrState) : State := u.modMdl z fun m => { m with nbrs := lset m.nbrs n x }
      if b.fresh then
        let s1 := put { b.publish with fresh := false, age := 0, start := false }
        if b.age ≥ 4 then s1.raise prJN evBsBack (z + 1) (n * 256 + (if b.start then 255 else b.age)) else s1
      else
        let a := min 255 (b.age + 1)
        let s1 := put { b with age := a }
        if b.start then s1
        else if a == 1 then s1.raise prJN evBsAged (z + 1) n
        else if a == 4 then s1.raise prJN evBsRemoved (z + 1) n
        else s1) t) s

/-- Byte n of `NBR_STATE` (Table 8.9). -/
def State.nbrByte (s : State) (z n : Nat) : Nat :=
  let (k, _, nz) := s.nbr z n
  let b := (s.mdl z).nbrs.getD n {}
  if k == 1 then (if (s.snapTemp nz).isSome then 64 else 192)
  else if k == 2 then (if b.age == 0 then 64 else if b.age ≤ 3 then 128 else 192) + min 63 b.age
  else 0

/-! ### Setting a solve up (R222, R228, R229) -/

/-- The block temperatures of a remote neighbour on this engine's grid, each the mean over the steps of its block: the remote blocks
are shifted by whole blocks, the last one repeated, flat without a plan or past its horizon (R222, R238, R374). -/
def State.remoteBlocks (s : State) (b : NbrState) (nb lb : Nat) : List F32 :=
  let el := ((s.per.t0 : Int) - b.solveAt).toNat / 1000000
  let at_ (k : Nat) : F32 := b.blocks.getD (min (b.blocks.length - 1) (el / b.blockS + k * s.hMs / 1000 / b.blockS)) b.t
  if b.blocks.isEmpty || b.blockS == 0 || el ≥ b.blocks.length * b.blockS then List.replicate nb b.t
  else (List.range nb).map fun k => fDiv (fSum ((List.range lb).map fun j => at_ (k * lb + j))) (fOfNat lb)

/-- The band of step `j` of the horizon (R229). -/
def State.bandAt (s : State) (z j : Nat) : F32 × F32 :=
  let x := s.zone z
  let w := s.snapOf z
  let secs := rtcSeconds s + j * s.hMs / 1000
  let at_ := s.per.t0 + j * s.hMs * 1000
  let swDue := x.nextSw != 0 && secs ≥ x.nextSw
  let ovrDue := x.ovr.isSome && at_ ≥ x.ovrEnd
  if !swDue && !ovrDue then (w.getD 4 fNaN, w.getD 5 fNaN)
  else
    let o := znObj z 0x020
    let sched := s.schedState z secs
    let eff := match x.ovr with
      | some e => if at_ < x.ovrEnd then e else
          (if s.cfb o Fd.znConf.PRES_EN then presShift sched x.pres.occ (s.cfb o Fd.znConf.PRES_ECO) true else sched)
      | none => if s.cfb o Fd.znConf.PRES_EN then presShift sched x.pres.occ (s.cfb o Fd.znConf.PRES_ECO) true else sched
    s.bandOf z eff (if x.keep then x.offset else fZero)

/-- The conditions of R228 but for `MODEL_OK`, which the stability test at setup may still change. -/
def State.takesPart (s : State) (z : Nat) : Bool :=
  s.zoneOn z && s.cfb (znObj z 0x020) Fd.znConf.PLAN_EN && (s.snapTemp z).isSome && s.mn.mode == .mainline &&
    (List.range 4).any fun i => s.hasInput z i && s.cfb (znObj z 0x040) (inpFld Fd.znAct.A_PLAN0 i)

/-- The outdoor temperature as PE holds it: the latest `GOOD` value of `OUT_PT` (R222). -/
def State.noteOutdoor (s : State) : State :=
  let p := s.pc Fd.peConf.OUT_PT
  if p < 160 && (s.pt p).stat == .good then { s with pr.outT := some (s.pt p).y } else s

/-- The terms of a zone that are in use, and its parameters with the removed ones 0. -/
def State.solveTheta (s : State) (z : Nat) : List F32 :=
  let m := s.mdl z
  let use := s.inUse z m.na
  (List.range 17).map fun j =>
    let v := m.theta.getD j 0#32
    if !use.contains j then fZero
    else if j == 11 then (if s.pr.outT.isSome then v else fZero)
    else if j ≥ 12 && j < 16 then
      (let (k, _, nz) := s.nbr z (j - 12)
       let b := (m.nbrs.getD (j - 12) {})
       if k == 1 then (if (s.snapTemp nz).isSome then v else fZero) else if k == 2 && b.age ≤ 3 then v else fZero)
    else v

/-- What the solve uses of one zone. -/
def State.solveZone (s : State) (zs : List Nat) (z : Nat) (nSteps nBlocks : Nat) : SolveZone :=
  let m := s.mdl z
  let lb := nSteps / nBlocks
  let cur := (List.range 4).map fun i => match s.inputStage z i with | none => fZero | some st => fDiv (s.inForce st) f100
  let pin (i : Nat) : Option F32 :=
    match s.inputStage z i with
    | none => some fZero
    | some st =>
      if (s.inp z i).unproven then some (fDiv (s.inp z i).proven f100)
      else if !s.cfb (znObj z 0x040) (inpFld Fd.znAct.A_PLAN0 i) || (s.directOf st).isSome || s.guardHas st then some (cur.getD i fZero)
      else none
  let bands := (List.range nSteps).map fun j => s.bandAt z (j + 1)
  let nb (n : Nat) : Option Nat := let (k, _, nz) := s.nbr z n; if k == 1 && zs.contains nz then some nz else none
  let flat (n : Nat) : Option (List F32) :=
    let (k, _, nz) := s.nbr z n
    if k == 1 && !zs.contains nz then (s.snapTemp nz).map (List.replicate nBlocks)
    else if k == 2 && (m.nbrs.getD n {}).age ≤ 3 then some (s.remoteBlocks (m.nbrs.getD n {}) nBlocks lb)
    else none
  { z := z, na := m.na, theta := s.solveTheta z,
    x0 := (m.ys.getD 0 none).getD fNaN :: (List.range (m.na - 1)).map fun j => (deltaAt m.ys j).getD fNaN,
    yo := s.pr.outT, nbLocal := (List.range 4).map nb, nbFlat := (List.range 4).map flat,
    lo := (List.range 4).map fun i => (pin i).getD fZero,
    hi := (List.range 4).map fun i => (pin i).getD (fDiv (s.inp z i).bComp f100),
    cur := cur,
    driven := (List.range 4).map fun i => s.hasInput z i && s.cfb (znObj z 0x040) (inpFld Fd.znAct.A_PLAN0 i),
    ew := (List.range 4).map fun i => s.mcf z (Fd.mdConf.E_W0.at_ i),
    bh := bands.map (·.1), bc := bands.map (·.2), y0 := (s.snapTemp z).getD fNaN }

/-- `ITER_EFF` (R233), in tenths of µs. -/
def State.iterEff (s : State) (zp : Nat) : Nat :=
  let at_ := s.periodMs * s.cf (sysObj 0x010) Fd.period.ZONE_AT_PCT * 100
  let room := at_ - (2000 + 250 * zp + 10000) - 1
  min (s.pc Fd.peConf.ITER_MAX) (room / (40 + 16 * zp) / 10 * 10)

/-! ### The prediction (R221) -/

/-- One step of the model: the state x = [y, Δy_{k−1}, …] under a drive d of rows 1 and 2. -/
def stepModel (na : Nat) (th : List F32) (gam d : F32) (x : List F32) : List F32 :=
  let y := x.getD 0 0#32
  let lags := x.drop 1
  let r1 := fAdd (fDot (fMul (fSub fOne gam) y) (th.take (na - 1)) lags) d
  let r2 := fAdd (fDot (fMul (fNeg gam) y) (th.take (na - 1)) lags) d
  (r1 :: r2 :: lags).take na

/-- y_1 … y_N under a list of drives. -/
def rollModel (na : Nat) (th : List F32) (gam : F32) : List F32 → List F32 → List F32
  | [], _ => []
  | d :: ds, x =>
    let x1 := stepModel na th gam d x
    x1.getD 0 0#32 :: rollModel na th gam ds x1

/-- A list of block values expanded to steps. -/
def toSteps (lb : Nat) (l : List F32) : List F32 := l.flatMap fun v => List.replicate lb v

/-- The block means of step values; `n` blocks. -/
def blockMeans (lb : Nat) : Nat → List F32 → List F32
  | 0, _ => []
  | n + 1, l => fDiv (fSum (l.take lb)) (fOfNat lb) :: blockMeans lb n (l.drop lb)

/-- The matrices and start values of one zone's problem. -/
structure ZProb where
  sz : SolveZone
  gam : F32
  /-- free response f -/
  f : List F32
  /-- columns of G = Γ S, input-major, blocks ascending -/
  cols : List (List F32)
  /-- P_z and q_z -/
  pm : List (List F32)
  q : List F32
  /-- rows of the Cholesky factor of K_z; none on a failed pivot -/
  chol : Option (List (List F32))
  lo : List F32
  hi : List F32
  deriving DecidableEq, Repr

/-- Solver parameters. -/
structure SolvePar where
  rhoU : F32
  rhoT : F32
  sigma : F32
  alpha : F32
  epsT : F32
  epsU : F32
  epsD : F32
  wComf : F32
  wMove : F32
  wReg : F32
  nSteps : Nat
  nBlocks : Nat
  deriving DecidableEq, Repr

def State.solvePar (s : State) (nSteps nBlocks : Nat) : SolvePar :=
  { rhoU := s.pcf Fd.peConf.RHO_U, rhoT := s.pcf Fd.peConf.RHO_T, sigma := s.pcf Fd.peConf.SIGMA, alpha := s.pcf Fd.peConf.ALPHA,
    epsT := s.pcf Fd.peConf.EPS_T, epsU := s.pcf Fd.peConf.EPS_U, epsD := s.pcf Fd.peConf.EPS_D, wComf := s.pcf Fd.peConf.W_COMF,
    wMove := s.pcf Fd.peConf.W_MOVE, wReg := s.pcf Fd.peConf.W_REG, nSteps := nSteps, nBlocks := nBlocks }

/-- Rows of the Cholesky factor, the rows found so far first; `piv` is the least pivot that is accepted. -/
def cholRows (piv : F32) : List (List F32) → List (List F32) → Option (List (List F32))
  | [], acc => some acc
  | k :: rest, acc =>
    let n := acc.length
    let row := (List.range n).foldl (fun (r : List F32) j =>
      let lj := acc.getD j []
      let v := fSub (k.getD j 0#32) (fDot fZero r (lj.take j))
      r ++ [fDiv v (lj.getD j 0#32)]) []
    let d := fSub (k.getD n 0#32) (fDot fZero row row)
    if fLt piv d then cholRows piv rest (acc ++ [row ++ [fSqrt d]]) else none

/-- The solution of L Lᵀ x = r: forward, then backward. -/
def cholSolve (l : List (List F32)) (r : List F32) : List F32 :=
  let y := (l.zip r).foldl (fun (acc : List F32) p =>
    acc ++ [fDiv (fSub p.2 (fDot fZero p.1 acc)) (p.1.getD acc.length 0#32)]) []
  let n := l.length
  ((List.range n).reverse).foldl (fun (acc : List F32) i =>
    let below := (List.range (n - 1 - i)).map fun k => (l.getD (i + 1 + k) []).getD i 0#32
    fDiv (fSub (y.getD i 0#32) (fDot fZero below acc)) ((l.getD i []).getD i 0#32) :: acc) []

/-- The problem of one zone (R230). -/
def zProb (p : SolvePar) (sz : SolveZone) : ZProb :=
  let lb := p.nSteps / p.nBlocks
  let th (j : Nat) : F32 := sz.theta.getD j 0#32
  let gam := gammaOf sz.theta
  let na := sz.na
  let zero := List.replicate na 0#32
  let own := fAdd (fMul (th 11) (sz.yo.getD fZero)) (th 16)
  let f := rollModel na sz.theta gam (List.replicate p.nSteps own) sz.x0
  let col (i b : Nat) : List F32 :=
    rollModel na sz.theta gam ((List.range p.nSteps).map fun k => if k / lb == b then th (7 + i) else fZero) zero
  let cols := (List.range 4).flatMap fun i => (List.range p.nBlocks).map fun b => col i b
  let n := 4 * p.nBlocks
  let pm := (List.range n).map fun r => (List.range n).map fun c =>
    let dtd : Nat := if r == c then (if r % p.nBlocks + 1 == p.nBlocks then 1 else 2) else 0
    let off := r / p.nBlocks == c / p.nBlocks && (r + 1 == c || c + 1 == r)
    let m := fMul p.wMove (if off then fNeg fOne else fOfNat dtd)
    fMul (fOfNat 2) (if r == c then fAdd p.wReg m else m)
  let q := (List.range 4).flatMap fun i => (List.range p.nBlocks).map fun b =>
    let e := fMul (fOfNat lb) (sz.ew.getD i 0#32)
    if b == 0 then fSub e (fMul (fMul (fOfNat 2) p.wMove) (sz.cur.getD i 0#32)) else e
  let k := (List.range n).map fun r => (List.range n).map fun c =>
    let g := fMul p.rhoT (fDot fZero (cols.getD r []) (cols.getD c []))
    let a := fAdd ((pm.getD r []).getD c 0#32) g
    if r == c then fAdd a (fAdd p.sigma p.rhoU) else a
  let dmax := (List.range n).foldl (fun m r => fMax m ((k.getD r []).getD r 0#32)) fZero
  let rep (l : List F32) : List F32 := l.flatMap fun v => List.replicate p.nBlocks v
  { sz := sz, gam := gam, f := f, cols := cols, pm := pm, q := q, chol := cholRows (fMul (fOfRat 1 1000000) dmax) k [],
    lo := rep sz.lo, hi := rep sz.hi }

/-! ### The iteration (R230, R231) -/

/-- A zone's iterate. -/
structure Iter where
  x : List F32
  zu : List F32
  yu : List F32
  zt : List F32
  yt : List F32
  yhat : List F32
  /-- Ŷ at the previous check -/
  ychk : List F32
  /-- residuals of the last check: r_T, r_U, r_D and the change of Ŷ -/
  res : List F32
  pass : Bool
  deriving DecidableEq, Repr

def vAdd (a b : List F32) : List F32 := List.zipWith fAdd a b
def vSub (a b : List F32) : List F32 := List.zipWith fSub a b
def vScale (k : F32) (a : List F32) : List F32 := a.map (fMul k)
def vMaxAbs (a : List F32) : F32 := if a.any fIsNaN then fNaN else a.foldl (fun m x => fMax m (fAbs x)) fZero

/-- G x from the columns of G. -/
def gMul (n : Nat) (cols : List (List F32)) (x : List F32) : List F32 :=
  (cols.zip x).foldl (fun acc p => List.zipWith (fun a g => fFma p.2 g a) acc p.1) (List.replicate n 0#32)

/-- Gᵀ t. -/
def gTMul (cols : List (List F32)) (t : List F32) : List F32 := cols.map fun c => fDot fZero c t

/-- Over- and under-relaxation α a + (1 − α) b. -/
def relax (al : F32) (a b : List F32) : List F32 := List.zipWith (fun p q => fFma al p (fMul (fSub fOne al) q)) a b

/-- softclip of R230. -/
def softclip (p : SolvePar) (w a b : F32) : F32 :=
  let soft (e : F32) : F32 :=
    let k := fMul (fOfNat 2) p.wComf
    fDiv (fAdd (fMul p.rhoT w) (fMul k e)) (fAdd p.rhoT k)
  if fLt w a then soft a else if fLt b w then soft b else w

/-- The coupling response c = Σ Ψ_n Ŷ_n. -/
def coupling (p : SolvePar) (all : List (Nat × List F32)) (zp : ZProb) : List F32 :=
  let lb := p.nSteps / p.nBlocks
  let yn (n : Nat) : List F32 :=
    match zp.sz.nbLocal.getD n none with
    | some nz => ((all.find? fun e => e.1 == nz).map (·.2)).getD []
    | none => (zp.sz.nbFlat.getD n none).getD []
  let drive := (List.range p.nBlocks).map fun b =>
    (List.range 4).foldl (fun a n => fFma (zp.sz.theta.getD (12 + n) 0#32) ((yn n).getD b 0#32) a) fZero
  rollModel zp.sz.na zp.sz.theta zp.gam (toSteps lb drive) (List.replicate zp.sz.na 0#32)

/-- One iteration of one zone, with the new Ŷ. -/
def iterZone (p : SolvePar) (all : List (Nat × List F32)) (zp : ZProb) (t : Iter) : Iter :=
  let lb := p.nSteps / p.nBlocks
  let c := coupling p all zp
  let fc := vAdd zp.f c
  let loT := vSub zp.sz.bh fc
  let hiT := vSub zp.sz.bc fc
  let r := vAdd (vAdd (vSub (vScale p.sigma t.x) zp.q) (vSub (vScale p.rhoU t.zu) t.yu)) (gTMul zp.cols (vSub (vScale p.rhoT t.zt) t.yt))
  let xt := cholSolve (zp.chol.getD []) r
  let tt := gMul p.nSteps zp.cols xt
  let x := relax p.alpha xt t.x
  let wu := relax p.alpha xt t.zu
  let wt := relax p.alpha tt t.zt
  let zu := List.zipWith (fun a (b : F32 × F32) => fClamp b.1 b.2 a) (vAdd wu (t.yu.map fun y => fDiv y p.rhoU)) (zp.lo.zip zp.hi)
  let zt := List.zipWith (fun a (b : F32 × F32) => softclip p a b.1 b.2) (vAdd wt (t.yt.map fun y => fDiv y p.rhoT)) (loT.zip hiT)
  { t with x := x, zu := zu, zt := zt, yu := vAdd t.yu (vScale p.rhoU (vSub wu zu)), yt := vAdd t.yt (vScale p.rhoT (vSub wt zt)),
           yhat := blockMeans lb p.nBlocks (vAdd fc (gMul p.nSteps zp.cols x)) }

/-- The check of R231. -/
def checkZone (p : SolvePar) (zp : ZProb) (t : Iter) : Iter :=
  let rT := vMaxAbs (vSub (gMul p.nSteps zp.cols t.x) t.zt)
  let rU := fMul f100 (vMaxAbs (vSub t.x t.zu))
  let px := zp.pm.map fun row => fDot fZero row t.x
  let rD := vMaxAbs (vAdd (vAdd (vAdd px zp.q) t.yu) (gTMul zp.cols t.yt))
  let dY := vMaxAbs (vSub t.yhat t.ychk)
  { t with ychk := t.yhat, res := [rT, rU, rD, dY],
           pass := fLe rT p.epsT && fLe rU p.epsU && fLe rD p.epsD && fLe dY p.epsT }

/-- A check finds a NaN or an infinity (R232). -/
def iterBad (t : Iter) : Bool := t.res.any fNotFinite || t.x.any fNotFinite || t.yhat.any fNotFinite

/-- Iterations from number `i`, `n` left: the iterates, the iterations run and whether a numeric fault was met. -/
def iterate (p : SolvePar) (zps : List ZProb) : Nat → Nat → List Iter → List Iter × Nat × Bool
  | 0, i, ts => (ts, i, false)
  | n + 1, i, ts =>
    let all := List.zipWith (fun (zp : ZProb) (t : Iter) => (zp.sz.z, t.yhat)) zps ts
    let ts1 := List.zipWith (iterZone p all) zps ts
    let i1 := i + 1
    if i1 % 10 == 0 then
      let ts2 := List.zipWith (checkZone p) zps ts1
      if ts2.any iterBad then (ts2, i1, true)
      else if ts2.all (·.pass) then (ts2, i1, false)
      else iterate p zps n i1 ts2
    else iterate p zps n i1 ts1

/-- A list of the right length, or zeros. -/
def warmOr (n : Nat) (l : List F32) : List F32 := if l.length == n then l else List.replicate n 0#32

/-- The start of an iteration from the warm start (R230). -/
def iterStart (p : SolvePar) (w : Warm) (sz : SolveZone) : Iter :=
  let n := 4 * p.nBlocks
  let y := if w.yhat.length == p.nBlocks then w.yhat else List.replicate p.nBlocks sz.y0
  { x := warmOr n w.x, zu := warmOr n w.zu, yu := warmOr n w.yu, zt := warmOr p.nSteps w.zt, yt := warmOr p.nSteps w.yt,
    yhat := y, ychk := y, res := [], pass := false }

/-! ### A solve's start and end (R218, R234, R235) -/

/-- The block temperatures of the plan that a zone holds, from which the next solve starts (R230); none without a plan. -/
def State.keepTemps (s : State) (z : Nat) : State :=
  let y := match s.pr.plans.getD z none with
    | none => []
    | some pl => blockMeans (s.pr.nSteps / s.pr.nBlocks) s.pr.nBlocks pl.ys
  { s with pr.warm := lmod s.pr.warm z fun w => { w with yhat := y } }

/-- A zone holds no plan and none of its counts (R234, R237). -/
def State.dropPlan (s : State) (z : Nat) : State :=
  State.keepTemps { s with pr.plans := lset s.pr.plans z none, pr.src := lset s.pr.src z 0, pr.inPlan := lset s.pr.inPlan z false,
                           pr.fallen := lset s.pr.fallen z false, pr.failRun := lset s.pr.failRun z 0 } z

/-- A zone that does not take part loses its plan (R228, R234). -/
def State.leavePlan (s : State) (z : Nat) : State :=
  let was := s.pr.inPlan.getD z false
  let s1 := s.dropPlan z
  if was then s1.postPnt prPE (s1.ringOf z) (.plan z { inPlan := false, sp := fNaN, cmds := List.replicate 4 none }) else s1

/-- The stability test of a zone at setup and the qualification that follows from it (R225, R232). -/
def State.testAtSetup (s : State) (z : Nat) : State :=
  let th := s.solveTheta z
  let st := schurStable (s.mdl z).na th (gammaOf th)
  (s.modMdl z fun m => { m with stable := st }).qualify prPE z

/-- At the t0 of a solve period the problem is set up from the last snapshot (R228–R230). -/
def State.solveStart (s : State) : State :=
  let s0 := s.noteOutdoor
  let cand := (List.range 32).filter s0.takesPart
  let s1 := cand.foldl State.testAtSetup s0
  let zs := cand.filter fun z => (s1.mdl z).ok
  let s2 := (List.range 32).foldl (fun t z => if zs.contains z then t else t.leavePlan z) s1
  let n := s2.pc Fd.peConf.N_STEPS
  let nb := s2.pc Fd.peConf.N_BLOCKS
  let base : Predict := { s2.pr with solves := sat 16 (s2.pr.solves + 1), lastSolve := s2.per.count, planned := zs.length,
                                     iterEff := s2.iterEff zs.length, nSteps := n, nBlocks := nb, hMs := s2.hMs }
  if zs.isEmpty then { s2 with pr := { base with result := 5, iter := 0, st := 1, warm := List.replicate 32 {} } }
  else
    let sv : Solve := { startAt := s2.now, period := s2.per.count, nSteps := n, nBlocks := nb,
                        zones := zs.map fun z => s2.solveZone zs z n nb }
    { s2 with pr := { base with st := 2, solve := some sv } }

/-- The inputs of step `k` of a plan. -/
def planStep (sz : SolveZone) (zu : List F32) (nb lb k : Nat) : List (Option F32) :=
  (List.range 4).map fun i => if sz.driven.getD i false then some (zu.getD (i * nb + k / lb) 0#32) else none

/-- The plan of a zone that passed. -/
def planOf (p : SolvePar) (base : Nat) (all : List (Nat × List F32)) (zp : ZProb) (t : Iter) : Plan :=
  let lb := p.nSteps / p.nBlocks
  { ys := vAdd (vAdd zp.f (coupling p all zp)) (gMul p.nSteps zp.cols t.x),
    us := (List.range p.nSteps).map fun k => planStep zp.sz t.zu p.nBlocks lb k, base := base }

/-- A plan shifted by one step, its last step repeated. -/
def Plan.shift (pl : Plan) (base : Nat) : Plan :=
  { ys := pl.ys.drop 1 ++ (match pl.ys.getLast? with | some y => [y] | none => []),
    us := pl.us.drop 1 ++ (match pl.us.getLast? with | some u => [u] | none => []), base := base }

/-- A zone passed: it takes the new plan. -/
def State.planPassed (s : State) (z iters : Nat) (pl : Plan) : State :=
  let was := s.pr.fallen.getD z false
  let s1 := { s with pr.plans := lset s.pr.plans z (some pl), pr.src := lset s.pr.src z 1, pr.failRun := lset s.pr.failRun z 0,
                     pr.inPlan := lset s.pr.inPlan z true, pr.fallen := lset s.pr.fallen z false }
  if was then (s1.keepTemps z).raise prPE evPlanResumed (z + 1) iters else s1.keepTemps z

/-- A zone failed: its plan is shifted, or it falls back. -/
def State.planFailed (s : State) (z : Nat) : State :=
  let n := min 3 (s.pr.failRun.getD z 0 + 1)
  let s1 := { s with pr.failRun := lset s.pr.failRun z n }
  match s.pr.plans.getD z none with
  | some pl =>
    if n < 3 then
      State.keepTemps { s1 with pr.plans := lset s1.pr.plans z (some (pl.shift s.pr.lastSolve)), pr.src := lset s1.pr.src z (n + 1) } z
    else
      let s2 := { s1 with pr.plans := lset s1.pr.plans z none, pr.src := lset s1.pr.src z 0, pr.inPlan := lset s1.pr.inPlan z false,
                          pr.fallen := lset s1.pr.fallen z true }
      (s2.keepTemps z).raise prPE evPlanFallback (z + 1) n
  | none =>
    let s2 := State.keepTemps { s1 with pr.inPlan := lset s1.pr.inPlan z false, pr.fallen := lset s1.pr.fallen z true } z
    if s.pr.fallen.getD z false then s2 else s2.raise prPE evPlanFallback (z + 1) n

/-- PE issues step 0 of a zone's plan and its plan item (R235, R236). -/
def State.issuePlan (s : State) (z : Nat) : State :=
  match s.pr.inPlan.getD z false, s.pr.plans.getD z none with
  | true, some pl =>
    let us := (pl.us.getD 0 []).map fun u => u.map (fMul f100)
    let s1 := s.postPnt prPE (s.ringOf z) (.plan z { inPlan := true, sp := pl.ys.getD 0 fNaN, cmds := us })
    (List.range 4).foldl (fun t i =>
      match us.getD i none, t.inputStage z i with
      | some u, some st =>
        if (t.directOf st).isSome || t.guardHas st then t
        else (t.issueCmd 6 z i st u).modInp z i fun x => { x with byPlan := true }
      | _, _ => t) s1
  | _, _ => s.postPnt prPE (s.ringOf z) (.plan z { inPlan := false, sp := fNaN, cmds := List.replicate 4 none })

/-- The event and the counts of a solve with failed zones, then the items and commands of every zone of the solve. -/
def State.solveFinish (s : State) (sv : Solve) (cause failed iters result : Nat) : State :=
  let s1 := { s with pr.solve := none, pr.st := 1, pr.result := result, pr.iter := iters }
  let s2 := if failed == 0 then s1
    else State.raise { s1 with pr.fails := sat 16 (s1.pr.fails + 1) } prPE evPlanFail 0 (cause * 2 ^ 24 + failed * 2 ^ 16 + sat 16 iters)
  sv.zones.foldl (fun t sz => t.issuePlan sz.z) s2

/-- Every zone of a solve fails, with a cause: 2 R25 stop, 3 numeric fault. -/
def State.solveFails (s : State) (sv : Solve) (cause iters result : Nat) : State :=
  (sv.zones.foldl (fun t sz => t.planFailed sz.z) s).solveFinish sv cause sv.zones.length iters result

/-- The end of a solve within its time (R230–R234). -/
def State.solveEnd (s : State) (sv : Solve) : State :=
  let p := s.solvePar sv.nSteps sv.nBlocks
  let zps := sv.zones.map (zProb p)
  if zps.any fun zp => zp.f.any fIsNaN || zp.chol.isNone then s.solveFails sv 3 0 4
  else
    let start := zps.map fun zp => iterStart p (s.pr.warm.getD zp.sz.z {}) zp.sz
    let (ts, n, bad) := iterate p zps s.pr.iterEff 0 start
    let prs := zps.zip ts
    let mx (k : Nat) : F32 := ts.foldl (fun m t => fMax m (t.res.getD k fZero)) fZero
    let s0 := { s with pr.rT := mx 0, pr.rD := mx 2 }
    if bad then s0.solveFails sv 3 n 4
    else
      let all := prs.map fun q => (q.1.sz.z, q.2.yhat)
      let warm := (List.range 32).map fun z => match prs.find? fun q => q.1.sz.z == z with
        | none => ({} : Warm)
        | some (_, t) => { x := t.x, zu := t.zu, yu := t.yu, zt := t.zt, yt := t.yt }
      let s1 := prs.foldl (fun t q =>
        if q.2.pass then t.planPassed q.1.sz.z n (planOf p sv.period all q.1 q.2) else t.planFailed q.1.sz.z)
        { s0 with pr.warm := warm }
      let failed := (ts.filter fun t => !t.pass).length
      s1.solveFinish sv 1 failed n (if failed == 0 then 1 else 2)

/-- A solve still running at the zone instant is stopped (R25); how many iterations it had run is a free value. -/
def State.solveStop (s : State) : State :=
  match s.pr.solve with
  | none => s
  | some sv =>
    let n := Config.free s.freeCtr % (s.pr.iterEff + 1)
    let s1 := s.freeNext
    State.solveFails { s1 with pr.solveUs := sat 16 (s.now - sv.startAt) } sv 2 n 3

/-- PLAN_SOLVE_DONE: the solve ends `us` µs after its start, and each zone takes, shifts or falls back from its plan (R234); a solve
that has not ended before the zone instant is stopped there (R25, R233). -/
def execPlanSolveDone (us : Nat) (s : State) : Out :=
  match s.pr.solve with
  | none => .next s
  | some sv =>
    if sv.startAt + us ≥ s.zoneInstantAt then .next (s.advTo s.zoneInstantAt).solveStop
    else
      let s1 := s.advTo (sv.startAt + us)
      .next (State.solveEnd { s1 with pr.solveUs := sat 16 us } sv)

/-- PE stops and every plan is discarded (R237); zones then hold no plan item. -/
def State.peStop (s : State) : State :=
  let s1 := { s with pr.st := 0, pr.solve := none, pr.plans := List.replicate 32 none, pr.src := List.replicate 32 0,
                     pr.inPlan := List.replicate 32 false, pr.fallen := List.replicate 32 false, pr.failRun := List.replicate 32 0 }
  { s1 with zs.zn := s1.zs.zn.map fun x => { x with plan := none, planBad := false, planSp := fNaN } }

/-! ### The plan buffer (Table 8.11) -/

/-- 0.5 % steps of an input, 0xFF when the plan does not drive it. -/
def planByte (o : Option F32) : Byte :=
  match o with
  | none => 0xFF#8
  | some u => by8 (min 200 (fNatScaled 200 u))

/-- The 400 bytes of a zone. -/
def State.planZone (s : State) (z : Nat) : List Byte :=
  let hd := [by8 (s.pr.src.getD z 0), by8 (s.pr.failRun.getD z 0), by8 (s.zoneCtrl z), 0#8]
  match s.pr.plans.getD z none with
  | none => hd ++ List.replicate 204 0#8 ++ List.replicate 192 0xFF#8
  | some pl =>
    hd ++ leBytes 4 pl.base ++ List.replicate 8 0#8 ++ ((List.range 48).flatMap fun j => wordBytes (pl.ys.getD j 0#32)) ++
      ((List.range 48).flatMap fun j => (List.range 4).map fun i => planByte ((pl.us.getD j []).getD i none))

/-- The plan buffer, 12,832 bytes. -/
def State.planBuffer (s : State) : List Byte :=
  leBytes 4 s.pr.lastSolve ++ [by8 s.pr.nSteps, by8 s.pr.nBlocks] ++ leBytes 2 s.pr.iter ++ leBytes 4 s.pr.hMs ++
    [by8 s.pr.result] ++ List.replicate 19 0#8 ++ (List.range 32).flatMap s.planZone

end Sys2Proof.Machine
end

