-- ==== Sys2Proof/Machine/Panel.lean ====
section
/-!
DEFINITION. Sys2Proof/Machine/Panel.lean: the zone overrides as they are written (R205), and the operator panel
(chapter 11): the matrix scanner (R298–R303), the encoders (R306, R307) and the panel actions (R308, R309).
-/
namespace Sys2Proof.Machine
open Sys2Proof

/-! ### Overrides as writes (R205) -/

/-- `OVR_STATE` and `OVR_S` written together from a source. -/
def State.writeOverride (s : State) (z st secs src : Nat) : State :=
  let s1 := s.modZone z fun x => { x with ovrSrc := src }
  if secs == 0 then s1.endOverride z 1
  else
    (s1.modZone z fun x => { x with ovr := some st, ovrEnd := s.now + secs * 1000000 }).sbEvent evOverrideSet z (src * 2 ^ 16 + st)

/-- `SP_OFFSET` written from a source: an offset that is not 0 starts, 0 ends (R205). -/
def State.writeOffset (s : State) (z : Nat) (v : F32) (src : Nat) : State :=
  let s1 := s.modZone z fun x => { x with ovrSrc := src }
  if fEq v fZero then s1.endOffset z 1 false
  else (s1.modZone z fun x => { x with offset := v }).sbEvent evOverrideSet z (src * 2 ^ 16 + 0xFFFF)

/-! ### Configuration of the panel (R305) -/

def pnObj (inst g : Nat) : Nat := objId 0x0A inst g

/-- A field of the matrix configuration; Profile L fixes three of them. -/
def State.pnCf (s : State) (f : Fld) : Nat :=
  if s.mn.profActive && f == Fd.pnConf.ENABLE then 1
  else if s.mn.profActive && (f == Fd.pnConf.N_KSO || f == Fd.pnConf.N_KSI) then 8
  else s.cf (pnObj 0 0x020) f

/-- Function and zone of a key under Profile L (Table 11.2). -/
def profKey (k : Nat) : Nat × Nat :=
  if k < 32 then (8, k) else if k ≤ 38 then (k - 31, 0xFF) else (0, 0xFF)

/-- Word `w` of the key functions of Table 11.2, and word 0 of the matrix configuration with the fields that Profile L fixes (R305). -/
def profKeyWord (w : Nat) : Nat :=
  let a := profKey (2 * w)
  let b := profKey (2 * w + 1)
  b.1 * 2 ^ 28 + b.2 * 2 ^ 16 + a.1 * 2 ^ 12 + a.2
def profPanelWord (v : Nat) : Nat := putBits (putBits (putBit v 31 true) 27 24 8) 23 20 8

/-- The words of a panel group that Profile L holds in force in place of those given (R305). -/
def State.profWords (s : State) (o : Nat) (ws : List Word) : List Word :=
  if !s.mn.profActive then ws
  else if o == pnObj 0 0x020 then lmod ws 0 fun w => wd (profPanelWord w.toNat)
  else if o == pnObj 0 0x030 then (List.range ws.length).map fun k => wd (profKeyWord k)
  else ws

/-- Function and zone of a key (Tables 11.2, 11.6). -/
def State.keyFunc (s : State) (k : Nat) : Nat × Nat :=
  if s.mn.profActive then profKey k
  else
    let o := pnObj 0 0x030
    if k % 2 == 0 then (s.cf o (Fd.pnKeys.FUNC0.at_ (k / 2)), s.cf o (Fd.pnKeys.ZONE0.at_ (k / 2)))
    else (s.cf o (Fd.pnKeys.FUNC1.at_ (k / 2)), s.cf o (Fd.pnKeys.ZONE1.at_ (k / 2)))

/-- The scanner and the decoders run (R304). -/
def State.panelOn (s : State) : Bool :=
  s.mn.phase == .run && (s.mn.mode == .platform || s.mn.mode == .mainline || s.mn.mode == .depot)

/-! ### The change buffer (R300) -/

/-- A debounced change is sent through the buffer of 16, or lost. -/
def State.keyChange (s : State) (code k : Nat) : State :=
  if s.pn.buf.length < 16 then { s with pn.buf := s.pn.buf ++ [(code, k)] }
  else { s with pn.lost := s.pn.lost + 1, pn.overruns := sat 16 (s.pn.overruns + 1) }

/-- The merger takes changes while it can hold them; `n` bounds the moves. -/
def State.panelMove (s : State) : Nat → State
  | 0 => s
  | n + 1 =>
    let p := s.prods.getD prPeri {}
    if !p.room || p.lost != 0 || (s.per.inCo && !p.late.isEmpty) then s
    else match s.pn.buf with
      | (c, k) :: rest => State.panelMove (State.raise { s with pn.buf := rest } prPeri c 0 k) n
      | [] => if s.pn.lost == 0 then s else State.raise { s with pn.lost := 0 } prPeri evKeyOverrun 0 s.pn.lost

def State.panelDrain (s : State) : State := s.panelMove 17

/-! ### The scan (R298–R303) -/

/-- Changes the scanner's state. -/
def State.modPn (s : State) (f : Panel → Panel) : State := { s with pn := f s.pn }

/-- The rectangles of a raw picture: outputs and inputs on them. -/
def ghostMarks (raw : Nat) : Nat × Nat :=
  let pairs := (List.range 8).flatMap fun a => ((List.range 8).filter (a < ·)).map fun b => (a, b)
  let row (o : Nat) : Nat := bits raw (8 * o + 7) (8 * o)
  pairs.foldl (fun (m : Nat × Nat) p =>
    let common := row p.1 &&& row p.2
    if popCount 8 common ≥ 2 then (m.1 ||| 2 ^ p.1 ||| 2 ^ p.2, m.2 ||| common) else m) (0, 0)

/-- The key lies on a marked output or input. -/
def frozenKey (o i k : Nat) : Bool := bitOf o (k / 8) || bitOf i (k % 8)

/-- A key's debounced state changes. -/
def State.keyTurn (s : State) (k : Nat) : State :=
  let now := s.now
  let isDown := bitOf s.pn.keys k
  let s1 := s.modPn fun p =>
    { p with keys := putBit p.keys k (!isDown), changes := (p.changes + 1) % 2 ^ 32, cnt := lset p.cnt k 0,
             down := lset p.down k (if isDown then none else some now) }
  if !isDown then s1.keyChange evKeyDown k
  else if bitOf s.pn.stuck k then (s1.modPn fun p => { p with stuck := putBit p.stuck k false }).keyChange evKeyStuckClear k
  else s1.keyChange evKeyUp k

/-- The rectangle test's marks after a scan, with its events; answers whether the marks cleared in this scan. -/
def State.ghostTest (s : State) (raw n : Nat) : State × Bool :=
  let p := s.pn
  let (o, i) := if s.pnCf Fd.pnConf.DIODE != 0 then (0, 0) else ghostMarks raw
  let marked := p.frozenO != 0
  if o != 0 then
    let s1 := s.modPn fun x => { x with frozenO := x.frozenO ||| o, frozenI := x.frozenI ||| i, clean := 0 }
    if marked then (s1, false)
    else
      ((s1.modPn fun x => { x with ghosts := sat 16 (x.ghosts + 1) }).raise prPeri evKeyGhost 0 (s1.pn.frozenO * 256 + s1.pn.frozenI), false)
  else if marked then
    if p.clean + 1 ≥ n then
      ((s.modPn fun x => { x with frozenO := 0, frozenI := 0, clean := 0 }).raise prPeri evKeyGhostClear 0 0, true)
    else (s.modPn fun x => { x with clean := x.clean + 1 }, false)
  else (s, false)

/-- One scan of the matrix: `raw` holds a one for every key that reads down. -/
def State.scan (s : State) (raw : Nat) : State :=
  let no := s.pnCf Fd.pnConf.N_KSO
  let ni := s.pnCf Fd.pnConf.N_KSI
  let n := s.pnCf Fd.pnConf.DEBOUNCE_N
  let r := maskOf 64 fun k => bitOf raw k && k / 8 < no && k % 8 < ni
  let fo := s.pn.frozenO
  let fi := s.pn.frozenI
  let (s1, cleared) := s.ghostTest r n
  let rect := s1.pn.clean == 0 && s1.pn.frozenO != 0
  let s2 := (List.range 64).foldl (fun t k =>
    let diff := bitOf r k != bitOf t.pn.keys k
    let was := frozenKey fo fi k
    let is := frozenKey t.pn.frozenO t.pn.frozenI k
    let d := if rect then 0 else if diff then t.pn.diff.getD k 0 + 1 else 0
    let t1 := t.modPn fun p => { p with diff := lset p.diff k d }
    if is then t1.modPn fun p => { p with cnt := lset p.cnt k 0 }
    else if cleared && was then
      if diff && d ≥ n then t1.keyTurn k else t1.modPn fun p => { p with cnt := lset p.cnt k (b2n diff) }
    else if !diff then t1.modPn fun p => { p with cnt := lset p.cnt k 0 }
    else
      let c := t.pn.cnt.getD k 0 + 1
      if c ≥ n then t1.keyTurn k else t1.modPn fun p => { p with cnt := lset p.cnt k c }) s1
  s2.panelDrain

/-- KEY_SCAN: every `SCAN_MS` the scanner scans the matrix, each output for `SETTLE_US` and 2 µs; its changes are found when it ends
(R298). -/
def execKeyScan (raw : BitVec 64) (s : State) : Out :=
  if !s.panelOn || s.pnCf Fd.pnConf.ENABLE == 0 then .next s
  else
    let s1 := match s.pn.scanAt with
      | none => s
      | some t => s.advTo (t + s.pnCf Fd.pnConf.SCAN_MS * 1000)
    let us := s.pnCf Fd.pnConf.N_KSO * (s.pnCf Fd.pnConf.SETTLE_US + 2)
    .next (State.scan (State.advTo { s1 with pn.scanAt := some s1.now } (s1.now + us)) raw.toNat)

/-- KEY_STUCK: a key has been down for `STUCK_S` (R303). -/
def execKeyStuck (k : Fin 64) (s : State) : Out :=
  match s.pn.down.getD k.val none with
  | none => .next s
  | some t =>
    if !s.panelOn || bitOf s.pn.stuck k.val then .next s
    else
      let s1 := s.advTo (t + s.pnCf Fd.pnConf.STUCK_S * 1000000)
      .next ((s1.modPn fun p => { p with stuck := putBit p.stuck k.val true }).raise prPeri evKeyStuck 0 k.val)

/-! ### Panel actions (R308, R309) -/

/-- The enabled zone after or before a zone, wrapping over 0–31; the zone itself when no zone is enabled. -/
def State.nextZone (s : State) (z : Nat) (fwd : Bool) : Nat :=
  (((List.range 32).map fun k => (if fwd then z + k + 1 else z + 31 - k) % 32).find? fun y => s.zoneOn y).getD z

/-- `n` steps of the selection. -/
def State.moveSel (s : State) (fwd : Bool) : Nat → State
  | 0 => s
  | n + 1 => State.moveSel (s.modPn fun p => { p with sel := s.nextZone p.sel fwd }) fwd n

/-- An offset change by `k` steps, clipped to ±`OFFSET_MAX`. -/
def State.panelOffset (s : State) (z : Nat) (d : F32) : State :=
  let m := s.cff (znObj z 0x050) Fd.znSp.OFFSET_MAX
  s.writeOffset z (fClamp (fNeg m) m (fAdd (s.zone z).offset d)) 0xFFFF

/-- The write of a zone function, and its panel use. -/
def State.panelWrite (s : State) (func z : Nat) (steps : Int) : State :=
  let k := s.cff (pnObj 0 0x020) Fd.pnConf.STEP_K
  let s1 := s.modPres z fun y => { y with panel := true }
  match func with
  | 1 => s1.panelOffset z (fMul k (fOfInt steps))
  | 2 => s1.panelOffset z (fNeg (fMul k (fOfInt steps)))
  | 3 => s1.writeOverride z 0 (s.pnCf Fd.pnConf.OVR_PANEL_S) 0xFFFF
  | 4 => s1.writeOverride z 1 (s.pnCf Fd.pnConf.OVR_PANEL_S) 0xFFFF
  | 5 => s1.writeOverride z 2 (s.pnCf Fd.pnConf.OVR_PANEL_S) 0xFFFF
  | 6 => s1.writeOverride z 3 (s.pnCf Fd.pnConf.OVR_PANEL_S) 0xFFFF
  | _ => (s1.writeOverride z 0xF 0 0xFFFF).writeOffset z fZero 0xFFFF

/-- A key function or encoder function `func` aimed at `zone` (0xFF: the selected zone), for event instance `inst`. -/
def State.panelFunc (s : State) (inst func zone : Nat) (steps : Int) : State :=
  let z := if zone == 0xFF then s.pn.sel else zone
  if func == 0 || func > 10 then s
  else if func == 9 then s.moveSel true 1
  else if func == 10 then s.moveSel false 1
  else if !s.zoneOn z then s.sbEvent evPanelRefused inst (func * 256 + z)
  else if func == 8 then s.modPn fun p => { p with sel := z }
  else s.panelWrite func z steps

/-- `SB` executes panel actions in Platform and Mainline (R304). -/
def State.panelActs (s : State) : Bool := s.mn.phase == .run && (s.mn.mode == .platform || s.mn.mode == .mainline)

/-! ### Encoders (R306, R307) -/

def State.enc (s : State) (e : Nat) : Enc := s.pn.encs.getD e {}
def State.modEnc (s : State) (e : Nat) (f : Enc → Enc) : State := s.modPn fun p => { p with encs := lmod p.encs e f }
def State.encOn (s : State) (e : Nat) : Bool := s.panelOn && s.cfb (pnObj (e + 1) 0x020) Fd.enConf.ENABLE

/-- Position of a pair on the forward cycle (0,0) → (1,0) → (1,1) → (0,1). -/
def cyclePos (a b : Bool) : Nat :=
  match a, b with
  | false, false => 0
  | true, false => 1
  | true, true => 2
  | false, true => 3

/-- Counts of a valid transition under `DECODE`. -/
def encDelta (decode : Nat) (a0 b0 a1 b1 : Bool) : Int :=
  let d : Int := if (cyclePos a0 b0 + 1) % 4 == cyclePos a1 b1 then 1 else -1
  match decode with
  | 0 => if !b0 && !b1 then d else 0
  | 1 => if a0 != a1 then d else 0
  | _ => d

/-- The decoder takes a new filtered pair (R306, R307). -/
def State.encTurn (s : State) (e : Nat) (a b : Bool) : State :=
  let x := s.enc e
  let o := pnObj (e + 1) 0x020
  if a == x.a && b == x.b then s
  else if a != x.a && b != x.b then
    let n := sat 16 (x.errors + 1)
    let s1 := s.modEnc e fun y => { y with a := a, b := b, errors := n, errLog := true }
    if x.errLog then s1 else s1.raise prPeri evEncError (e + 1) n
  else
    let d0 := encDelta (s.cf o Fd.enConf.DECODE) x.a x.b a b
    let d := if s.cfb o Fd.enConf.INVERT then -d0 else d0
    let div : Int := s.cf o Fd.enConf.DETENT_DIV
    let r := if s.cf o Fd.enConf.FUNC == 0 then x.rem else x.rem + d
    s.modEnc e fun y =>
      { y with a := a, b := b, count := sgn 32 (unsgn 32 (y.count + d)), rem := Int.tmod r div, steps := y.steps + Int.tdiv r div }

/-- When a line that has held its level for `run` µs and holds it for `us` more is accepted, if it is: µs from the start of the latter. -/
def filtAt (filt run us : Nat) (new : Bool) : Option Nat :=
  if new && filt ≤ run + us then some (filt - run) else none

/-- Both lines hold levels for `us` µs: each is filtered by itself, and two that are accepted at one sample change together (R306). -/
def State.encHold (s : State) (e : Nat) (a b : Bool) (us : Nat) : State :=
  let x := s.enc e
  let filt := s.cf (pnObj (e + 1) 0x020) Fd.enConf.FILT_US
  let ra := if a == x.rawA then x.runA else 0
  let rb := if b == x.rawB then x.runB else 0
  let s1 := s.modEnc e fun y => { y with rawA := a, rawB := b, runA := min 1000 (ra + us), runB := min 1000 (rb + us) }
  match filtAt filt ra us (a != x.a), filtAt filt rb us (b != x.b) with
  | none, none => s1
  | some _, none => s1.encTurn e a x.b
  | none, some _ => s1.encTurn e x.a b
  | some i, some j =>
    if i < j then (s1.encTurn e a x.b).encTurn e a b else if j < i then (s1.encTurn e x.a b).encTurn e a b else s1.encTurn e a b

/-- ENC_TRANSITION: the lines of an encoder have stood at levels for `us` µs, after the levels of the samples before (R306). -/
def execEncTransition (e : Fin 4) (l : EncLines) (us : Fin 65536) (s : State) : Out :=
  let x := s.enc e.val
  if !s.encOn e.val then .next s
  else
    let s1 := s.advTo (x.at_ + us.val)
    let s2 := s1.encHold e.val x.rawA x.rawB (s1.now - us.val - x.at_)
    .next ((s2.encHold e.val l.a l.b us.val).modEnc e.val fun y => { y with at_ := s1.now })

/-- ENC_VELOCITY: every `VEL_MS` the decoder updates `VELOCITY` (R307). -/
def execEncVelocity (e : Fin 4) (s : State) : Out :=
  let x := s.enc e.val
  let ms := s.cf (pnObj (e.val + 1) 0x020) Fd.enConf.VEL_MS
  if !s.encOn e.val then .next s
  else
    let s1 := s.advTo (x.velAt + ms * 1000)
    let d := sgn 32 (unsgn 32 (x.count - x.velCount))
    .next (s1.modEnc e.val fun y => { y with vel := fOfRat (d * 1000) ms, velCount := x.count, velAt := s1.now })

/-- ENC_STEPS: the decoder raises the net steps since its last `ENC_STEPS`, at most every 50 ms (R307). -/
def execEncSteps (e : Fin 4) (s : State) : Out :=
  let x := s.enc e.val
  if !s.encOn e.val || s.cf (pnObj (e.val + 1) 0x020) Fd.enConf.FUNC == 0 || x.steps == 0 then .next s
  else
    let s1 := match x.stepsAt with | none => s | some t => s.advTo (t + 50000)
    .next ((s1.modEnc e.val fun y => { y with steps := 0, stepsAt := some s1.now }).raise prPeri evEncSteps (e.val + 1) (unsgn 32 x.steps))

/-- The panel as it starts at ready (R304). -/
def State.panelStart (s : State) : State :=
  { s with pn := { sel := ((List.range 32).find? fun z => s.zoneOn z).getD 0,
                   encs := s.pn.encs.map fun x => { ({} : Enc) with a := x.a, b := x.b, rawA := x.rawA, rawB := x.rawB, at_ := x.at_, velAt := s.now } } }

end Sys2Proof.Machine
end

