-- ==== Sys2Proof/Machine/Can.lean ====
section
/-!
DEFINITION. Sys2Proof/Machine/Can.lean: the CAN ports and the Timetable (chapter 12): bit times and frame durations
(R319, R342), message RAM and reception (R322–R326), transmission and its results (R327–R330), errors and recovery
(R331–R334), the basic cycles and windows (R338–R344) and raw access (R346).
-/
namespace Sys2Proof

/-- Data bytes of a DLC code (R315). -/
def Machine.dlcLen (fdf : Bool) (dlc : Nat) : Nat :=
  if dlc ≤ 8 then dlc else if fdf then [12, 16, 20, 24, 32, 48, 64].getD (dlc - 9) 64 else 8

/-- Data bytes of a frame on the bus; a remote frame carries none. -/
def CanFrame.len (f : CanFrame) : Nat := if f.rtr then 0 else Machine.dlcLen f.fdf f.dlc

/-- The arbitration order of identifiers: a base identifier wins over an extended one with the same first 11 bits. -/
def CanFrame.key (f : CanFrame) : Nat :=
  if f.xtd then f.id * 2 + 1 else f.id * 2 ^ 18 * 2

/-- A frame as the bus carried it: identifier within its format, data of the DLC's length. -/
def CanFrame.norm (f : CanFrame) : CanFrame :=
  { f with id := if f.xtd then f.id % 2 ^ 29 else f.id % 2 ^ 11, dlc := f.dlc % 16,
           rtr := f.rtr && !f.fdf, brs := f.brs && f.fdf, esi := f.esi && f.fdf,
           data := Machine.padTo ({ f with dlc := f.dlc % 16, rtr := f.rtr && !f.fdf }.len) f.data }

end Sys2Proof

namespace Sys2Proof.Machine
open Sys2Proof

/-- Port `p`. -/
def State.port (s : State) (p : Nat) : Port := s.cans.getD p {}

/-- Port `p` changed. -/
def State.modPort (s : State) (p : Nat) (f : Port → Port) : State := { s with cans := lmod s.cans p f }

/-- Objects of a port: configuration and wake groups, and the Timetable configuration. -/
def cnObj (p : Nat) : Nat := objId 0x0B p 0x020
def cnWakeObj (p : Nat) : Nat := objId 0x0B p 0x040
def ttObj (p : Nat) : Nat := objId 0x0C p 0x020

/-! ### Frames (R315, Table 12.2) -/

/-- The DLC code of the smallest FD data field of at least `n` bytes. -/
def dlcFor (n : Nat) : Nat :=
  if n ≤ 8 then n else if n ≤ 12 then 9 else if n ≤ 16 then 10 else if n ≤ 20 then 11 else if n ≤ 24 then 12
  else if n ≤ 32 then 13 else if n ≤ 48 then 14 else 15

/-- Element sizes by code (R322). -/
def elemSize (code : Nat) : Nat := [8, 12, 16, 20, 24, 32, 48, 64].getD code 64

/-- The identifier of a fabric frame (R316, R317, Table 12.2). -/
def fabId (native : Bool) (cls src dst : Nat) : Nat :=
  if native then (cls % 8) * 2 ^ 26 + (src % 4096) * 4096 + dst % 4096 else (cls % 8) * 256 + src % 256

/-- `CLASS` of a fabric identifier. -/
def idClass (native : Bool) (id : Nat) : Nat := if native then bits id 28 26 else bits id 10 8

/-- `SRC` of a fabric identifier. -/
def idSrc (native : Bool) (id : Nat) : Nat := if native then bits id 23 12 else bits id 7 0

/-! ### Bit times and durations (R319, R342) -/

/-- What the duration of a frame depends on: nominal and data bit times in `CAN` clocks of 12.5 ns, the options, the
identifier format of the port. -/
structure CanTim where
  nom : Nat
  data : Nat
  fd : Bool
  brs : Bool
  txe : Nat
  xtd : Bool
  deriving DecidableEq, Repr

/-- The timing that a set of configuration values gives. -/
def canTimOf (g : Fld → Nat) (native : Bool) : CanTim :=
  { nom := g Fd.cnConf.NBRP * (1 + g Fd.cnConf.NTSEG1 + g Fd.cnConf.NTSEG2),
    data := g Fd.cnConf.DBRP * (1 + g Fd.cnConf.DTSEG1 + g Fd.cnConf.DTSEG2),
    fd := g Fd.cnConf.FD_EN != 0, brs := g Fd.cnConf.BRS_EN != 0, txe := elemSize (g Fd.cnConf.TXE_SIZE), xtd := native }

/-- The timing in force on a port. -/
def State.canTim (s : State) (p : Nat) : CanTim := canTimOf (s.cf (cnObj p)) s.native

/-- ⌈1.25 × n⌉. -/
def stuffed (n : Nat) : Nat := cdiv (5 * n) 4

/-- The worst-case duration T_F of a frame of `n` data bytes, in `CAN` clocks (R342). -/
def frameClocks (t : CanTim) (fdf xtd brs : Bool) (n : Nat) : Nat :=
  if fdf then
    (stuffed (if xtd then 36 else 17) + 13) * t.nom +
      (stuffed (5 + 8 * n) + (if n ≤ 16 then 27 else 32)) * (if brs then t.data else t.nom)
  else (stuffed ((if xtd then 54 else 34) + 8 * n) + 13) * t.nom

/-- T_F of a frame. -/
def frClocks (t : CanTim) (f : CanFrame) : Nat := frameClocks t f.fdf f.xtd f.brs f.len

/-- T_F of the reference message (R339). -/
def refClocks (t : CanTim) : Nat := frameClocks t false t.xtd false 8

/-- True for the combinations that R319 refuses. -/
def canConfBad (g : Fld → Nat) : Bool :=
  let t := canTimOf g true
  let nq := 1 + g Fd.cnConf.NTSEG1 + g Fd.cnConf.NTSEG2
  let dq := 1 + g Fd.cnConf.DTSEG1 + g Fd.cnConf.DTSEG2
  let sic := g Fd.cnConf.SIC != 0
  let tdc := g Fd.cnConf.TDC_EN != 0
  t.nom > 640 || t.nom < 80 || nq < 8 ||
    (t.brs && (t.data > t.nom || t.data < (if sic then 10 else 16) || dq < 5)) ||
    g Fd.cnConf.NSJW > g Fd.cnConf.NTSEG2 || g Fd.cnConf.DSJW > g Fd.cnConf.DTSEG2 ||
    (t.data < 40 && !tdc) || ((t.brs || sic) && !t.fd)

/-- A wake group that R337 refuses. -/
def canWakeBad (g : Fld → Nat) : Bool :=
  (g Fd.cnWake.WUF_XTD == 0 && g Fd.cnWake.WUF_ID > 0x7FF) || g Fd.cnWake.WUF_DLC > 8 ||
    (g Fd.cnWake.WUF_DLC > 0 && g Fd.cnWake.WUF_DATA0 == 0 && g Fd.cnWake.WUF_DATA1 == 0)

/-! ### Power and the bus (R314) -/

/-- The port is powered and meant to be on the bus in the mode of the moment (R314, Table 3.5); Buffer Stop leaves it unpowered (R427). -/
def State.canPower (s : State) (p : Nat) : Bool :=
  s.vsupOk && s.th.bufStop.isNone && (match s.mn.phase with
  | .applying => s.cfb (cnObj p) Fd.cnConf.ENABLE
  | .run =>
    match s.mn.mode with
    | .siding => p == 0 && s.cfb (cnObj p) Fd.cnConf.ENABLE
    | .platform => s.cfb (cnObj p) Fd.cnConf.ENABLE
    | .mainline => s.cfb (cnObj p) Fd.cnConf.ENABLE
    | .depot => s.cfb (cnObj p) Fd.cnConf.ENABLE && (s.port p).raw.mode != 4
    | _ => false
  | _ => false)

/-- Rule words of one acceptance rule (R323): format, compared bit of `CLASS`, action, smallest length. -/
def jnRule (native : Bool) (hi : Bool) (act : Nat) : Nat × Nat × Nat :=
  let top := if native then 2 ^ 28 else 2 ^ 10
  (2 ^ 31 + b2n native * 2 ^ 30 + (if hi then top else 0), act * 2 ^ 30 + top, 8 * 2 ^ 24)

/-- Junction writes the rules of the fabric configuration, their counts at 0: classes 0–3 to FIFO 0 and classes 4–7 to FIFO 1, none
with the fabric disabled (R323). -/
def State.jnRules (s : State) (p : Nat) : State :=
  s.modPort p fun x => { x with rules := if s.cf (objId 0x0D 0 0x020) Fd.fbConf.FABRIC_EN == 0 then List.replicate 48 (0, 0, 0) else
    [jnRule s.native false 0, jnRule s.native true 1] ++ List.replicate 46 (0, 0, 0) }

/-- Puts a port on the bus: it integrates first (R344). -/
def State.canOn (s : State) (p : Nat) : State :=
  State.jnRules (s.modPort p fun x => { x with st := .integrating, tec := 0, recv := 0, armP := false, armF := false }) p

/-- The states in which a port is on the bus. -/
def CanSt.onBus : CanSt → Bool
  | .active => true
  | .passive => true
  | .restricted => true
  | .listen => true
  | _ => false

/-- The state that a port takes when it joins the bus: by `RAW_MODE` in Depot, by `PMODE` otherwise. -/
def State.joinState (s : State) (p : Nat) : CanSt :=
  let r := if s.mn.mode == .depot then (s.port p).raw.mode else 0
  if r == 5 then .restricted
  else if r == 1 || (r == 0 && s.cf (cnObj p) Fd.cnConf.PMODE == 1) then .listen
  else .active

/-- A port that is integrating joins the bus (R344). -/
def execBusIntegration (p : Fin 3) (s : State) : Out :=
  if (s.port p).st == .integrating then
    let j := s.joinState p
    .next (s.modPort p fun x => { x with st := j, reconf := false })
  else .next s

/-! ### Events counted over a zone period (R347) -/

/-- The counted events of a port are raised and their counts cleared. -/
def State.canLogFlush (s : State) (p : Nat) : State :=
  let l := (s.port p).log
  let up := fun (t : State) (n code arg prod : Nat) => if n == 0 then t else t.raise prod code p arg
  let s1 := up s l.ovf evCanRxOvf (l.ovfFifo * 256 + min l.ovf 255) prPeri
  let s2 := up s1 l.trunc evCanTrunc l.trunc prPeri
  let s3 := up s2 l.implaus evCanRxImplaus l.implaus prPeri
  let s4 := up s3 l.fail evCanTxFail (l.cause * 256 + min l.fail 255) prPeri
  let s5 := up s4 l.tdc evCanTdcFail (s.port p).tdcv prPeri
  let s6 := up s5 l.bad evFabFrameBad (l.test * 256 + min l.bad 255) prJN
  s6.modPort p fun x => { x with log := {} }

/-- Outside zone periods each of these is raised as it comes. -/
def State.canNote (s : State) (p : Nat) (f : CanLog → CanLog) : State :=
  let s1 := s.modPort p fun x => { x with log := f x.log }
  if s.per.running then s1 else s1.canLogFlush p

/-- The end of a zone period for the ports: counted events, and the marks of events logged once. -/
def State.canPeriodEnd (s : State) : State :=
  (List.range 3).foldl (fun t p => (t.canLogFlush p).modPort p fun x => { x with tt.missLog := false }) s

/-! ### Error counters (R331, R332) -/

/-- `TEC` and `REC` as the events report them. -/
def Port.errArg (x : Port) : Nat := sat 8 x.tec * 256 + sat 8 x.recv

/-- Entry to error passive and return to error active (R331). -/
def State.errState (s : State) (p : Nat) : State :=
  let x := s.port p
  let pas := x.tec > 127 || x.recv > 127
  if x.st == .active && pas then
    (s.modPort p fun y => { y with st := .passive }).raise prPeri evCanErrPassive p x.errArg
  else if x.st == .passive && !pas then
    (s.modPort p fun y => { y with st := .active }).raise prPeri evCanErrActive p x.errArg
  else s

/-- `SEGMENT_ALONE` ends (R332): 0 a frame received, 1 a frame acknowledged. -/
def State.aloneEnd (s : State) (p why : Nat) : State :=
  let s1 := s.modPort p fun x => { x with ackRun := 0, alone := false, aloneAt := none }
  if (s.port p).alone then s1.raise prJN evCanSegmentBack p why else s1

/-- One more acknowledgement error (R332). -/
def State.ackError (s : State) (p : Nat) : State :=
  let s1 := s.modPort p fun x => { x with ackRun := sat 16 (x.ackRun + 1) }
  if (s1.port p).ackRun ≥ 32 && !(s1.port p).alone then
    (s1.modPort p fun x => { x with alone := true, aloneAt := none }).raise prJN evCanSegmentAlone p (sat 8 (s1.port p).tec)
  else s1

/-- The receive counter after a frame received without error: ISO 11898-1 sets a counter above 127 to a value from 119
to 127, which the spec leaves open (log 2). -/
def State.recvGood (s : State) (p : Nat) : State :=
  let r := (s.port p).recv
  if r > 127 then
    State.errState ((s.modPort p fun x => { x with recv := 119 + Config.free s.freeCtr % 9 }).freeNext) p
  else s.modPort p fun x => { x with recv := r - 1 }

/-- A bus error found while receiving (R331). -/
def execCanRxError (p : Fin 3) (lec : Fin 7) (inc8 : Bool) (s : State) : Out :=
  let x := s.port p
  if x.st.onBus && lec.val != 0 then
    let s1 := s.modPort p fun y => { y with lec := lec.val }
    if x.st == .active || x.st == .passive then
      .next (State.errState (s1.modPort p fun y => { y with recv := sat 8 (y.recv + (if inc8 then 8 else 1)) }) p)
    else .next s1
  else .next s

/-! ### The end of a frame (R328) -/

/-- The raw result of a completion (Table 12.13). -/
def rawResult (result cause : Nat) : Nat :=
  if result == 0 then 2 else if result == 1 then 5
  else if cause == 1 then 3 else if cause == 3 then 6 else if cause == 6 then 7 else 4

/-- One word of the completion ring, the failure count, and the raw registers (R328, R346); a reference message reports buffer 31
(log 38). -/
def State.complete (s : State) (p : Nat) (it : TxItem) (result cause : Nat) : State :=
  let w := b2n it.queue * 2 ^ 31 + min it.idx 31 * 2 ^ 26 + result * 2 ^ 24 + cause * 2 ^ 20 + s.now % 65536
  let s1 := s.modPort p fun x =>
    let c := x.comp ++ [w]
    { x with comp := c.drop (c.length - 64),
             txFails := if result == 2 then sat 16 (x.txFails + 1) else x.txFails,
             raw := if it.use == .raw then
               { x.raw with result := rawResult result cause, failLec := if result == 2 then x.lec else x.raw.failLec }
               else x.raw }
  if result == 2 then s1.canNote p fun l => { l with fail := l.fail + 1, cause := cause } else s1

/-- The frame under way on a port, of those in its buffers and entries. -/
def Port.flies (x : Port) (it : TxItem) : Bool := x.tx.contains it && x.air == some (it.queue, it.idx)

/-- Frames of a port end `CANCELLED` where `keep` does not name them: those in buffers and entries, in `Q-FABO` and in Junction's
backlog (R33, R327, R328). -/
def State.cancelWork (s : State) (p : Nat) (keep : TxItem → Bool) : State :=
  let x := s.port p
  let gone := (x.tx ++ x.qFabo.map (·.val) ++ x.backlog).filter fun it => !keep it
  gone.foldl (fun t it => t.complete p it 1 0) (s.modPort p fun y => { y with
    tx := y.tx.filter keep, qFabo := y.qFabo.filter fun e => keep e.val, backlog := y.backlog.filter keep })

/-- Takes a port off the bus and its message RAM with it: what waited ends `CANCELLED` (R33), and transfers of its Timetable matrix
end (R119). -/
def State.canOff (s : State) (p : Nat) : State :=
  ((s.cancelXfers fun x => x.stream == 0x05 && x.sub == p).cancelWork p fun _ => false).modPort p fun x => { x with
    st := .off, tec := 0, recv := 0, alone := false, aloneAt := none, txdTmo := false, ackRun := 0, afterOff := false,
    fifo0 := [], fifo1 := [], qFabi := [], air := none, airTt := false, reconf := false, tt.st := .off, tt.win := none }

/-- A port leaves the bus by `RAW_MODE` 4: what waits stays pending (R346). -/
def State.rawOff (s : State) (p : Nat) : State :=
  s.modPort p fun y => { y with st := .off, air := none, airTt := false, tec := 0, recv := 0, reconf := false }

/-- A configuration change or `RAW_MODE` 4 takes the port off the bus as soon as its frame in progress has ended (R33, R344); a port whose
`ENABLE` is clear then stays off, and what it has queued beside that frame ends `CANCELLED` at once (R33). -/
def State.canLeave (s : State) (p : Nat) : State :=
  let x := s.port p
  let on := s.cfb (cnObj p) Fd.cnConf.ENABLE
  if !x.reconf || x.st == .off || x.st == .lowPower then s
  else if x.air.isSome then (if on then s else s.cancelWork p x.flies)
  else if !on then s.canOff p
  else if s.mn.mode == .depot && x.raw.mode == 4 then s.rawOff p
  else s.modPort p fun x => { x with st := .integrating, tec := 0, recv := 0 }

/-- The frame in a dedicated buffer or queue entry. -/
def Port.item (x : Port) (queue : Bool) (idx : Nat) : Option TxItem :=
  x.tx.find? fun i => i.queue == queue && i.idx == idx

/-- A frame leaves its buffer or entry with a result. -/
def State.txEnd (s : State) (p : Nat) (it : TxItem) (result cause : Nat) : State :=
  State.complete (s.modPort p fun x => { x with
    tx := x.tx.filter fun i => !(i.queue == it.queue && i.idx == it.idx) }) p it result cause

/-- A Timetable frame ends with cause 3, 5 or 8 (R340, R344, R332). -/
def State.ttDrop (s : State) (p : Nat) (it : TxItem) (cause : Nat) : State :=
  State.txEnd (s.modPort p fun x => { x with tt.drops := sat 16 (x.tt.drops + 1) }) p it 2 cause

/-! ### The Timetable matrix (Tables 12.5, 12.6) -/

def mxCycles (m : List Byte) : Nat := 2 ^ leAt m 2 1
def mxWindows (m : List Byte) : Nat := leAt m 3 1
def mxNtu (m : List Byte) : Nat := leAt m 4 2
def mxStart (m : List Byte) (w : Nat) : Nat := leAt m (32 + 4 * w) 2
def mxLen (m : List Byte) (w : Nat) : Nat := leAt m (34 + 4 * w) 2
def mxCell (m : List Byte) (c w : Nat) : Nat := leAt m (160 + 4 * (32 * c + w)) 4
def cellType (v : Nat) : Nat := bits v 31 30
def cellTx (v : Nat) : Bool := bitOf v 29
def cellBuf (v : Nat) : Nat := bits v 28 24
def cellUse (v : Nat) : Nat := bits v 23 16

/-- The cells of a matrix that send, over its cycles and windows. -/
def mxTxCells (m : List Byte) : List Nat :=
  ((List.range (mxCycles m)).flatMap fun c => (List.range (mxWindows m)).map fun w => mxCell m c w).filter cellTx

/-- The buffer that a sending cell of the matrix names (R327). -/
def mxNames (m : List Byte) (b : Nat) : Bool := (mxTxCells m).any fun v => cellBuf v == b

/-- The last two checks of R343 against a timing and a period. -/
def mxFits (m : List Byte) (t : CanTim) (periodMs : Nat) : Bool :=
  let need := if t.fd then frameClocks t true t.xtd t.brs t.txe else frameClocks t false t.xtd false 8
  let ws := List.range (mxWindows m)
  let winOk := ws.all fun w =>
    !((List.range (mxCycles m)).any fun c => cellTx (mxCell m c w)) || need ≤ mxLen m w * t.nom
  winOk && refClocks t ≤ mxLen m 0 * t.nom &&
    (periodMs * 1000 * 80) % (mxCycles m * mxNtu m * t.nom) == 0

/-- The checks of R343 on a written matrix, but for the last two. -/
def mxFormOk (m : List Byte) : Bool :=
  let nc := leAt m 2 1
  let nw := mxWindows m
  let ws := List.range nw
  m.length == 8352 && leAt m 0 2 == 1 && nc ≤ 6 && 1 ≤ nw && nw ≤ 32 && 100 ≤ mxNtu m &&
    (List.range 26).all (fun k => m.getD (6 + k) 0 == 0) &&
    mxStart m 0 == 0 &&
    (ws.all fun w => w == 0 || mxStart m (w - 1) + mxLen m (w - 1) ≤ mxStart m w) &&
    (mxStart m (nw - 1) + mxLen m (nw - 1) ≤ mxNtu m) &&
    ((List.range 64).all fun c => (List.range 32).all fun w =>
      let v := mxCell m c w
      if c < mxCycles m && w < nw then
        bits v 15 0 == 0 && cellType v != 3 && (w != 0 || (cellType v == 1 && !cellTx v && cellBuf v == 0)) &&
          (!cellTx v || ((cellType v == 1 || cellType v == 2) && cellBuf v ≤ 30))
      else v == 0)

/-! ### Timetable time (R338) -/

/-- The Timetable of a port runs cycles: a reference has been met, or the port runs on its own timing. -/
def Tt.cycling (t : Tt) : Bool := t.st == .running || t.st == .lost

/-- Start of a window, its length and its cell, as the message RAM holds them (R322). -/
def Tt.winStart (t : Tt) (w : Nat) : Nat := (t.winTable.getD w (0, 0)).1
def Tt.winLen (t : Tt) (w : Nat) : Nat := (t.winTable.getD w (0, 0)).2
def Tt.cell (t : Tt) (w : Nat) : Nat := (t.banks.getD t.bank []).getD w 0

/-- Junction loads the window table of a matrix that starts (R322). -/
def Tt.load (t : Tt) : Tt :=
  match t.active with
  | none => t
  | some m => { t with winTable := (List.range 32).map fun w => (mxStart m w, mxLen m w) }

/-- Basic cycle `c` starts at `at_`: the port turns to the other bank of cells, which Junction has filled for it (R322, R338). -/
def Tt.intoCycle (t : Tt) (c at_ : Nat) : Tt :=
  let b := 1 - t.bank
  { t with cycle := c, cycAt := at_, win := some 0, bank := b,
           banks := match t.active with
             | none => t.banks
             | some m => lset t.banks b ((List.range 32).map (mxCell m c)) }

/-- `CAN` clocks since the cycle time restarted. -/
def State.ttPos (s : State) (p : Nat) : Nat := (s.now - (s.port p).tt.cycAt) * 80

/-- Whether an event frame of `clk` clocks may start now (R341, R342). -/
def State.eventFits (s : State) (p clk : Nat) : Bool :=
  let x := s.port p
  match x.tt.active with
  | none => true
  | some m =>
    if x.tt.st != .running then true
    else
      let nom := (s.canTim p).nom
      let pos := s.ttPos p
      let held := (List.range (mxWindows m)).filter fun w => cellType (x.tt.cell w) != 0
      let inside := held.any fun w => x.tt.winStart w * nom ≤ pos && pos < (x.tt.winStart w + x.tt.winLen w) * nom
      let limit := (held.map fun w => x.tt.winStart w * nom).foldl (fun a b => if pos < b then min a b else a) (mxNtu m * nom)
      !inside && pos + clk < limit

/-- A dedicated buffer that a cell of a Timetable that is not off names (R327). -/
def Port.ttNamed (x : Port) (it : TxItem) : Bool :=
  !it.queue && x.tt.st != .off &&
    (match x.tt.active with
     | none => false
     | some m => mxNames m it.idx)

/-! ### Writing frames (R327) -/

/-- One-shot mode applies to every frame of the port (R330). -/
def State.oneShotAll (s : State) (p : Nat) : Bool :=
  s.mn.phase != .run || s.mn.mode == .depot || (s.port p).afterOff || (s.port p).alone

/-- A frame refused when it is written (R327): too long for `TXE_SIZE`, or an FD frame with `FD_EN` clear. -/
def State.txRefused (s : State) (p : Nat) (f : CanFrame) : Bool :=
  f.len > elemSize (s.cf (cnObj p) Fd.cnConf.TXE_SIZE) || (f.fdf && !s.cfb (cnObj p) Fd.cnConf.FD_EN)

/-- A frame is written into a dedicated buffer or queue entry. -/
def State.txWrite (s : State) (p : Nat) (it : TxItem) : State :=
  if s.txRefused p it.frame then s.complete p it 2 6
  else s.modPort p fun x => { x with tx := x.tx ++ [{ it with num := x.txNum }], txNum := x.txNum + 1 }

/-- The lowest free entry of the transmit queue. -/
def Port.freeEntry (x : Port) : Option Nat := (List.range 32).find? fun k => (x.item true k).isNone

/-- The controller takes entries from `Q-FABO` into its transmit queue while there is room; a poisoned one is not sent
(R42): `JN` receives `TX_FAIL` with the cause 6, refused at the write, and buffer 0 (log 68). `n` bounds the takes. -/
def State.takeFabo (s : State) (p : Nat) : Nat → State
  | 0 => s
  | n + 1 =>
    match (s.port p).qFabo with
    | [] => s
    | e :: rest =>
      if e.bad then
        let s1 := s.modPort p fun x => { x with qFabo := rest }
        State.takeFabo ((s1.poisonEvent prPeri (8 + p)).complete p { e.val with queue := true } 2 6) p n
      else
        match (s.port p).freeEntry with
        | none => s
        | some k =>
          State.takeFabo ((s.modPort p fun x => { x with qFabo := rest }).txWrite p { e.val with queue := true, idx := k }) p n

/-- The `USE` code that carries a frame of Junction (Table 13.6). -/
def TxItem.useCode (it : TxItem) : Nat :=
  match it.use with
  | .fabric c =>
    if c == 4 then
      (if leAt it.frame.data 3 2 % 4096 == 0 then 1 else 2)
    else if 1 ≤ c && c ≤ 3 then 3
    else if c == 5 || c == 6 then 4 else 0
  | _ => 0

/-- The buffers that sending cells of a running Timetable give to a `USE` code. -/
def Port.useBufs (x : Port) (u : Nat) : List Nat :=
  if u == 0 || x.tt.st != .running then []
  else
    match x.tt.active with
    | none => []
    | some m => ((mxTxCells m).filter fun v => cellUse v == u).map cellBuf

/-- Moves one frame of Junction's backlog on: into an empty buffer of its `USE` code, or into `Q-FABO` where no cell
carries it; answers none when nothing can move. -/
def State.pumpOne (s : State) (p : Nat) : Option State :=
  let x := s.port p
  let can := fun (it : TxItem) =>
    match x.useBufs it.useCode with
    | [] => x.qFabo.length < 64
    | bs => bs.any fun b => (x.item false b).isNone
  match x.backlog.find? can with
  | none => none
  | some it =>
    let s1 := s.modPort p fun y => { y with backlog := y.backlog.erase it }
    match x.useBufs it.useCode with
    | [] =>
      let s2 := s1.modPort p fun y => { y with qFabo := y.qFabo ++ [{ val := it, prod := 0 }] }
      some ((s2.noteHigh (8 + p) (x.qFabo.length + 1)).takeFabo p 64)
    | bs =>
      match bs.find? fun b => (x.item false b).isNone with
      | none => none
      | some b => some (s1.txWrite p { it with queue := false, idx := b, oneShot := true })

/-- Junction and the controller move frames on while something can move; `n` bounds the moves. -/
def State.pump (s : State) (p : Nat) : Nat → State
  | 0 => s
  | n + 1 =>
    match State.pumpOne (s.takeFabo p 64) p with
    | none => s.takeFabo p 64
    | some t => State.pump t p n

/-- The class by which the backlog is ordered (R368). -/
def TxItem.cls (it : TxItem) : Nat :=
  match it.use with
  | .fabric c => c
  | _ => 0

/-- Inserts after every frame of the same or a lower class. -/
def backlogInsert (it : TxItem) : List TxItem → List TxItem
  | [] => [it]
  | x :: l => if it.cls < x.cls then it :: x :: l else x :: backlogInsert it l

/-- The list without its last element that satisfies `f`; none without one. -/
def dropLastWhere {α : Type} (f : α → Bool) : List α → Option (List α)
  | [] => none
  | x :: l =>
    match dropLastWhere f l with
    | some r => some (x :: r)
    | none => if f x then some l else none

/-- The newest frame of class 4–6: the frame of those classes with the highest number (R368). -/
def newestLow (l : List TxItem) : Option TxItem :=
  l.foldl (fun a it => if it.cls < 4 then a else
    match a with
    | none => some it
    | some b => if b.num < it.num then some it else a) none

/-- Junction queues a frame on a port (R368). -/
def State.jnSend (s : State) (p : Nat) (cls : Nat) (f : CanFrame) : State :=
  let x := s.port p
  if x.st == .off || x.st == .lowPower then s
  else
    let it : TxItem := { queue := true, idx := 0, frame := f, use := .fabric cls, num := x.txNum }
    let s0 := s.modPort p fun y => { y with txNum := y.txNum + 1 }
    let drop := fun (t : State) => { t with fb.drops := sat 16 (t.fb.drops + 1) }
    let stall := fun (t : State) =>
      if (t.port p).backlog.contains it && ((t.port p).useBufs it.useCode).isEmpty then t.noteStall (8 + p) else t
    if x.backlog.length < 128 then
      stall (State.pump (s0.modPort p fun y => { y with backlog := backlogInsert it y.backlog }) p 256)
    else if 4 ≤ cls then drop s0
    else
      match newestLow x.backlog with
      | none => drop s0
      | some o =>
        stall (State.pump (drop (s0.modPort p fun y => { y with backlog := backlogInsert it (y.backlog.erase o) })) p 256)

/-! ### Starting a frame (R327, R330, R332, R342) -/

/-- A transmit element with a failing word is not started (R326). -/
def State.ramFail (s : State) (p off : Nat) : State :=
  (s.modPort p fun x => { x with ramParity := sat 16 (x.ramParity + 1) }).raise prPeri evCanRamParity p off

/-- Fabric time, µs (R360). -/
def State.fabTime (s : State) : Int := (s.now : Int) + s.fb.offset

/-- The reference message of this node (R339): cycle count and fabric time. -/
def State.refFrame (s : State) (cyc : Nat) : CanFrame :=
  { xtd := s.native, fdf := false, brs := false, id := fabId s.native 0 s.fb.node 0, dlc := 8,
    data := by8 cyc :: leBytes 7 (unsgn 56 s.fabTime) }

/-- Words of the message RAM from `base` on, `n` of them (Table 12.4). -/
def inSection (base n off : Nat) : Bool := base ≤ off && off < base + n

/-- The failing word lies in the element of a frame to be sent: 18 words for each buffer and each entry (Table 12.4). Which element
holds a reference message is not stated: any dedicated buffer's (log 38). -/
def TxItem.ramWord (it : TxItem) (off : Nat) : Bool :=
  if it.use == .reference then inSection 2448 576 off
  else inSection ((if it.queue then 3024 else 2448) + 18 * it.idx) 18 off

/-- The failing word lies in the section of a receive FIFO (Table 12.4). -/
def rxRamWord (k off : Nat) : Bool := inSection (if k == 0 then 144 else 1296) 1152 off

/-- The start of frame of an item; a reference message carries fabric time at that moment. -/
def State.startItem (s : State) (p : Nat) (it : TxItem) (tt : Bool) (ram : Option (Fin 4096)) : State :=
  match ram.filter fun o => it.ramWord o.val with
  | some off => State.txEnd (s.ramFail p off) p it 2 7
  | none =>
    let stamp := fun (i : TxItem) =>
      if i.num == it.num && i.use == .reference then { i with frame := s.refFrame (leAt i.frame.data 0 1) } else i
    s.modPort p fun x => { x with air := some (it.queue, it.idx), airTt := tt, airAt := s.now, txdTmo := false, tx := x.tx.map stamp }

/-- The port may start a frame at all: error active or passive, no frame of its own under way, no configuration change
waiting, the transmit counter not beyond 255. -/
def Port.canStart (x : Port) : Bool :=
  (x.st == .active || x.st == .passive) && x.air.isNone && !x.reconf && x.tec ≤ 255

/-- The lowest identifier among items; equal ones in the order written (R327). -/
def lowestItem (l : List TxItem) : Option TxItem :=
  l.foldl (fun a it =>
    match a with
    | none => some it
    | some b => if it.frame.key < b.frame.key || (it.frame.key == b.frame.key && it.num < b.num) then some it else a) none

/-- The event frames that the port may send now: in Siding the heartbeat alone (R314), under `SEGMENT_ALONE` the
discovery heartbeats (R332). -/
def State.eventItems (s : State) (p : Nat) : List TxItem :=
  let x := s.port p
  x.tx.filter fun it => !x.ttNamed it &&
    (s.mn.mode != .siding || it.use == .siding) &&
    (!x.alone || it.use == .fabric 5 || it.use == .siding)

/-- A port starts sending: the event frame with the lowest identifier, when it fits. -/
def execCanTxStart (p : Fin 3) (ram : Option (Fin 4096)) (s : State) : Out :=
  if (s.port p).canStart then
    match lowestItem (s.eventItems p) with
    | none => .next s
    | some it => if s.eventFits p (frClocks (s.canTim p) it.frame) then .next (s.startItem p it false ram) else .next s
  else .next s

/-- Once per second under `SEGMENT_ALONE` the pending frame with the lowest identifier is sent in one-shot mode, besides
the discovery heartbeats (R332); in Siding nothing but the status heartbeat goes out (R314). -/
def execSegmentAloneSend (a : PortRam) (s : State) : Out :=
  let p : Nat := a.port
  let x := s.port p
  if x.alone && x.canStart then
    let s1 := match x.aloneAt with
      | none => s
      | some t => s.advTo (t + 1000000)
    match lowestItem ((s1.port p).tx.filter fun it => !x.ttNamed it && it.use != .fabric 5 && s.mn.mode != .siding) with
    | none => .next s
    | some it =>
      if s1.eventFits p (frClocks (s1.canTim p) it.frame) then
        let one := { it with oneShot := true }
        .next (State.startItem (s1.modPort p fun y => { y with
          aloneAt := some s1.now, tx := y.tx.map fun i => if i.num == it.num then one else i }) p one false a.ram)
      else .next s
  else .next s

/-! ### The end of an attempt (R328–R331, R321) -/

/-- What follows every attempt: the configuration change that waited, and the next frames. -/
def State.afterAir (s : State) (p : Nat) : State :=
  State.pump (State.canLeave s p) p 256

/-- An attempt that failed: the cause of a one-shot frame, else the latched cancel, else the frame stays pending. -/
def State.attemptFailed (s : State) (p : Nat) (it : TxItem) (one : Bool) (cause : Nat) : State :=
  let s1 := s.modPort p fun x => { x with air := none, airTt := false }
  if it.cancel then s1.txEnd p it 1 0
  else if one && cause == 3 && (s.port p).airTt then s1.ttDrop p it 3
  else if one then s1.txEnd p it 2 cause
  else s1

/-- The transmit counter after an error of an own frame (R331). -/
def State.txErrCount (s : State) (p lec : Nat) (exempt : Bool) : State :=
  let x := s.port p
  let skip := exempt && (lec == 1 || (lec == 3 && x.st == .passive))
  State.errState (s.modPort p fun y => { y with lec := lec, tec := if skip then y.tec else y.tec + 8 }) p

/-- An error ends an attempt. -/
def State.txError (s : State) (p : Nat) (it : TxItem) (one : Bool) (lec : Nat) (exempt : Bool) : State :=
  let s1 := s.txErrCount p lec exempt
  let s2 := if lec == 3 then s1.ackError p else s1
  s2.attemptFailed p it one (if (s2.port p).tec > 255 then 3 else 2)

/-- A frame was sent and acknowledged. -/
def State.txSent (s : State) (p : Nat) (it : TxItem) (tdcv : Option (Fin 128)) : State :=
  let s1 := s.modPort p fun x => { x with
    air := none, airTt := false, txFrames := (x.txFrames + 1) % 2 ^ 32, tec := x.tec - 1, afterOff := false,
    tdcv := match tdcv with
      | some v => v.val
      | none => x.tdcv }
  ((s1.errState p).aloneEnd p 1).txEnd p it 0 0

/-! ### Receiving (R315, R318, R323–R325) -/

/-- Header words of a receive element (Table 12.14). -/
def rxElem (f : CanFrame) (ts rule : Nat) (ramErr trunc : Bool) (data : List Byte) : RxElem :=
  { h0 := b2n f.xtd * 2 ^ 31 + b2n f.fdf * 2 ^ 30 + b2n f.brs * 2 ^ 29 + f.id % 2 ^ 29,
    h1 := (ts % 65536) * 65536 + (f.dlc % 16) * 4096 + (rule % 64) * 64 + b2n f.esi * 32 + b2n f.rtr * 16 +
      b2n ramErr * 8 + b2n trunc * 4,
    data := data }

/-- What R318 says of a data frame. -/
inductive RxJudge where
  | ok | other | clash | implausible
  deriving DecidableEq, Repr

/-- The test of R318. -/
def State.judgeRx (s : State) (f : CanFrame) : RxJudge :=
  let n := s.native
  if f.xtd != n then .implausible
  else
    let src := idSrc n f.id
    let cls := idClass n f.id
    let dst := if n then bits f.id 11 0 else 0
    if src != 0 && src == s.fb.node then .clash
    else if dst != 0 && dst != s.fb.node then .other
    else if src == 0 then .implausible
    else if cls == 0 then
      (if !f.fdf && f.dlc == 8 && dst == 0 then .ok else .implausible)
    else if f.fdf && f.len ≥ 8 then .ok else .implausible

/-- The first enabled acceptance rule that a frame matches (R323). -/
def matchRule (f : CanFrame) : List (Nat × Nat × Nat) → Nat → Option (Nat × Nat)
  | [], _ => none
  | (w0, w1, w2) :: l, k =>
    if bitOf w0 31 && bitOf w0 30 == f.xtd && (f.id &&& bits w1 28 0) == (bits w0 28 0 &&& bits w1 28 0) &&
        bits w2 31 24 ≤ f.len then some (k, bits w1 31 30)
    else matchRule f l (k + 1)

/-- Stored elements enter `Q-FABI` while the port holds credits; FIFO 0 first (R323). `n` bounds the moves. -/
def State.feedFabi (s : State) (p : Nat) : Nat → State
  | 0 => s
  | n + 1 =>
    let x := s.port p
    if x.qFabi.length < 64 then
      match x.fifo0, x.fifo1 with
      | e :: rest, _ =>
        State.feedFabi ((s.modPort p fun y => { y with
          fifo0 := rest, qFabi := y.qFabi ++ [{ val := e, prod := 0 }] }).noteHigh (5 + p) (x.qFabi.length + 1)) p n
      | [], e :: rest =>
        State.feedFabi ((s.modPort p fun y => { y with
          fifo1 := rest, qFabi := y.qFabi ++ [{ val := e, prod := 0 }] }).noteHigh (5 + p) (x.qFabi.length + 1)) p n
      | [], [] => s
    else s

/-- Stores a frame in receive FIFO `k` by rule `rule` (R324–R326). -/
def State.storeRx (s : State) (p : Nat) (f : CanFrame) (ts rule k : Nat) (ramErr : Option (Fin 4096)) : State :=
  let x := s.port p
  let fifo := if k == 0 then x.fifo0 else x.fifo1
  if fifo.length ≥ 64 then
    State.canNote (s.modPort p fun y => { y with rxOvf := sat 16 (y.rxOvf + 1) }) p
      fun l => { l with ovf := l.ovf + 1, ovfFifo := k }
  else
    let size := elemSize (s.cf (cnObj p) (if k == 0 then Fd.cnConf.RXE0_SIZE else Fd.cnConf.RXE1_SIZE))
    let trunc := f.len > size
    let e := rxElem f ts rule ramErr.isSome trunc (padTo (min f.len size) f.data)
    let s1 := s.modPort p fun y => { y with
      rxFrames := (y.rxFrames + 1) % 2 ^ 32,
      fifo0 := if k == 0 then y.fifo0 ++ [e] else y.fifo0,
      fifo1 := if k == 0 then y.fifo1 else y.fifo1 ++ [e],
      truncs := if trunc then sat 16 (y.truncs + 1) else y.truncs }
    let s2 := if trunc then s1.canNote p fun l => { l with trunc := l.trunc + 1 } else s1
    let s3 := match ramErr with
      | some off => s2.ramFail p off
      | none => s2
    if (s3.port p).qFabi.length < 64 then s3.feedFabi p 128 else s3.noteStall (5 + p)

/-- A frame that fits no test of R318 or is remote: discarded and counted. -/
def State.rxImplausible (s : State) (p : Nat) : State :=
  State.canNote (s.modPort p fun x => { x with implaus := sat 16 (x.implaus + 1) }) p
    fun l => { l with implaus := l.implaus + 1 }

/-- The capture ring of raw access (R346). -/
def State.captureRx (s : State) (p : Nat) (f : CanFrame) (ts rule : Nat) (ramErr : Bool) : State :=
  s.modPort p fun x =>
    if s.mn.mode == .depot && x.raw.capture then
      (if x.raw.ring.length < 16 then
        { x with raw.ring := x.raw.ring ++ [rxElem f ts rule ramErr false (padTo f.len f.data)] }
       else { x with raw.lost := sat 16 (x.raw.lost + 1) })
    else x

/-- A reference message reaches the Timetable of a port that is not master (R340). -/
def State.ttReference (s : State) (p : Nat) (cyc sof : Nat) : State :=
  let x := s.port p
  match x.tt.active with
  | none => s
  | some m =>
    if x.tt.st == .off || x.tt.master then s
    else
      let want := (x.tt.cycle + 1) % mxCycles m
      let jump := x.tt.cycling && want != cyc
      let s1 := s.modPort p fun y => { y with tt := { y.tt.intoCycle cyc sof with
        st := .running, missRun := 0, cycJumps := if jump then sat 16 (y.tt.cycJumps + 1) else y.tt.cycJumps } }
      let s2 := if jump then s1.raise prJN evTtCycleJump p (want * 256 + cyc) else s1
      let s3 := if x.tt.st != .running then s2.raise prJN evTtRunning p cyc else s2
      s3.pump p 256

/-- A rule matched: its count goes up (R323). -/
def State.ruleHit (s : State) (p : Nat) (rule : Option (Nat × Nat)) : State :=
  match rule with
  | none => s
  | some (k, _) => s.modPort p fun x => { x with rules := lmod x.rules k fun w =>
      (w.1, w.2.1, putBits w.2.2 15 0 (sat 16 (bits w.2.2 15 0 + 1))) }

/-- A frame that the port takes from the bus without error, or its own frame in loopback. Every data frame is tested
against the acceptance rules (R323), in Siding too, where nothing is stored (R314); only one that passes R318 is stored. Junction
discards an element with a failing word, a reference too (R326). -/
def State.rxFrame (s : State) (p : Nat) (f : CanFrame) (sof : Nat) (ramErr : Option (Fin 4096)) : State :=
  let rule := if f.rtr then none else matchRule f (s.port p).rules 0
  let ts := sof % 65536
  let ramErr := ramErr.filter fun o => rule.any fun r => rxRamWord r.2 o.val
  if s.mn.mode == .siding then s.ruleHit p rule
  else
    let s1 := (s.captureRx p f ts (match rule with
      | some (k, _) => k
      | none => 63) ramErr.isSome).ruleHit p rule
    if f.rtr then s1.rxImplausible p
    else
      match s.judgeRx f with
      | .other => s1
      | .implausible => s1.rxImplausible p
      | .clash =>
        State.raise (s1.modPort p fun x => { x with clash := sat 16 (x.clash + 1) }) prPeri evCanAddrClash p f.id
      | .ok =>
        let s2 := match rule with
          | none => s1
          | some (k, act) => if act ≤ 1 then s1.storeRx p f ts k act ramErr else s1
        if idClass s.native f.id == 0 && ramErr.isNone then s2.ttReference p (bits (leAt f.data 0 1) 5 0) sof else s2

/-- How an attempt ends once the delay measurement of R321 is judged: where compensation runs, a count that with `TDCO` exceeds 127 or no
edge ends the frame in a bit error of the measurement, and where it does not run or the count is in range a bit error is an error as
any other. Which bit was sent in the first case is a free value (log 2). -/
def State.tdcEnd (s : State) (p : Nat) (f : CanFrame) (r : TxEnd) : TxEnd :=
  let runs := s.cfb (cnObj p) Fd.cnConf.TDC_EN && f.fdf && f.brs
  let inRange := fun (v : Option (Fin 128)) => v.any fun n => n.val + s.cf (cnObj p) Fd.cnConf.TDCO ≤ 127
  match r with
  | .sent v => if !runs then .sent none else if inRange v then .sent v else .tdcFail v (Config.free s.freeCtr % 2 == 1)
  | .measured v lec ex =>
    if !runs then .error lec ex else if inRange v then .measured v lec ex else .tdcFail v (Config.free s.freeCtr % 2 == 1)
  | .tdcFail v bit1 => if runs && !inRange v then .tdcFail v bit1 else .error (if bit1 then 4 else 5) false
  | e => e

/-- An attempt of the frame under way ends. -/
def execCanTxDone (p : Fin 3) (r : TxEnd) (s : State) : Out :=
  let x := s.port p
  match x.air with
  | none => .next s
  | some (q, k) =>
    match x.item q k with
    | none => .next (s.modPort p fun y => { y with air := none, airTt := false })
    | some it =>
      let one := it.oneShot || x.airTt || s.oneShotAll p
      let e := s.tdcEnd p it.frame r
      let s0 := s.modPort p fun y => { y with txdTmo := false }
      let s0 := if e == r then s0 else s0.freeNext
      let s1 : State := match e with
        | .sent v =>
          let t := s0.txSent p it v
          if s.mn.mode == .depot && (x.raw.mode == 2 || x.raw.mode == 3) then t.rxFrame p it.frame.norm x.airAt none else t
        | .lostArb => s0.attemptFailed p it one 1
        | .error lec ex => s0.txError p it one (if lec.val == 0 then x.lec else lec.val) ex
        | .measured v lec ex =>
          let t := s0.modPort p fun y => { y with tdcv := match v with | some n => n.val | none => y.tdcv }
          t.txError p it one (if lec.val == 0 then x.lec else lec.val) ex
        | .tdcFail v bit1 =>
          let t := s0.modPort p fun y => { y with
            tdcFails := sat 16 (y.tdcFails + 1),
            tdcv := match v with
              | some n => n.val
              | none => y.tdcv }
          (t.canNote p fun l => { l with tdc := l.tdc + 1 }).txError p it one (if bit1 then 4 else 5) false
      .next (s1.afterAir p)

/-! ### Bus-off (R333, R334) -/

/-- Automatic recoveries of the last 60 s. -/
def State.autoRecov (s : State) (p : Nat) : List Nat := (s.port p).recovs.filter fun t => s.now < t + 60000000

/-- A port whose transmit counter exceeds 255 goes bus-off. -/
def execCanBusOff (p : Fin 3) (s : State) : Out :=
  let x := s.port p
  if x.tec > 255 && (x.st == .active || x.st == .passive) then
    let l := s.autoRecov p
    let s1 := State.raise (s.modPort p fun y => { y with
      busOffs := sat 16 (y.busOffs + 1), air := none, airTt := false, byCommand := false, offAt := s.now }) prPeri evCanBusOff p x.lec
    if l.length < 3 then .next (s1.modPort p fun y => { y with st := .busOff, recovs := l ++ [s.now] })
    else .next (State.raise (s1.modPort p fun y => { y with st := .held, recovs := l }) prPeri evCanRecoveryHeld p l.length)
  else .next s

/-- 128 occurrences of 11 recessive bits, in µs. -/
def State.recoveryUs (s : State) (p : Nat) : Nat := cdiv (128 * 11 * (s.canTim p).nom) 80

/-- A bus-off recovery completes. -/
def execCanRecovered (p : Fin 3) (s : State) : Out :=
  let x := s.port p
  if x.st == .busOff then
    let s1 := s.advTo (x.offAt + s.recoveryUs p)
    .next (State.afterAir (State.raise (s1.modPort p fun y => { y with
      st := s1.joinState p, tec := 0, recv := 0, afterOff := true, byCommand := false }) prPeri evCanRecovered p (b2n x.byCommand)) p)
  else .next s

/-- `CAN_RECOVER` starts a recovery on a held port (R137). -/
def State.canRecover (s : State) (p : Nat) : State :=
  s.modPort p fun x => { x with st := .busOff, byCommand := true, offAt := s.now }

/-- The transceiver stops driving after 4 ms of dominant (R313). -/
def execCanTxdTimeout (p : Fin 3) (s : State) : Out :=
  let x := s.port p
  if x.st == .off || x.st == .lowPower || x.txdTmo then .next s
  else .next (State.raise (s.modPort p fun y => { y with txdTmo := true }) prPeri evCanTxdTimeout p 0)

/-! ### Cancelling (R329) -/

/-- Cancels one frame: it ends `CANCELLED`, or the cancel is latched on it when its start of frame has been sent. -/
def State.cancelItem (s : State) (p : Nat) (it : TxItem) : State :=
  if (s.port p).air == some (it.queue, it.idx) then
    s.modPort p fun x => { x with
      tx := x.tx.map fun i => if i.queue == it.queue && i.idx == it.idx then { i with cancel := true } else i }
  else s.txEnd p it 1 0

/-- Cancels the frame of a buffer or entry; answers true when it is past its start of frame, so that the cancel stays
latched. -/
def State.canCancel (s : State) (p : Nat) (queue : Bool) (idx : Nat) : State × Bool :=
  match (s.port p).item queue idx with
  | none => (s, false)
  | some it =>
    if (s.port p).air == some (queue, idx) then (s.cancelItem p it, true)
    else ((s.cancelItem p it).pump p 256, false)

/-- The frames of the Timetable's buffers end `CANCELLED`; nothing takes their places before the matrix has changed or stopped
(R344). -/
def State.cancelNamed (s : State) (p : Nat) : State :=
  ((s.port p).tx.filter (s.port p).ttNamed).foldl (fun t it => t.cancelItem p it) s

/-! ### Cycles and windows (R338–R342) -/

/-- A Timetable frame whose window passes while the port cannot send ends with cause 3 at bus-off and 8 under `SEGMENT_ALONE` or during a
configuration change; one that finds another frame of the port on the bus, or a window too short, ends with cause 4 (R328, R342). -/
def Port.missCause (x : Port) (fits : Bool) : Option Nat :=
  if x.st == .busOff || x.st == .held then some 3
  else if x.alone || x.reconf || !(x.st == .active || x.st == .passive) then some 8
  else if !fits || x.air.isSome || x.tec > 255 then some 4
  else none

/-- A Timetable frame ends without a start of frame in window `w` (R328, R340, R342). -/
def State.windowMissed (s : State) (p w : Nat) (it : TxItem) (cause : Nat) : State :=
  let x := s.port p
  if cause == 4 then
    let s1 := State.txEnd (s.modPort p fun y => { y with tt.windowMiss := sat 16 (y.tt.windowMiss + 1), tt.missLog := true }) p it 2 4
    if x.tt.missLog then s1 else s1.raise prJN evTtWindowMiss p (x.tt.cycle * 256 + w)
  else s.ttDrop p it cause

/-- The place of the reference message, beside the buffers that matrices (0–30) and the raw interface (31) name (log 38). -/
def refBuf : Nat := 32

/-- Sends the reference message in window 0, single attempt, or ends it when the port cannot send. -/
def State.sendRef (s : State) (p cyc : Nat) (ram : Option (Fin 4096)) : State :=
  let it : TxItem := { queue := false, idx := refBuf, frame := s.refFrame cyc, use := .reference, oneShot := true }
  match (s.port p).missCause true with
  | some c => s.windowMissed p 0 it c
  | none =>
    let s1 := (s.modPort p fun x => { x with tx := x.tx.filter (·.use != .reference) }).txWrite p it
    match (s1.port p).item false refBuf with
    | none => s1
    | some i => s1.startItem p i true ram

/-- The number of the basic cycle whose start comes next in fabric time, and its start in model time (R338). -/
def State.nextCycle (s : State) (p : Nat) (m : List Byte) : Nat × Nat :=
  let clk := mxNtu m * (s.canTim p).nom
  let from_ := if (s.port p).tt.cycling then max s.now ((s.port p).tt.cycAt + 1) else s.now
  let f : Int := ((from_ : Int) + s.fb.offset) * 80
  let k : Int := (f + (clk : Int) - 1) / (clk : Int)
  let at_ : Int := (k * (clk : Int) + 79) / 80 - s.fb.offset
  ((k % (mxCycles m : Int)).toNat, max from_ at_.toNat)

/-- A basic cycle starts at the time master: it sends the reference message in window 0. -/
def execTtCycleStart (a : PortRam) (s : State) : Out :=
  let p : Nat := a.port
  let x := s.port p
  match x.tt.active with
  | none => .next s
  | some m =>
    if x.tt.st != .off && x.tt.master && mxNtu m * (s.canTim p).nom != 0 then
      let n := s.nextCycle p m
      let s1 := s.advTo n.2
      let s2 := s1.modPort p fun y => { y with tt := { y.tt.intoCycle n.1 s1.now with st := .running, missRun := 0 } }
      let s3 := if x.tt.st != .running then s2.raise prJN evTtRunning p n.1 else s2
      .next ((s3.sendRef p n.1 a.ram).pump p 256)
    else .next s

/-- A port that is not master meets no reference in time: it runs the next cycle on its own timing (R340). -/
def State.ttMiss (s : State) (p : Nat) (m : List Byte) : State :=
  let nom := (s.canTim p).nom
  let x := s.port p
  let next := x.tt.cycAt + cdiv (mxNtu m * nom) 80
  let s1 := s.advTo (x.tt.cycAt + cdiv ((mxNtu m + s.cf (ttObj p) Fd.ttConf.REF_TOL_NTU) * nom) 80)
  let s2 := s1.modPort p fun y => { y with tt := { y.tt.intoCycle ((y.tt.cycle + 1) % mxCycles m) next with
    missRun := sat 16 (y.tt.missRun + 1), refMiss := sat 16 (y.tt.refMiss + 1) } }
  let run := (s2.port p).tt.missRun
  let s3 := s2.raise prJN evTtRefMiss p run
  if x.tt.st == .running && run ≥ s.cf (ttObj p) Fd.ttConf.REF_MISS_MAX then
    ((s3.modPort p fun y => { y with tt.st := .lost }).raise prJN evTtLost p run).pump p 256
  else s3

/-- A window's start in model time, µs. -/
def State.winAt (s : State) (p w : Nat) : Nat :=
  (s.port p).tt.cycAt + cdiv ((s.port p).tt.winStart w * (s.canTim p).nom) 80

/-- A frame of `clk` clocks that starts now, and no earlier than the window, ends by the window's end (R342). -/
def State.windowFits (s : State) (p w clk : Nat) : Bool :=
  let t := (s.port p).tt
  let nom := (s.canTim p).nom
  let pos := if s.now ≤ s.winAt p w then t.winStart w * nom else s.ttPos p
  pos + clk ≤ (t.winStart w + t.winLen w) * nom

/-- The frame of a window that the port names: sent, or ended with the cause of R328. -/
def State.ttWindowFrame (s : State) (p : Nat) (w : Nat) (it : TxItem) (ram : Option (Fin 4096)) : State :=
  let x := s.port p
  if x.tt.st == .lost then s.ttDrop p it 5
  else
    match x.missCause (s.windowFits p w (frClocks (s.canTim p) it.frame)) with
    | some c => s.windowMissed p w it c
    | none => s.startItem p it true ram

/-- The next window of the cycle starts (R341). -/
def execTtWindowStart (p : Fin 3) (ram : Option (Fin 4096)) (s : State) : Out :=
  let x := s.port p
  match x.tt.active, x.tt.win with
  | some m, some w0 =>
    let w := w0 + 1
    if x.tt.cycling && w < mxWindows m then
      let s1 := State.modPort (s.advTo (s.winAt p w)) p fun y => { y with tt.win := some w }
      let v := x.tt.cell w
      if cellTx v then
        match x.item false (cellBuf v) with
        | none => .next s1
        | some it => .next ((s1.ttWindowFrame p w it ram).pump p 256)
      else .next s1
    else .next s
  | _, _ => .next s

/-- The pending matrix becomes active at a Changeover (R344). -/
def State.ttCommit (s : State) (p : Nat) : State :=
  let x := s.port p
  match x.tt.pend with
  | none => s
  | some m =>
    let en := s.cfb (ttObj p) Fd.ttConf.TT_EN
    let s1 := (s.cancelNamed p).modPort p fun y => { y with tt := Tt.load { y.tt with
      active := some m, pend := none, win := none, missRun := 0, st := if en then .waitRef else .off } }
    (s1.raise prJN evTtCommitted p (s.per.count % 65536)).pump p 256

/-- `TT_EN` as it stands in force starts or stops the Timetable at a Changeover (R344); at a stop the frames of its buffers and the
transfers of its matrix end `CANCELLED` (R33, R119). -/
def State.ttEnable (s : State) (p : Nat) : State :=
  let x := s.port p
  let en := s.cfb (ttObj p) Fd.ttConf.TT_EN
  if en && x.tt.active.isSome && x.tt.st == .off then
    s.modPort p fun y => { y with tt := Tt.load { y.tt with st := .waitRef, win := none, missRun := 0 } }
  else if !en && x.tt.st != .off then
    let s1 := (s.cancelXfers fun v => v.stream == 0x05 && v.sub == p).cancelNamed p
    State.pump (s1.modPort p fun y => { y with tt.st := .off, tt.win := none }) p 256
  else s

/-! ### Raw access (R346, Table 12.13) -/

/-- The raw frame as the registers give it. -/
def RawCan.frame (r : RawCan) : CanFrame :=
  let fdf := bitOf r.hdr 30
  let n := dlcLen fdf r.dlc
  { xtd := bitOf r.hdr 31, fdf := fdf, brs := bitOf r.hdr 29, id := bits r.hdr 28 0, dlc := r.dlc, rtr := r.rtr,
    data := if r.rtr then [] else padTo n (r.tx.flatMap fun w => leBytes 4 w) }

/-- Writing `SEND` (R346). -/
def State.rawSend (s : State) (p : Nat) : State :=
  let x := s.port p
  if x.raw.result == 1 then s
  else
    let f := x.raw.frame
    let it : TxItem := { queue := false, idx := 31, frame := f, use := .raw, oneShot := true }
    let bad := dlcLen f.fdf f.dlc > elemSize (s.cf (cnObj p) Fd.cnConf.TXE_SIZE) || (f.fdf && f.rtr) ||
      (f.fdf && !s.cfb (cnObj p) Fd.cnConf.FD_EN) || (f.brs && !s.cfb (cnObj p) Fd.cnConf.BRS_EN) || (!f.xtd && f.id > 0x7FF)
    if bad then s.complete p it 2 6
    else State.txWrite (s.modPort p fun y => { y with raw.result := 1 }) p it

/-- Writing `ABORT` (R329). -/
def State.rawAbort (s : State) (p : Nat) : State :=
  match (s.port p).item false 31 with
  | none => s
  | some it => if it.use == .raw then (s.canCancel p false 31).1 else s

/-- Writing `POP`. -/
def State.rawPop (s : State) (p : Nat) : State := s.modPort p fun x => { x with raw.ring := x.raw.ring.drop 1 }

/-- Depot register access is open (R142): mode Depot and the mailboxes served. -/
def State.depotOpen (s : State) : Bool := s.mn.mode == .depot && s.mn.phase == .run && s.mn.serving

/-- `SEND`. -/
def execSend (p : Fin 3) (s : State) : Out := if s.depotOpen then .next (s.rawSend p) else .next s
/-- `ABORT` of the raw CAN registers. -/
def execRawAbort (p : Fin 3) (s : State) : Out := if s.depotOpen then .next (s.rawAbort p) else .next s
/-- `POP`. -/
def execPop (p : Fin 3) (s : State) : Out := if s.depotOpen then .next (s.rawPop p) else .next s

/-- `RAW_MODE` written: the port leaves the bus, after the frame under way, rejoins it or changes its way of taking part. -/
def State.rawMode (s : State) (p v : Nat) : State :=
  let x := s.port p
  let s1 := s.modPort p fun y => { y with raw.mode := v }
  if v == x.raw.mode then s
  else if v == 4 then
    (if x.air.isSome then s1.modPort p fun y => { y with reconf := true } else s1.rawOff p)
  else if x.st == .off then (if s1.canPower p then s1.canOn p else s1)
  else if x.st.onBus then
    let j := s1.joinState p
    State.errState (s1.modPort p fun y => { y with st := j }) p
  else s1

/-- A raw CAN register as it reads. -/
def State.rawRead (s : State) (p off : Nat) : Nat :=
  let x := s.port p
  let r := x.raw
  let e := r.ring.head?
  let byte := fun (k : Nat) => match e with
    | some el => leAt el.data k 4
    | none => 0
  if off == 0x00 then b2n r.capture * 8 + r.mode
  else if off == 0x04 then x.st.code * 2 ^ 28 + x.lec * 2 ^ 24 + sat 8 x.tec * 2 ^ 16 + sat 8 x.recv * 256 + x.tdcv
  else if off == 0x08 then r.hdr
  else if off == 0x0C then b2n r.rtr * 16 + r.dlc
  else if off == 0x10 then r.result * 2 ^ 24 + r.failLec * 2 ^ 16
  else if off == 0x14 then (match e with
    | some el => el.h0
    | none => 0)
  else if off == 0x18 then (match e with
    | some el => el.h1
    | none => 0)
  else if off == 0x1C then r.ring.length
  else if 0x20 ≤ off && off < 0x60 then r.tx.getD ((off - 0x20) / 4) 0
  else if 0x60 ≤ off && off < 0xA0 then byte (off - 0x60)
  else if off == 0xA0 then r.lost
  else 0

/-- A raw CAN register written. -/
def State.rawWrite (s : State) (p off v : Nat) : State :=
  if off == 0x00 then
    State.rawMode (s.modPort p fun x => { x with raw.capture := bitOf v 3 }) p (bits v 2 0)
  else if off == 0x08 then s.modPort p fun x => { x with raw.hdr := v }
  else if off == 0x0C then
    let s1 := s.modPort p fun x => { x with raw.rtr := bitOf v 4, raw.dlc := bits v 3 0 }
    let s2 := if bitOf v 9 then s1.rawAbort p else s1
    if bitOf v 8 then s2.rawSend p else s2
  else if off == 0x1C then (if bitOf v 8 then s.rawPop p else s)
  else if 0x20 ≤ off && off < 0x60 then s.modPort p fun x => { x with raw.tx := lset x.raw.tx ((off - 0x20) / 4) v }
  else s

/-! ### Status groups (Tables 12.8, 12.10–12.12) -/

/-- Words of the port status group. -/
def State.cnStatWord (s : State) (p k : Nat) : Nat :=
  let x := s.port p
  if k == 0 then
    x.st.code * 2 ^ 28 + b2n x.alone * 2 ^ 27 + b2n (s.oneShotAll p && x.st != .off && x.st != .lowPower) * 2 ^ 26 + b2n x.txdTmo * 2 ^ 25 +
      sat 8 x.tec * 2 ^ 16 + sat 8 x.recv * 256 + x.tdcv
  else x.ackRun * 2 ^ 16 + min (s.autoRecov p).length 3 * 256 + x.lec

/-- Words of the count group. -/
def State.cnCountWord (s : State) (p k : Nat) : Nat :=
  let x := s.port p
  [x.txFrames, x.rxFrames, x.txFails * 65536 + x.truncs, x.rxOvf * 65536 + x.implaus, x.busOffs * 65536 + x.tdcFails,
    x.ramParity * 65536 + x.clash].getD k 0

/-- `CAN_STATS_CLEAR` (R345). -/
def State.canStatsClear (s : State) (p : Nat) : State :=
  s.modPort p fun x => { x with txFrames := 0, rxFrames := 0, txFails := 0, truncs := 0, rxOvf := 0, implaus := 0,
                                busOffs := 0, tdcFails := 0, ramParity := 0, clash := 0 }

/-- Words of the Timetable status group. -/
def State.ttStatWord (s : State) (p k : Nat) : Nat :=
  let t := (s.port p).tt
  if k == 0 then
    t.st.code * 2 ^ 28 + b2n t.master * 2 ^ 27 + b2n t.pend.isSome * 2 ^ 26 + (t.cycle % 64) * 2 ^ 16 + t.missRun
  else if k == 1 then t.windowMiss * 65536 + t.refMiss
  else t.cycJumps * 65536 + t.drops

end Sys2Proof.Machine
end

