-- ==== Sys2Proof/Machine/Fabric.lean ====
section
/-!
DEFINITION. Sys2Proof/Machine/Fabric.lean: Junction and the Xiel fabric (chapter 13): frames and their check values
(R348–R352), addresses and discovery (R353–R357), fabric time and time masters (R358–R362), routes (R363–R368),
versions (R369), relayed requests (R370, R371) and boundary states (R372–R374).
-/
namespace Sys2Proof.Machine
open Sys2Proof

/-- A field of the Fabric configuration group. -/
def State.fbf (s : State) (f : Fld) : Nat := s.cf (objId 0x0D 0 0x020) f

/-- This node's unique ID. -/
def ownUid : Nat := Config.uid.toNat

/-- Highest address of the active profile (R317). -/
def State.addrMax (s : State) : Nat := if s.native then 4095 else 255

/-- Junction runs and the fabric is in use (R375, R417). -/
def State.jnOn (s : State) : Bool :=
  s.fbf Fd.fbConf.FABRIC_EN != 0 && s.mn.phase == .run &&
    (s.mn.mode == .platform || s.mn.mode == .mainline || s.mn.mode == .depot)

/-- `HB_MS` in µs. -/
def State.hbUs (s : State) : Nat := s.fbf Fd.fbConf.HB_MS * 1000
/-- `ADV_S` in µs. -/
def State.advUs (s : State) : Nat := s.fbf Fd.fbConf.ADV_S * 1000000

/-! ### Frames (R348–R350) -/

/-- Class, control kind and destination of a frame type (Table 13.2): class 0 for a reserved type; destination 0 for every
node, 1 a node, 2 either. -/
def typeInfo (ty : Nat) : Nat × Bool × Nat :=
  match ty with
  | 0x1 => (1, true, 0) | 0x2 => (1, true, 0)
  | 0x3 => (2, true, 1) | 0x4 => (2, true, 1) | 0x5 => (2, true, 1)
  | 0x6 => (3, true, 1) | 0x7 => (3, true, 1) | 0x8 => (3, true, 1)
  | 0x9 => (4, false, 2)
  | 0xA => (5, true, 0) | 0xB => (6, true, 0)
  | _ => (0, false, 0)

/-- What a fabric frame says, apart from its identifier. -/
structure FabMsg where
  ver : Nat
  ty : Nat
  hops : Nat
  src : Nat
  flood : Bool
  dst : Nat
  seq : Nat
  body : List Byte
  deriving DecidableEq, Repr

/-- Header bytes (Table 13.1), with the next-hop nibbles of Profile L (R349). -/
def fabHeader (native : Bool) (m : FabMsg) (nextHop : Nat) : List Byte :=
  let s := if native then m.src % 4096 else m.src % 256 + bits nextHop 7 4 * 256
  let d := if native then m.dst % 4096 else m.dst % 256 + bits nextHop 3 0 * 256
  by8 (m.ver * 16 + m.ty) :: (leBytes 2 ((m.hops % 16) * 4096 + s) ++ leBytes 2 (b2n m.flood * 4096 + d) ++
    leBytes 2 (m.seq % 4096) ++ [by8 (m.body.length % 64)])

/-- The data field of a fabric frame: header, body, padding, and the check value of a control frame (R348, R350). -/
def fabData (native : Bool) (m : FabMsg) (nextHop : Nat) : List Byte :=
  let ctl := (typeInfo m.ty).2.1
  let raw := fabHeader native m nextHop ++ m.body
  let size := dlcLen true (dlcFor (raw.length + if ctl then 2 else 0))
  if ctl then
    let covered := padTo (size - 2) raw
    covered ++ leBytes 2 (fabricCheck (if native then m.dst else m.dst % 256) m.seq covered)
  else padTo size raw

/-- A fabric frame as this node sends it (R316, R317): `src` is its address on the segment. -/
def State.fabFrame (s : State) (p src : Nat) (m : FabMsg) (nextHop : Nat) : CanFrame :=
  let d := fabData s.native m nextHop
  { xtd := s.native, fdf := true, brs := s.cfb (cnObj p) Fd.cnConf.BRS_EN,
    id := fabId s.native (typeInfo m.ty).1 src nextHop, dlc := dlcFor d.length, data := d }

/-- Sends a message on one port. -/
def State.fabSendOn (s : State) (p src : Nat) (m : FabMsg) (nextHop : Nat) : State :=
  s.jnSend p (typeInfo m.ty).1 (s.fabFrame p src m nextHop)

/-- A message that reaches only the segment it is sent on (R350). -/
def segMsg (ver ty src seq : Nat) (body : List Byte) : FabMsg :=
  { ver := ver, ty := ty, hops := 0, src := src, flood := false, dst := 0, seq := seq, body := body }

/-- The next sequence number, and the count moved on (R348). -/
def State.seqNext (s : State) : State := { s with fb.seq := (s.fb.seq + 1) % 4096 }

/-! ### Links and versions (R369) -/

/-- The neighbours heard on a port. -/
def State.nbrsOn (s : State) (p : Nat) : List Nbr := s.fb.nbrs.filter fun n => n.port == p

/-- Version of the link to a neighbour. -/
def State.linkVer (s : State) (n : Nbr) : Nat := min n.xf (s.fbf Fd.fbConf.XF_MAX)

/-- The lowest link version of a segment; 0 without a neighbour. -/
def State.segVer (s : State) (p : Nat) : Nat :=
  ((s.nbrsOn p).map s.linkVer).foldl (fun a v => if a == 0 then v else min a v) 0

/-- The version of a frame to every node of a segment: XF1 where no neighbour is heard. -/
def State.segWriteVer (s : State) (p : Nat) : Nat := if s.segVer p == 2 then 2 else 1

/-- Link cost (R364). -/
def State.linkCost (s : State) (p ver : Nat) : Nat :=
  if ver == 1 then 16
  else s.fbf (if p == 0 then Fd.fbConf.COST0 else if p == 1 then Fd.fbConf.COST1 else Fd.fbConf.COST2)

/-- The ports whose `ENABLE` is 1. -/
def State.portsOn (s : State) : List Nat := (List.range 3).filter fun p => s.cfb (cnObj p) Fd.cnConf.ENABLE

/-- Sends a message to every node of each enabled port but one. -/
def State.fabFlood (s : State) (src : Nat) (m : FabMsg) (except : Option Nat) : State :=
  s.portsOn.foldl (fun t p => if some p == except then t else t.fabSendOn p src { m with ver := t.segWriteVer p } 0) s

/-! ### Routes (R363–R367) -/

def rtGet (l : List (Nat × Route)) (k : Nat) : Option Route := (l.find? fun e => e.1 == k).map (·.2)
def rtDel (l : List (Nat × Route)) (k : Nat) : List (Nat × Route) := l.filter fun e => e.1 != k
/-- Sets an entry; the list stays in index order. -/
def rtSet (k : Nat) (r : Route) : List (Nat × Route) → List (Nat × Route)
  | [] => [(k, r)]
  | (j, x) :: l => if k < j then (k, r) :: (j, x) :: l else if k = j then (k, r) :: l else (j, x) :: rtSet k r l

/-- A port over which routed frames can go now (R367). -/
def State.portUsable (s : State) (p : Nat) : Bool :=
  let x := s.port p
  x.st != .off && x.st != .lowPower && x.st != .busOff && x.st != .held && !x.alone

/-- A valid entry of the active table. -/
def State.routeAt (s : State) (k : Nat) : Option Route :=
  match rtGet s.fb.routes k with
  | some r => if r.st == 1 then some r else none
  | none => none

/-- The entry that carries a frame to a destination (R367); none while this node has no address, since it then sends claims alone
(R354). -/
def State.routeTo (s : State) (d : Nat) : Option Route :=
  if s.fb.node == 0 then none
  else match s.routeAt (2 * d), s.routeAt (2 * d + 1) with
  | some r, some a => if s.portUsable r.port then some r else some a
  | some r, none => some r
  | none, a => a

/-- A route order: lower metric, then fewer hops, then the lower next hop (R365). -/
def Route.better (a b : Route) : Bool :=
  a.metric < b.metric || (a.metric == b.metric && (a.hops < b.hops || (a.hops == b.hops && a.next < b.next)))

/-- The best of some routes. -/
def bestRoute (l : List Route) : Option Route :=
  l.foldl (fun a r =>
    match a with
    | none => some r
    | some b => if r.better b then some r else a) none

/-- Every port advertises a change (R364). -/
def State.advAll (s : State) : State := { s with fb.advDue := [true, true, true] }

/-- Same way: port and next hop. -/
def Route.same (a b : Route) : Bool := a.port == b.port && a.next == b.next

/-- An entry takes a candidate: a withdrawn one only with no more hops than it had (R366). -/
def Route.admits (x c : Route) : Bool := x.st != 2 || c.hops ≤ x.hops

/-- Stores primary and alternate of a destination in the shadow table. -/
def State.putRoutes (s : State) (d : Nat) (p a : Option Route) : State :=
  let put := fun (k : Nat) (o : Option Route) (l : List (Nat × Route)) =>
    match o with
    | some r => rtSet k r l
    | none => rtDel l k
  let t := put (2 * d + 1) a (put (2 * d) p s.fb.shadow)
  let seen := fun (o : Option Route) => o.map fun r => { r with at_ := 0 }
  let changed := seen (rtGet s.fb.shadow (2 * d)) != seen p || seen (rtGet s.fb.shadow (2 * d + 1)) != seen a
  let s1 := { s with fb.shadow := t }
  if changed then s1.advAll else s1

/-- A candidate for a destination enters the shadow table: with the entries still valid it stands for both places, the primary and the
best of the others, through another port where there is one (R365). A withdrawn place takes only what R366 lets it take. -/
def State.offerRoute (s : State) (d : Nat) (c : Route) : State :=
  if d == 0 || d == s.fb.node || c.hops > 15 || c.metric ≥ 0xFFFF then s
  else
    let p := rtGet s.fb.shadow (2 * d)
    let a := rtGet s.fb.shadow (2 * d + 1)
    let takes := fun (o : Option Route) (r : Route) => o.all fun x => x.admits r
    let l := c :: (p.toList ++ a.toList).filter fun (r : Route) => r.st == 1 && !r.same c
    let np := bestRoute (l.filter (takes p))
    let rest := (match np with
      | some b => l.filter fun (r : Route) => !r.same b
      | none => l).filter (takes a)
    let others := rest.filter fun (r : Route) => np.all fun b => r.port != b.port
    let na := (bestRoute others).or (bestRoute rest)
    s.putRoutes d (np.or p) (na.or (a.filter fun x => x.st == 2))

/-- An entry is withdrawn (R366). -/
def State.withdraw (s : State) (k : Nat) : State :=
  match rtGet s.fb.shadow k with
  | some r =>
    if r.st == 1 then
      State.advAll { s with fb.shadow := rtSet k { r with st := 2, metric := 0xFFFF, goneAt := s.now } s.fb.shadow }
    else s
  | none => s

/-- A neighbour still heard. -/
def State.hasNbr (s : State) (p node : Nat) : Bool := s.fb.nbrs.any fun n => n.port == p && n.node == node

/-- An entry not refreshed for 3 × `ADV_S`, or whose next hop is lost, is withdrawn; after its hold-down it is empty. -/
def execRouteWithdraw (k : Fin 8192) (s : State) : Out :=
  if !s.jnOn then .next s
  else
    match rtGet s.fb.shadow k.val with
    | none => .next s
    | some r =>
      if r.st == 2 then
        let s1 := s.advTo (r.goneAt + 2 * s.advUs)
        .next { s1 with fb.shadow := rtDel s1.fb.shadow k.val }
      else if s.hasNbr r.port r.next then .next (State.withdraw (s.advTo (r.at_ + 3 * s.advUs)) k.val)
      else .next (s.withdraw k.val)

/-- One entry as it reads (Table 13.5). -/
def State.routeWords (s : State) (k : Nat) : Nat × Nat :=
  if k < 2 then (0, 0)
  else if s.fb.node != 0 && k == 2 * s.fb.node then (3 * 2 ^ 30 + s.fb.node, 0)
  else
    match rtGet s.fb.routes k with
    | none => (0, 0)
    | some r =>
      (r.st * 2 ^ 30 + r.port * 2 ^ 28 + r.hops * 2 ^ 24 + r.next * 4096 + k / 2,
        r.metric * 65536 + sat 8 ((s.now - r.at_) / 1000000) * 256 + r.ver * 64)

/-- Stream 0x04: the table in index order. -/
def State.routeStream (s : State) : List Byte :=
  (List.range 8192).flatMap fun k => leBytes 4 (s.routeWords k).1 ++ leBytes 4 (s.routeWords k).2

/-- `HOPS` of a frame that this node originates over a route (R367). -/
def State.originHops (s : State) (r : Route) : Nat := min 15 (r.hops + s.fbf Fd.fbConf.HOP_SLACK)

/-- Sends a message of this node to a node by its route; false when no route exists. -/
def State.fabTo (s : State) (dst ty seq : Nat) (body : List Byte) : State × Bool :=
  match s.routeTo dst with
  | none => (s, false)
  | some r =>
    (s.fabSendOn r.port s.fb.node
      { ver := r.ver, ty := ty, hops := s.originHops r, src := s.fb.node, flood := false, dst := dst, seq := seq, body := body } r.next, true)

/-! ### Addresses (R353–R355) -/

/-- The first candidate address and its source (R353). -/
def State.firstCandidate (s : State) : Nat × Nat :=
  let pref := s.fbf Fd.fbConf.ADDR_PREF
  if pref != 0 then (pref, 0)
  else if s.st.na != 0 then (s.st.na, 1)
  else if s.fb.lastHeld != 0 && s.fb.lastHeld ≤ s.addrMax then (s.fb.lastHeld, 2)
  else (ownUid % s.addrMax + 1, 3)

/-- An address heard of in a heartbeat, claim or route. -/
def State.hearAddr (s : State) (a : Nat) : State :=
  if a == 0 || s.fb.heard.contains a then s else { s with fb.heard := a :: s.fb.heard }

/-- The next address upwards that is not known to be taken; `n` bounds the search. -/
def State.nextAddr (s : State) : Nat → Nat → Nat
  | 0, a => a
  | n + 1, a =>
    let b := if a ≥ s.addrMax then 1 else a + 1
    if s.fb.heard.contains b || b == s.fb.node then State.nextAddr s n b else b

/-- Floods `CLAIM` or `DEFEND` with this node's UID. -/
def State.sendClaim (s : State) (ty addr seq : Nat) : State :=
  s.fabFlood addr { ver := 1, ty := ty, hops := 15, src := addr, flood := true, dst := 0, seq := seq, body := leBytes 8 ownUid } none

/-- Claiming starts for a candidate (R354 step 1). -/
def State.claimStart (s : State) (cand src : Nat) (lost : Bool) : State :=
  let seq := s.fb.seq
  let s1 := s.seqNext
  State.sendClaim { s1 with fb.claim := some { cand := cand, src := src, seq := seq, since := s.now, sent := 1, lost := lost } } 1 cand seq

/-- The claimant takes the next candidate (R354 step 5). -/
def State.claimNext (s : State) (c : Claim) : State :=
  let s1 := s.hearAddr c.cand
  State.claimStart { s1 with fb.conflicts := sat 16 (s1.fb.conflicts + 1) } (s1.nextAddr s.addrMax c.cand) c.src c.lost

/-- `DEFEND`, flooded. -/
def State.defend (s : State) : State :=
  if s.fb.node == 0 then s else State.sendClaim s.seqNext 2 s.fb.node s.fb.seq

/-- The assigned node detects that another one holds its address (R355): it floods a `CLAIM` for it. -/
def State.addrConflict (s : State) : State :=
  if s.fb.node == 0 then s else State.sendClaim s.seqNext 1 s.fb.node s.fb.seq

/-- The node with the higher UID yields and claims another address (R355). -/
def State.yieldAddr (s : State) : State :=
  if s.fb.claim.isSome then s
  else
    let s1 := { s with fb.conflicts := sat 16 (s.fb.conflicts + 1) }
    s1.claimStart (s1.nextAddr s1.addrMax s1.fb.node) s1.fb.addrSrc true

/-- The repeats of a claim. -/
def execClaimRepeat (s : State) : Out :=
  match s.fb.claim with
  | none => .next s
  | some c =>
    if !s.jnOn || c.sent ≥ 3 then .next s
    else
      let s1 := s.advTo (c.since + c.sent * 100000)
      .next (State.sendClaim { s1 with fb.claim := some { c with sent := c.sent + 1 } } 1 c.cand c.seq)

/-- Record 5 of region 0: the address last assigned. -/
def State.storeAddr (s : State) : State :=
  State.postRec { s with fb.lastHeld := s.fb.node } 6 { region := 0, record := 5, data := leBytes 4 s.fb.node }

/-! ### Root, stratum and time masters (R358, R359) -/

/-- The order of roots. -/
def rootLess (a b : Nat × Nat × Nat) : Bool := a.1 < b.1 || (a.1 == b.1 && a.2.1 < b.2.1)

/-- Neighbours that announce a root with `MASTER_HERE` set. -/
def State.rootMasters (s : State) (uid : Nat) : List Nbr := s.fb.nbrs.filter fun n => n.rootUid == uid && n.masterHere && n.stratum < 15

/-- This node is the root. -/
def State.isRoot (s : State) : Bool :=
  match s.fb.root with
  | some r => r.2.1 == ownUid
  | none => false

/-- The order of masters: stratum, priority, UID. -/
def masterKey (stratum prio uid : Nat) : Nat := (stratum * 16 + prio) * 2 ^ 64 + uid

/-- The best neighbour as time master of a port. -/
def State.bestNbr (s : State) (p : Nat) : Option Nbr :=
  ((s.nbrsOn p).filter fun n => n.stratum < 15 && n.tmPrio < 15 && !n.dropped).foldl (fun a n =>
    match a with
    | none => some n
    | some b => if masterKey n.stratum n.tmPrio n.uid < masterKey b.stratum b.tmPrio b.uid then some n else a) none

/-- This node's own key as a master. -/
def State.ownKey (s : State) : Nat := masterKey s.fb.stratum (s.fbf Fd.fbConf.TM_PRIO) ownUid

/-- This node may be a time master at all. -/
def State.canMaster (s : State) : Bool := s.jnOn && s.fb.node != 0 && s.fb.stratum < 15 && s.fbf Fd.fbConf.TM_PRIO < 15

/-- This node finds itself best on a port. -/
def State.selfBest (s : State) (p : Nat) : Bool :=
  s.canMaster && s.cfb (cnObj p) Fd.cnConf.ENABLE &&
    (match s.bestNbr p with
     | none => true
     | some n => s.ownKey < masterKey n.stratum n.tmPrio n.uid)

/-- The master of a port other than this node. -/
def State.otherMaster (s : State) (p : Nat) : Option Nbr :=
  if (s.port p).tt.master then none
  else
    match s.bestNbr p with
    | none => none
    | some n => if n.masterHere then some n else none

/-- The port that time is taken from (R359). -/
def State.pickTimePort (s : State) : Nat :=
  ((List.range 3).foldl (fun (a : Option (Nat × Nat)) p =>
    match s.otherMaster p, a with
    | none, _ => a
    | some n, none => some (n.stratum, p)
    | some n, some b => if n.stratum < b.1 then some (n.stratum, p) else a) none).map (·.2) |>.getD s.fb.timePort

/-- Takes a root, or none, with its stratum and the event of R358. A root kept while no neighbour announces it as master keeps the stratum,
until it is dropped. -/
def State.setRoot (s : State) (r : Option (Nat × Nat × Nat)) : State :=
  let uidOf := fun (o : Option (Nat × Nat × Nat)) => o.map fun x => x.2.1
  let changed := uidOf s.fb.root != uidOf r
  let own := match r with
    | some x => x.2.1 == ownUid
    | none => false
  let ms := match r with
    | some x => s.rootMasters x.2.1
    | none => []
  let low := ms.foldl (fun a n => min a n.stratum) 15
  let stratum := if own then 0 else if ms.isEmpty && !changed then s.fb.stratum else if low ≥ 14 then 15 else low + 1
  let src := ms.find? fun n => n.stratum == low
  let ann := match src, r with
    | some n, _ => some n
    | none, some x => s.fb.nbrs.find? fun n => n.rootUid == x.2.1
    | none, none => none
  let s1 := { s with
    fb.root := r, fb.stratum := stratum, fb.timed := s.fb.timed || own,
    fb.rootAt := if changed then s.now else s.fb.rootAt,
    fb.rootPeriod := if own then none else ann.map (·.periodMs),
    fb.wall := if own then s.fb.wall else
      match ann with
      | some n => if n.wallValid then some n.wallEpoch else none
      | none => none }
  if changed then
    s1.raise prJN evFabRoot 0 ((match r with
      | some x => x.2.2
      | none => 0) * 65536 + stratum)
  else s1

/-- Elects the root among the heartbeats heard and this node, leaving one UID out (R358), and notes on which ports this
node is the best time master (R359). -/
def State.elect (s : State) (without : Option Nat) : State :=
  let own := if s.fb.node != 0 && s.fbf Fd.fbConf.TM_PRIO < 15 && s.jnOn then [(s.fbf Fd.fbConf.TM_PRIO, ownUid, s.fb.node)] else []
  let heard := (s.fb.nbrs.filter fun n => n.rootPrio < 15 && n.rootNode != 0 && n.rootUid != ownUid &&
    some n.rootUid != without).map fun n => (n.rootPrio, n.rootUid, n.rootNode)
  let best := (own ++ heard).foldl (fun (a : Option (Nat × Nat × Nat)) r =>
    match a with
    | none => some r
    | some b => if rootLess r b then some r else a) none
  let s1 := s.setRoot best
  { s1 with fb.tmDue := (List.range 3).map s1.selfBest, fb.timePort := s1.pickTimePort }

/-- The node takes an address, and stands for election with it (R354, R358). -/
def State.takeAddr (s : State) (a src : Nat) : State :=
  let old := s.fb.node
  let s1 := State.storeAddr { s with fb.node := a, fb.addrSrc := src, fb.routes := rtDel (rtDel s.fb.routes (2 * a)) (2 * a + 1),
                                     fb.shadow := rtDel (rtDel s.fb.shadow (2 * a)) (2 * a + 1) }
  let s2 := s1.raise prJN evFabAddr 0 (a * 65536 + src)
  (if old == 0 then { s2 with fb.hbAt := none } else s2).elect none

/-- 250 ms after the first claim the address is assigned (R354 step 6); a node that yields keeps its old address until the
next Changeover (R355). -/
def execAddrAssign (s : State) : Out :=
  match s.fb.claim with
  | none => .next s
  | some c =>
    if !s.jnOn || c.sent != 3 then .next s
    else
      let s1 := { s.advTo (c.since + 250000) with fb.claim := none }
      if c.lost then .next { s1 with fb.newNode := some (c.cand, c.src) }
      else .next (s1.takeAddr c.cand c.src)

/-- The Changeover at which a yielded address is given up. -/
def State.addrChange (s : State) : State :=
  match s.fb.newNode with
  | none => s
  | some (a, src) =>
    let old := s.fb.node
    ({ s with fb.newNode := none }.takeAddr a src).raise prJN evFabAddrLost 0 (old * 65536 + a)

/-- The node drops its root, sets its stratum to 15 and elects again (R358). -/
def State.dropRoot (s : State) : State :=
  match s.fb.root with
  | none => s
  | some r => State.elect { s with fb.stratum := 15 } (some r.2.1)

/-- No neighbour has announced the root as master for 3 × `HB_MS`, or the stratum would exceed 14. -/
def execRootLost (s : State) : Out :=
  match s.fb.root with
  | none => .next s
  | some r =>
    if !s.jnOn || r.2.1 == ownUid then .next s
    else if !(s.rootMasters r.2.1).isEmpty && (s.rootMasters r.2.1).all fun n => n.stratum ≥ 14 then .next s.dropRoot
    else .next (State.dropRoot (s.advTo (s.fb.rootAt + 3 * s.hbUs)))

/-- A change of the master role on a port (R359). -/
def State.setMaster (s : State) (p : Nat) (on : Bool) : State :=
  if (s.port p).tt.master == on then s
  else
    let s1 := s.modPort p fun x => { x with
      tt.master := on, tt.st := if !on && x.tt.st != .off then .waitRef else x.tt.st, tt.missRun := 0 }
    let s2 := { s1 with fb.refAt := lset s1.fb.refAt p none }
    s2.raise prJN evFabTm p (b2n on * 256 + p)

/-- At a Changeover: the ports on which this node became best, and those on which it can no longer be master. A port on which it finds
itself best only now, such as one that this Changeover enables, waits for the next. -/
def State.mastersChange (s : State) : State :=
  let s1 := (List.range 3).foldl (fun t p =>
    if (t.port p).tt.master then (if t.canMaster && t.cfb (cnObj p) Fd.cnConf.ENABLE then t else t.setMaster p false)
    else if t.selfBest p && t.fb.tmDue.getD p false then t.setMaster p true
    else t) s
  { s1 with fb.tmDue := (List.range 3).map s1.selfBest }

/-- A reference is missing on a port that is not master (R340). After `REF_MISS_MAX` of them in a row the best node of the election is
dropped from it, and after as many again the next one, if it is silent too (R359). -/
def execTtRefMiss (p : Fin 3) (s : State) : Out :=
  let x := s.port p
  match x.tt.active with
  | none => .next s
  | some m =>
    if x.tt.cycling && !x.tt.master && mxNtu m * (s.canTim p).nom != 0 then
      let s1 := s.ttMiss p m
      if (s1.port p).tt.missRun % s1.cf (ttObj p) Fd.ttConf.REF_MISS_MAX == 0 then
        match s1.bestNbr p with
        | none => .next s1
        | some n =>
          let s2 := State.elect { s1 with fb.nbrs := s1.fb.nbrs.map fun (y : Nbr) =>
            if y.port == p.val && y.node == n.node then { y with dropped := true } else y } none
          .next (if s2.selfBest p then s2.setMaster p true else s2)
      else .next s1
    else .next s

/-- The node belongs to a fabric with at least one other node (R22). -/
def State.inFabric (s : State) : Bool :=
  !s.fb.nbrs.isEmpty || (match s.fb.root with | some r => r.2.1 != ownUid | none => false)

/-! ### Fabric alignment (R22, R30, R88) -/

/-- The period in force, µs. -/
def State.periodUs (s : State) : Nat := s.periodMs * 1000

/-- Fabric time of a model time, within the period, µs. -/
def State.inPeriod (s : State) (t : Nat) : Nat := (((t : Int) + s.fb.offset) % (s.periodUs : Int)).toNat

/-- The first fabric-aligned instant at or after a model time. -/
def State.nextAligned (s : State) (t : Nat) : Nat :=
  let r := s.inPeriod t
  if r == 0 then t else t + (s.periodUs - r)

/-- The signed offset of an instant from the aligned one nearest to it. -/
def State.skewAt (s : State) (t : Nat) : Int :=
  let r := s.inPeriod t
  if 2 * r > s.periodUs then (r : Int) - (s.periodUs : Int) else r

/-- The node aligns its t0 to fabric time: in a fabric whose time it has taken, be it by a reference alone (R357), or holds it from one,
without a period conflict (R30, R360, R361). -/
def State.aligns (s : State) : Bool := (s.inFabric || s.fb.refTaken) && s.fb.timed && !s.fb.conflict

/-- Length of the period that begins at `t0`: corrected by at most 10 µs, or lengthened once by a larger offset (R30); the
rejoin period ends at the first aligned instant at least 2 ms after its zone work (R87, R88). -/
def State.periodLen (s : State) (t0 : Nat) (rejoin : Bool) : Nat :=
  let p := s.periodUs
  if !s.aligns then p
  else if rejoin then s.nextAligned (t0 + 140400) - t0
  else
    let e := s.skewAt t0
    if e.natAbs ≤ 1000 then ((p : Int) - max (-10) (min 10 e)).toNat
    else p + (p - s.inPeriod t0) % p

/-- A node that takes up fabric time while its rejoin period runs ends that period at an aligned instant too (R88). -/
def State.rejoinEnd (s : State) : State :=
  if s.per.running && s.per.rejoin && !s.per.inCo && s.now < s.tc then { s with per.lenUs := s.periodLen s.per.t0 true } else s

/-! ### Fabric time (R360) -/

/-- Fabric time is steered by a reference: a step above 1 ms, otherwise a servo correction within ±500 ppm of the time
since the last reference, whose size the spec leaves open (log 2). -/
def State.takeTime (s : State) (p sof : Nat) (value : Nat) : State :=
  let diff : Int := (value : Int) - ((sof : Int) + s.fb.offset)
  let s1 := { s with fb.timed := true, fb.refTaken := true, fb.servoAt := s.now, fb.timePort := p }
  if diff > 1000 || diff < -1000 then
    State.raise { s1 with fb.offset := s.fb.offset + diff } prJN evFabTimeStep 0 (unsgn 32 (satI 32 diff))
  else
    let lim := (s.now - s.fb.servoAt) * 500 / 1000000
    let c : Int := (Config.free s.freeCtr % (2 * lim + 1) : Nat) - (lim : Int)
    State.freeNext { s1 with fb.offset := s.fb.offset + c }

/-- Model time of a start of frame from its 16-bit time stamp. -/
def State.tsTime (s : State) (ts : Nat) : Nat := s.now - (s.now + 65536 - ts % 65536) % 65536

/-- A reference message reaches Junction (R359, R360). -/
def State.takeReference (s : State) (p : Nat) (e : RxElem) : State :=
  let n := s.native
  let src := idSrc n (bits e.h0 28 0)
  let s0 := if s.mn.phase == .run then s else { s with fb.heardAny := true }
  let s1 := { s0 with fb.nbrs := s0.fb.nbrs.map fun (y : Nbr) => if y.port == p && y.node == src then { y with dropped := false } else y }
  let known := s1.fb.nbrs.find? fun (y : Nbr) => y.port == p && y.node == src
  let s2 := match known with
    | some y =>
      if (s1.port p).tt.master && y.stratum < 15 && masterKey y.stratum y.tmPrio y.uid < s1.ownKey then s1.setMaster p false else s1
    | none => s1
  if (s2.port p).tt.master || s2.isRoot then s2
  else if !s2.fb.timed || s2.fb.timePort == p then
    let s3 := s2.takeTime p (s2.tsTime (bits e.h1 31 16)) (leAt e.data 1 7)
    if s2.fb.refTaken then s3 else s3.rejoinEnd
  else s2

/-- `FAB_PERIOD`, from the fabric time at t0 (R362). -/
def State.fabPeriod (s : State) : Nat :=
  ((s.per.t0Fab / ((s.periodMs * 1000 : Nat) : Int)) % (2 ^ 32 : Int)).toNat

/-! ### Heartbeats (R356) -/

/-- `F_STATE` (Table 13.9). -/
def State.fState (s : State) : Nat :=
  if s.fbf Fd.fbConf.FABRIC_EN == 0 then 0
  else if s.mn.phase == .applying then 2
  else if !s.jnOn then 0
  else if s.fb.node == 0 then 3
  else if s.fb.conflict then 5
  else if s.fb.nbrs.isEmpty then 1 else 4

/-- The bytes of a heartbeat body, 8–45 of the data field (Table 13.4). -/
def heartbeatBody (uid xf fState stratum tmPrio rootPrio : Nat) (conflict master wallOk : Bool) (rootUid period rootNode : Nat)
    (wall : Int) : List Byte :=
  leBytes 8 uid ++ [by8 (xf * 16 + fState), by8 (stratum * 16 + tmPrio),
    by8 (rootPrio * 16 + b2n conflict * 4 + b2n master * 2 + b2n wallOk), 0#8] ++
    leBytes 8 rootUid ++ leBytes 2 period ++ leBytes 2 rootNode ++ leBytes 8 (unsgn 64 wall) ++ List.replicate 6 0#8

/-- The root's zone period (R361). -/
def State.rootPeriodMs (s : State) : Nat := s.fb.rootPeriod.getD (s.cf (sysObj 0x010) Fd.period.PERIOD_MS)

/-- RTC time in µs. -/
def State.rtcUs (s : State) : Int := ((rtcCount s * 1000000 / 32768 : Nat) : Int)

/-- `WALL_EPOCH` as this node's RTC and fabric time give it (R362). -/
def State.wallHere (s : State) : Int := s.rtcUs - ((s.now : Int) + s.fb.offset)

/-- `WALL_EPOCH` as this node announces it: the root while its time is valid, the others as they hold it (R362). -/
def State.wallOut (s : State) : Option Int :=
  if !s.isRoot then s.fb.wall else if !s.rtc.valid then none else some (s.fb.wall.getD s.wallHere)

/-- This node's heartbeat on a port. -/
def State.heartbeatMsg (s : State) (p seq : Nat) : FabMsg :=
  let r := s.fb.root.getD (15, 0, 0)
  { ver := s.segWriteVer p, ty := 0xA, hops := 0, src := s.fb.node, flood := false, dst := 0, seq := seq,
    body := heartbeatBody ownUid (s.fbf Fd.fbConf.XF_MAX) s.fState s.fb.stratum (s.fbf Fd.fbConf.TM_PRIO) r.1
      s.fb.conflict (s.port p).tt.master s.wallOut.isSome r.2.1 s.rootPeriodMs r.2.2 (s.wallOut.getD 0) }

/-- Every `HB_MS` a heartbeat on every port. -/
def execHeartbeatSend (s : State) : Out :=
  if !s.jnOn || s.fb.node == 0 then .next s
  else
    let s1 := match s.fb.hbAt with
      | none => s
      | some t => s.advTo (t + s.hbUs)
    let s2 := s1.portsOn.foldl (fun t p => State.seqNext (t.fabSendOn p t.fb.node (t.heartbeatMsg p t.fb.seq) 0)) s1
    .next { s2 with fb.hbAt := some s2.now }

/-- A heartbeat arrives. -/
def State.takeHeartbeat (s : State) (p : Nat) (m : FabMsg) : State :=
  let b := m.body
  let at_ := fun (k n : Nat) => leAt b (k - 8) n
  let old := s.fb.nbrs.find? fun n => n.port == p && n.node == m.src
  let n : Nbr := {
    node := m.src, port := p, uid := at_ 8 8, xf := bits (at_ 16 1) 7 4, stratum := bits (at_ 17 1) 7 4, tmPrio := bits (at_ 17 1) 3 0,
    rootPrio := bits (at_ 18 1) 7 4, rootUid := at_ 20 8, rootNode := at_ 30 2 % 4096, periodMs := at_ 28 2,
    conflict := bitOf (at_ 18 1) 2, masterHere := bitOf (at_ 18 1) 1, wallValid := bitOf (at_ 18 1) 0,
    wallEpoch := sgn 64 (at_ 32 8), heardAt := s.now,
    dropped := match old with
      | some o => o.dropped
      | none => false }
  let s1 := State.hearAddr { s with fb.nbrs := (s.fb.nbrs.filter fun (y : Nbr) => !(y.port == p && y.node == m.src)) ++ [n] } m.src
  let ver := s1.linkVer n
  let s2 := if old.isSome then s1
    else State.raise { s1 with fb.advDue := lset s1.fb.advDue p true } prJN evFabNbrUp p (ver * 65536 + m.src)
  let s3 := s2.offerRoute m.src { st := 1, port := p, hops := 1, next := m.src, metric := s2.linkCost p ver, ver := ver, at_ := s2.now }
  let s4 := match s3.fb.root with
    | some r => if n.rootUid == r.2.1 && n.masterHere then { s3 with fb.rootAt := s3.now } else s3
    | none => s3
  s4.elect none

/-- A neighbour's heartbeats have been absent for 3 × `HB_MS`. -/
def execNbrLost (p : Fin 3) (node : Fin 4096) (s : State) : Out :=
  match s.fb.nbrs.find? fun n => n.port == p.val && n.node == node.val with
  | none => .next s
  | some n =>
    if !s.jnOn then .next s
    else
      let s1 := s.advTo (n.heardAt + 3 * s.hbUs)
      let s2 := State.raise { s1 with fb.nbrs := s1.fb.nbrs.filter fun (y : Nbr) => !(y.port == p.val && y.node == node.val),
                                      fb.losses := lmod s1.fb.losses p fun k => sat 16 (k + 1) } prJN evFabNbrDown p node.val
      let gone := (s2.fb.shadow.filter fun e => e.2.port == p.val && e.2.next == node.val).map (·.1)
      .next ((gone.foldl State.withdraw s2).elect none)

/-! ### Advertisements (R364) -/

/-- The entries of an advertisement on a port. -/
def State.advEntries (s : State) (p ver : Nat) : List (List Byte) :=
  (s.fb.shadow.filter fun e => e.1 % 2 == 0 && (e.2.st == 1 || e.2.st == 2)).map fun e =>
    let r := e.2
    let metric := if r.st == 2 || r.port == p then 0xFFFF
      else if ver == 1 || s.fbf Fd.fbConf.XF_MAX == 1 then 16 * r.hops else r.metric
    leBytes 5 ((e.1 / 2) + r.hops * 4096 + metric * 65536 + r.ver * 2 ^ 32)

/-- Sends the parts of an advertisement; `n` bounds them. -/
def State.advParts (s : State) (p ver part : Nat) : Nat → List (List Byte) → State
  | 0, _ => s
  | n + 1, l =>
    let body := leBytes 2 s.fb.advGen ++ [by8 part] ++ (l.take 10).flatten
    let s1 := State.seqNext (s.fabSendOn p s.fb.node (segMsg ver 0xB s.fb.node s.fb.seq body) 0)
    if (l.drop 10).isEmpty then s1 else State.advParts s1 p ver (part + 1) n (l.drop 10)

/-- Every `ADV_S`, or within 1 s of a change but no more than once per second, a node advertises its table on a port. -/
def execRouteAdvSend (p : Fin 3) (s : State) : Out :=
  if !s.jnOn || s.fb.node == 0 || !s.cfb (cnObj p) Fd.cnConf.ENABLE then .next s
  else
    let wait := if s.fb.advDue.getD p false then 1000000 else s.advUs
    let s1 := match s.fb.advAt.getD p none with
      | none => s
      | some t => s.advTo (t + wait)
    let ver := s1.segWriteVer p
    let s2 := { s1 with fb.advGen := (s1.fb.advGen + 1) % 65536, fb.advAt := lset s1.fb.advAt p (some s1.now),
                        fb.advDue := lset s1.fb.advDue p false }
    .next (s2.advParts p ver 0 512 (s2.advEntries p ver))

/-- One advertised entry. -/
def State.takeAdvEntry (s : State) (p : Nat) (n : Nbr) (v : Nat) : State :=
  let ver := s.linkVer n
  let d := bits v 11 0
  let m := bits v 31 16
  let s1 := s.hearAddr d
  let s2 := if d != 0 && d == s.fb.node && m < 0xFFFF then s1.addrConflict else s1
  s2.offerRoute d { st := 1, port := p, hops := bits v 15 12 + 1, next := n.node, metric := m + s2.linkCost p ver,
                    ver := min (bits v 33 32) ver, at_ := s2.now }

/-- An advertisement arrives. -/
def State.takeAdv (s : State) (p : Nat) (m : FabMsg) : State :=
  match s.fb.nbrs.find? fun n => n.port == p && n.node == m.src with
  | none => s
  | some n =>
    (List.range ((m.body.length - 3) / 5)).foldl (fun t k => t.takeAdvEntry p n (leAt m.body (3 + 5 * k) 5)) s

/-! ### Forwarding (R352, R354, R367) -/

/-- XOR of two byte lists. -/
def xorBytes (a b : List Byte) : List Byte := List.zipWith (fun x y => x ^^^ y) a b

/-- A frame as a forwarder passes it on: `HOPS` and next-hop nibbles changed, the check value corrected by the change
alone (R352). -/
def State.forwardData (s : State) (data : List Byte) (hops nextHop : Nat) : List Byte :=
  let w1 := putBits (leAt data 1 2) 15 12 hops
  let w1' := if s.native then w1 else putBits w1 11 8 (bits nextHop 7 4)
  let w3 := if s.native then leAt data 3 2 else putBits (leAt data 3 2) 11 8 (bits nextHop 3 0)
  let new := data.take 1 ++ leBytes 2 w1' ++ leBytes 2 w3 ++ data.drop 5
  if (typeInfo (leAt data 0 1 % 16)).2.1 then
    let n := data.length - 2
    let delta := List.replicate 4 0#8 ++ xorBytes (data.take n) (new.take n)
    new.take n ++ leBytes 2 (leAt data n 2 ^^^ crcOf { crc16Ibm with init := 0 } delta)
  else new

/-- The frame that carries forwarded data on a port. -/
def State.forwardFrame (s : State) (p ty hops nextHop : Nat) (data : List Byte) : CanFrame :=
  { xtd := s.native, fdf := true, brs := s.cfb (cnObj p) Fd.cnConf.BRS_EN,
    id := fabId s.native (typeInfo ty).1 s.fb.node nextHop, dlc := dlcFor data.length, data := s.forwardData data hops nextHop }

/-- `UNREACH` for a dropped frame (R367): 1 no route, 2 hops expired. -/
def State.unreach (s : State) (m : FabMsg) (reason : Nat) : State :=
  let s1 := s.raise prJN evFabUnreach 0 (m.dst * 65536 + reason)
  if m.ty == 0x5 || m.ty == 0x9 || m.ty == 0xA || m.ty == 0xB || m.flood then s
  else (s1.seqNext.fabTo m.src 0x5 s1.fb.seq (leBytes 2 m.dst ++ leBytes 2 m.seq ++ [by8 m.ty, by8 reason])).1

/-- A unicast frame for another node. -/
def State.forward (s : State) (m : FabMsg) (data : List Byte) : State :=
  if m.hops == 0 then State.unreach { s with fb.hopExpired := sat 16 (s.fb.hopExpired + 1) } m 2
  else
    match s.routeTo m.dst with
    | none => State.unreach { s with fb.noRoute := sat 16 (s.fb.noRoute + 1) } m 1
    | some r => s.jnSend r.port (typeInfo m.ty).1 (s.forwardFrame r.port m.ty (m.hops - 1) r.next data)

/-- A flooded frame goes on once to every other segment (R354 step 2). -/
def State.forwardFlood (s : State) (p : Nat) (m : FabMsg) (data : List Byte) : State :=
  let key := (m.ty, m.src, m.seq, leAt m.body 0 8)
  if s.fb.floods.contains key || m.hops == 0 || s.fb.node == 0 || leAt m.body 0 8 == ownUid then s
  else
    let s1 := { s with fb.floods := key :: s.fb.floods }
    s1.portsOn.foldl (fun t q => if q == p then t
      else t.jnSend q (typeInfo m.ty).1 (t.forwardFrame q m.ty (m.hops - 1) 0 data)) s1

/-! ### Claims received (R354, R355) -/

/-- A `CLAIM` arrives. -/
def State.takeClaim (s : State) (m : FabMsg) : State :=
  let uid := leAt m.body 0 8
  if uid == ownUid then s
  else
    let s1 := s.hearAddr m.src
    let s2 := if s.fb.node != 0 && m.src == s.fb.node then s1.defend else s1
    match s.fb.claim with
    | some c => if c.cand == m.src && ownUid > uid then s2.claimNext c else s2
    | none => s2

/-- A `DEFEND` of another node for this node's own address tells that both hold it (R355): the node with the higher UID yields, and the
other answers with a `DEFEND`, from which the higher one learns the same (log 67). -/
def State.bothHold (s : State) (uid : Nat) : State :=
  if ownUid > uid then s.yieldAddr
  else State.defend { s with fb.conflicts := sat 16 (s.fb.conflicts + 1) }

/-- A `DEFEND` arrives. -/
def State.takeDefend (s : State) (m : FabMsg) : State :=
  let uid := leAt m.body 0 8
  if uid == ownUid then s
  else
    let s1 := s.hearAddr m.src
    match s.fb.claim with
    | some c => if c.cand == m.src then s1.claimNext c else s1
    | none =>
      if s.fb.node == 0 || m.src != s.fb.node then s1 else s1.bothHold uid

/-- What Junction does about a frame that its port discarded under `ADDR_CLASH` (R354 step 3, R355). -/
def State.clashSeen (s : State) (f : CanFrame) : State :=
  let ty := leAt f.data 0 1 % 16
  if !s.jnOn then s
  else if ty == 0x1 then s.defend
  else if ty == 0x2 && leAt f.data 8 8 != ownUid && s.fb.claim.isNone then s.bothHold (leAt f.data 8 8)
  else if ty == 0xA && leAt f.data 8 8 != ownUid then
    let s1 := s.addrConflict
    if ownUid > leAt f.data 8 8 then s1.yieldAddr else s1
  else s

/-- A frame arrives on a port; `ago` is the time since its start of frame. -/
def execCanRxFrame (p : Fin 3) (f : CanFrame) (ago : Fin 65536) (ramErr : Option (Fin 4096)) (s : State) : Out :=
  let x := s.port p
  if x.st.onBus && !(s.mn.mode == .depot && x.raw.mode == 2) then
    let s1 := if x.st == .active || x.st == .passive then s.recvGood p else s
    let g := f.norm
    let clash := !g.rtr && s.mn.mode != .siding && s.judgeRx g == .clash
    let s2 := (s1.aloneEnd p 0).rxFrame p g (s.now - ago.val) ramErr
    .next ((if clash then s2.clashSeen g else s2).afterAir p)
  else .next s

/-! ### Relayed requests (R370, R371) -/

/-- Sends a concatenation as `REQUEST` or `RESPONSE` frames. -/
def State.sendFrags (s : State) (dst ty seq : Nat) (l : List Byte) : State × Bool :=
  let n := max 1 (cdiv l.length 52)
  (List.range n).foldl (fun (t : State × Bool) k =>
    let r := t.1.fabTo dst ty seq ([by8 k, by8 n] ++ (l.drop (52 * k)).take 52)
    (r.1, t.2 && r.2)) (s, true)

/-- Data of a relay response that begins with `ORIGIN`. -/
def relayData (origin : Nat) (l : List Byte) : List Byte := [by8 origin, 0#8, 0#8, 0#8] ++ l

/-- Ends a transaction of this node with a local status. -/
def State.endXact (s : State) (x : Xact) (status : Nat) : State :=
  let s1 := { s with fb.xacts := s.fb.xacts.filter fun y => !(y.node == x.node && y.seq == x.seq),
                     fb.parts := s.fb.parts.filter fun q => q.request || !(q.src == x.node && q.seq == x.seq) }
  s1.respond x.hdr status 0 (if x.body.isEmpty then [] else relayData 0 [])

/-- Starts a transaction: `body` empty for `FAB_PING` (R370, R371). -/
def State.startXact (s : State) (h : ReqHdr) (node tmoMs : Nat) (body : List Byte) : State :=
  match s.routeTo node with
  | none => State.respond { s with fb.noRoute := sat 16 (s.fb.noRoute + 1) } h stUnreachable 0 (if body.isEmpty then [] else relayData 0 [])
  | some r =>
    let seq := s.fb.seq
    let x : Xact := { node := node, seq := seq, body := body, since := s.now, lastAt := s.now, tmoMs := tmoMs, hdr := h,
                      hops := r.hops, ver := r.ver }
    let s1 := State.seqNext { s with fb.xacts := s.fb.xacts ++ [x] }
    if body.isEmpty then (s1.fabTo node 0x6 seq (leBytes 8 (unsgn 64 s.fabTime))).1
    else (s1.sendFrags node 0x3 seq body).1

/-- Transactions towards nodes whose routes have vanished end `UNREACHABLE` (R34, R136). -/
def State.endUnreached (s : State) : State :=
  (s.fb.xacts.filter fun x => (s.routeTo x.node).isNone).foldl (fun t x => t.endXact x stUnreachable) s

/-- The originator repeats a whole request after `CTL_RETRY_MS`; without a route it ends `UNREACHABLE` (R136). -/
def execRelayRetry (node seqn : Fin 4096) (s : State) : Out :=
  match s.fb.xacts.find? fun x => x.node == node.val && x.seq == seqn.val with
  | none => .next s
  | some x =>
    if x.body.isEmpty || !s.jnOn then .next s
    else
      let s1 := s.advTo (x.lastAt + s.fbf Fd.fbConf.CTL_RETRY_MS * 1000)
      let s2 := { s1 with fb.xacts := s1.fb.xacts.map fun (y : Xact) =>
        if y.node == x.node && y.seq == x.seq then { y with lastAt := s1.now } else y }
      let r := s2.sendFrags x.node 0x3 x.seq x.body
      .next (if r.2 then r.1 else r.1.endXact x stUnreachable)

/-- `TMO_MS` passes without a response. -/
def execRelayTimeout (node seqn : Fin 4096) (s : State) : Out :=
  match s.fb.xacts.find? fun x => x.node == node.val && x.seq == seqn.val with
  | none => .next s
  | some x => .next (State.endXact (s.advTo (x.since + x.tmoMs * 1000)) x stTimeout)

/-- Sends the response of a transaction, and keeps it (R371). -/
def State.sendResponse (s : State) (node seq : Nat) (l : List Byte) : State :=
  (State.sendFrags { s with fb.served := s.fb.served.map fun (k : KeptXact) =>
    if k.src == node && k.seq == seq then { k with resp := some l } else k } node 0x4 seq l).1

/-- Responses of relayed requests that are ready go to the fabric. -/
def State.flushReplies (s : State) : State :=
  s.host.replies.foldl (fun t r =>
    t.sendResponse r.node r.xact (leBytes 1 r.status ++ [0#8] ++ leBytes 2 r.detail ++ r.data)) { s with host.replies := [] }

/-- The bit of `RELAY_ACCEPT` that permits an opcode; none for an opcode outside the relayed families (R136). -/
def relayFamily (op : Nat) : Option Nat :=
  if op == 0x00 || op == 0x10 || op == 0x13 || (0x70 ≤ op && op ≤ 0x73) then some 0
  else if op == 0x11 || op == 0x12 then some 1
  else if 0x30 ≤ op && op ≤ 0x36 then some 2
  else if 0x60 ≤ op && op ≤ 0x63 then some 3
  else none

/-- A complete relayed request: refused, or put into the order of execution (R370, R146). -/
def State.serveRelay (s : State) (src seq : Nat) (l : List Byte) : State :=
  let op := leAt l 0 1
  let ver := leAt l 1 1
  let len := leAt l 2 2
  let s1 := { s with fb.served := ((⟨src, seq, none⟩ : KeptXact) :: s.fb.served).take 16 }
  let refuse := fun (st : Nat) => s1.sendResponse src seq [by8 st, 0#8, 0#8, 0#8]
  if l.length < 8 || l.length != 8 + len then refuse stRange
  else if ver < 1 || ver > s.mn.protoMax then refuse stBadVersion
  else
    match relayFamily op with
    | none => refuse stDenied
    | some k =>
      if bitOf (s.fbf Fd.fbConf.RELAY_ACCEPT) k then
        let r : Req := { origin := .fabric src seq, opcode := op, object := leAt l 4 4, payload := l.drop 8, ver := ver }
        { s1 with host.reqs := s1.host.reqs ++ [r] }
      else refuse stDenied

/-- A complete response: the request that waits for it is answered with the remote status and the first 232 bytes of its data, which is
what the response holds (Table 5.9; log 68). -/
def State.relayAnswered (s : State) (x : Xact) (l : List Byte) : State :=
  let s1 := { s with fb.xacts := s.fb.xacts.filter fun y => !(y.node == x.node && y.seq == x.seq) }
  s1.respond x.hdr (leAt l 0 1) (leAt l 2 2) (relayData 1 ((l.drop 4).take 232))

/-- One fragment joins its transaction; answers the concatenation when it is complete. -/
def State.gather (s : State) (src seq : Nat) (request : Bool) (b : List Byte) : State × Option (List Byte) :=
  let k := leAt b 0 1
  let n := leAt b 1 1
  if n == 0 || n > 5 || k ≥ n then (s, none)
  else
    let mine := fun (q : PartXact) => q.src == src && q.seq == seq && q.request == request
    let old := s.fb.parts.find? mine
    if old.isNone && n > 1 && s.fb.parts.length ≥ 8 then (s, none)
    else
      let q := old.getD { src := src, seq := seq, request := request, count := n, frags := [], since := s.now }
      let fr := (q.frags.filter fun e => e.1 != k) ++ [(k, b.drop 2)]
      let rest := s.fb.parts.filter fun e => !mine e
      if fr.length == q.count then
        ({ s with fb.parts := rest },
          some ((List.range q.count).flatMap fun j => ((fr.find? fun e => e.1 == j).map (·.2)).getD []))
      else ({ s with fb.parts := rest ++ [{ q with frags := fr }] }, none)

/-- A `REQUEST` fragment arrives. -/
def State.takeRequest (s : State) (m : FabMsg) : State :=
  match s.fb.served.find? fun k => k.src == m.src && k.seq == m.seq with
  | some k =>
    match k.resp with
    | some l => if leAt m.body 0 1 + 1 == leAt m.body 1 1 then (s.sendFrags m.src 0x4 m.seq l).1 else s
    | none => s
  | none =>
    let (s1, o) := s.gather m.src m.seq true m.body
    match o with
    | none => s1
    | some l => s1.serveRelay m.src m.seq l

/-- A `RESPONSE` fragment arrives. -/
def State.takeResponse (s : State) (m : FabMsg) : State :=
  match s.fb.xacts.find? fun x => x.node == m.src && x.seq == m.seq && !x.body.isEmpty with
  | none => s
  | some x =>
    let (s1, o) := s.gather m.src m.seq false m.body
    match o with
    | none => s1
    | some l => s1.relayAnswered x l

/-- An `ECHO_REPLY` arrives: round-trip time in µs, hops and link version (R371). -/
def State.takeEchoReply (s : State) (m : FabMsg) : State :=
  match s.fb.xacts.find? fun x => x.node == m.src && x.seq == m.seq && x.body.isEmpty with
  | none => s
  | some x =>
    let s1 := { s with fb.xacts := s.fb.xacts.filter fun y => !(y.node == x.node && y.seq == x.seq) }
    let rtt := unsgn 32 (s.fabTime - sgn 64 (leAt m.body 0 8))
    s1.respond x.hdr stOk 0 (leBytes 4 rtt ++ [by8 x.hops, by8 x.ver, 0#8, 0#8])

/-- An `UNREACH` arrives: it ends the transaction whose `REQUEST` or `ECHO` was dropped. -/
def State.takeUnreach (s : State) (m : FabMsg) : State :=
  match s.fb.xacts.find? fun x => x.node == leAt m.body 0 2 && x.seq == leAt m.body 2 2 &&
      leAt m.body 4 1 == (if x.body.isEmpty then 0x6 else 0x3) with
  | none => s
  | some x => s.endXact x stUnreachable

/-- A transaction held incomplete for `CTL_RETRY_MS` is discarded (R371). -/
def execPartialTransactionDiscard (src seqn : Fin 4096) (s : State) : Out :=
  match s.fb.parts.find? fun q => q.src == src.val && q.seq == seqn.val with
  | none => .next s
  | some q =>
    let s1 := s.advTo (q.since + s.fbf Fd.fbConf.CTL_RETRY_MS * 1000)
    .next { s1 with fb.parts := s1.fb.parts.erase q }

/-! ### Boundary states (R372–R374) -/

/-- The remote neighbours that zones name: node and zone. -/
def State.remoteNames (s : State) : List (Nat × Nat) :=
  ((List.range 32).flatMap fun z => (List.range 4).filterMap fun n =>
    let (k, node, nz) := s.nbr z n
    if k == 2 then some (node, nz) else none).eraseDups

/-- Every 60 s `BS_SUB` to each remote neighbour not heard on a shared segment. -/
def execBsSubSend (s : State) : Out :=
  if !s.jnOn || s.fb.node == 0 then .next s
  else
    let s1 := match s.fb.subAt with
      | none => s
      | some t => s.advTo (t + 60000000)
    let names := s1.remoteNames
    let nodes := ((names.map (·.1)).eraseDups).filter fun d => !(s1.fb.nbrs.any fun n => n.node == d)
    let s2 := nodes.foldl (fun t d =>
      let mask := maskOf 32 fun z => names.contains (d, z)
      (t.seqNext.fabTo d 0x8 t.fb.seq (leBytes 4 mask)).1) s1
    .next { s2 with fb.subAt := some s2.now }

/-- A subscription not refreshed for 180 s lapses. -/
def execSubscriptionLapse (node : Fin 4096) (s : State) : Out :=
  match s.fb.subs.find? fun x => x.node == node.val with
  | none => .next s
  | some x =>
    let s1 := s.advTo (x.at_ + 180000000)
    .next { s1 with fb.subs := s1.fb.subs.filter fun y => y.node != node.val }

/-- A `BS_SUB` arrives. -/
def State.takeSub (s : State) (m : FabMsg) : State :=
  let rest := s.fb.subs.filter fun x => x.node != m.src
  if rest.length ≥ 64 then s
  else { s with fb.subs := rest ++ [{ node := m.src, mask := leAt m.body 0 4, at_ := s.now }] }

/-- int16 in 0.01 °C; none when it does not fit. -/
def centi16 (t : F32) : Option Nat :=
  let v := fRoundScaled 100 t
  if fNotFinite t || v > 32767 || v < -32767 then none else some (unsgn 16 v)

/-- Plan blocks of a plan are due in this period: the one after its solve, and every `PLAN_REPEAT` periods (R373). -/
def State.planDue (s : State) (pl : Plan) : Bool :=
  pl.base < s.per.count && (s.per.count - 1 - pl.base) % max 1 (s.fbf Fd.fbConf.PLAN_REPEAT) == 0

/-- The plan bytes of an exported zone, when it held a plan at t0 and its blocks are due. -/
def State.bsPlan (s : State) (z : Nat) : List Byte :=
  let w := s.pr.told
  match w.plans.getD z none with
  | none => []
  | some pl =>
    let nb := min 12 w.nBlocks
    let lb := if w.nBlocks == 0 then 1 else w.nSteps / w.nBlocks
    let ts := (blockMeans lb nb pl.ys).map fun t => (centi16 t).getD 0x8000
    let age := ((s.per.count - pl.base) * s.periodMs / 1000)
    if s.planDue pl then leBytes 2 (sat 16 age) ++ leBytes 2 (sat 16 (lb * w.hMs / 1000)) ++ ts.flatMap fun v => leBytes 2 v else []

/-- The entry of one zone (Table 13.7). -/
def State.bsEntry (s : State) (z ver : Nat) : List Byte :=
  let t := match s.snapTemp z with
    | none => none
    | some v => centi16 v
  let plan := if ver == 2 then s.bsPlan z else []
  let nb := (plan.length - 4) / 2
  [by8 z, by8 (b2n t.isSome * 128 + b2n (!plan.isEmpty) * 64 + nb)] ++ leBytes 2 (t.getD 0x8000) ++ plan

/-- Entries packed into bodies of at most 56 bytes. -/
def packBodies : List (List Byte) → List (List Byte) → List (List (List Byte))
  | [], cur => if cur.isEmpty then [] else [cur]
  | e :: l, cur =>
    if (cur.flatten).length + e.length ≤ 52 then packBodies l (cur ++ [e]) else cur :: packBodies l [e]

/-- The boundary bodies of this period for some zones. -/
def State.bsBodies (s : State) (zones : List Nat) (ver : Nat) : List (List Byte) :=
  (packBodies (zones.map fun z => s.bsEntry z ver) []).map fun es =>
    leBytes 2 ((s.fabPeriod + 65535) % 65536) ++ [by8 es.length, 0#8] ++ es.flatten

/-- The zones exported (R372). -/
def State.exported (s : State) : List Nat := (List.range 32).filter fun z => bitOf (s.fbf Fd.fbConf.EXPORT) z

/-- In each period the exported states of the previous one, to every segment and to each subscriber. -/
def execBoundarySend (s : State) : Out :=
  if !s.jnOn || s.fb.node == 0 || s.fb.conflict || !s.per.running || s.fb.bsSent == some s.per.count then .next s
  else
    let zs := s.exported
    let s0 := { s with fb.bsSent := some s.per.count }
    let s1 := s0.portsOn.foldl (fun t p =>
      let ver := t.segWriteVer p
      (t.bsBodies zs ver).foldl (fun u b =>
        State.seqNext (u.fabSendOn p u.fb.node (segMsg ver 0x9 u.fb.node u.fb.seq b) 0)) t) s0
    .next (s1.fb.subs.foldl (fun t x =>
      match t.routeTo x.node with
      | none => t
      | some r =>
        (t.bsBodies (zs.filter fun z => bitOf x.mask z) r.ver).foldl (fun u b => (u.seqNext.fabTo x.node 0x9 u.fb.seq b).1) t) s1)

/-- One received entry for a neighbour entry (R374); answers the rest of the bytes. -/
def State.takeBsEntry (s : State) (node : Nat) (fresh : Bool) (b : List Byte) : State × List Byte :=
  let z := leAt b 0 1
  let fl := leAt b 1 1
  let plan := bitOf fl 6
  let nb := bits fl 3 0
  let len := 4 + (if plan then 4 + 2 * nb else 0)
  let deg := fun (k : Nat) => fDiv (fOfInt (sgn 16 (leAt b k 2))) (fOfNat 100)
  let t := deg 2
  let ok := bitOf fl 7 && fLe (fOfInt (-50)) t && fLe t (fOfNat 150)
  let named := s.remoteNames.contains (node, z)
  let s1 :=
    if !named || !ok then s
    else if !fresh then { s with fb.bsLate := sat 16 (s.fb.bsLate + 1) }
    else
      (List.range 32).foldl (fun u lz => (List.range 4).foldl (fun v n =>
        if v.nbr lz n == (2, node, z) then
          let pl : Option (List F32 × Nat × Int) :=
            if plan then some ((List.range nb).map fun k => deg (8 + 2 * k), leAt b 6 2, (s.per.t0 : Int) - ((leAt b 4 2 * 1000000 : Nat) : Int)) else none
          v.modMdl lz fun m => { m with nbrs := lmod m.nbrs n fun x =>
            { x with fresh := true, arrived := some (t, pl.or (x.arrived.bind (·.2))) } }
        else v) u) s
  (s1, b.drop len)

/-- Entries in order; `n` left. -/
def State.takeBsEntries (s : State) (node : Nat) (fresh : Bool) : Nat → List Byte → State
  | 0, _ => s
  | n + 1, b =>
    if b.length < 4 then s
    else
      let r := s.takeBsEntry node fresh b
      State.takeBsEntries r.1 node fresh n r.2

/-- A `BOUNDARY` frame arrives. -/
def State.takeBoundary (s : State) (m : FabMsg) : State :=
  if s.fb.conflict then s
  else
    let fresh := s.per.running && leAt m.body 0 2 == (s.fabPeriod + 65535) % 65536
    s.takeBsEntries m.src fresh (leAt m.body 2 1) (m.body.drop 4)

/-! ### Receive tests and dispatch (R351) -/

/-- The message in a stored element. -/
def fabParse (native : Bool) (d : List Byte) : FabMsg :=
  let w1 := leAt d 1 2
  let w3 := leAt d 3 2
  let mask := if native then 4096 else 256
  { ver := leAt d 0 1 / 16, ty := leAt d 0 1 % 16, hops := bits w1 15 12, src := w1 % 4096 % mask, flood := bitOf w3 12,
    dst := w3 % 4096 % mask, seq := leAt d 5 2 % 4096, body := bytesAt d 8 (leAt d 7 1 % 64) }

/-- The next hop that a frame names in Profile L (R349). -/
def nibbleHop (d : List Byte) : Nat := bits (leAt d 1 2) 11 8 * 16 + bits (leAt d 3 2) 11 8

/-- The first test of Table 13.3 that an element fails; 0 when it passes. -/
def State.fabTest (s : State) (e : RxElem) (poisoned : Bool) : Nat :=
  let n := s.native
  let id := bits e.h0 28 0
  let field := dlcLen (bitOf e.h0 30) (bits e.h1 15 12)
  let m := fabParse n e.data
  let (cls, ctl, dk) := typeInfo m.ty
  let len := leAt e.data 7 1 % 64
  let d := e.data
  let segOnly := m.ty == 0xA || m.ty == 0xB || (m.ty == 0x9 && m.dst == 0)
  let maxA := s.addrMax
  if poisoned || bitOf e.h1 3 then 1
  else if bitOf e.h1 2 && (ctl || cls == 0 || 8 + len > d.length) then 2
  else if m.ver < 1 || m.ver > s.fbf Fd.fbConf.XF_MAX || cls == 0 || cls != idClass n id ||
      bits (leAt d 3 2) 15 13 != 0 || bits (leAt d 5 2) 15 12 != 0 || bits (leAt d 7 1) 7 6 != 0 then 3
  else if m.src < 1 || m.src > maxA || (dk == 0 && m.dst != 0) || (dk == 1 && m.dst == 0) || m.dst > maxA ||
      8 + len + (if ctl then 2 else 0) > field then 4
  else if segOnly && (m.src != idSrc n id || m.hops != 0) then 5
  else if ctl && leAt d (d.length - 2) 2 != fabricCheck m.dst m.seq (d.take (d.length - 2)) then 6
  else 0

/-- A discarded frame is counted (R351). -/
def State.fabDiscard (s : State) (p test : Nat) : State :=
  let s1 := if test == 2 then { s with fb.trunc := sat 16 (s.fb.trunc + 1) }
    else if test == 6 then { s with fb.checkFails := sat 16 (s.fb.checkFails + 1) }
    else { s with fb.hdrBad := sat 16 (s.fb.hdrBad + 1) }
  s1.canNote p fun l => { l with bad := l.bad + 1, test := if l.bad == 0 then test else l.test }

/-- An accepted frame for this node. -/
def State.fabDispatch (s : State) (p : Nat) (m : FabMsg) : State :=
  match m.ty with
  | 0x1 => s.takeClaim m
  | 0x2 => s.takeDefend m
  | 0x3 => s.takeRequest m
  | 0x4 => s.takeResponse m
  | 0x5 => s.takeUnreach m
  | 0x6 => (s.fabTo m.src 0x7 m.seq (padTo 8 m.body)).1
  | 0x7 => s.takeEchoReply m
  | 0x8 => s.takeSub m
  | 0x9 => s.takeBoundary m
  | 0xA => s.takeHeartbeat p m
  | 0xB => s.takeAdv p m
  | _ => s

/-- An accepted frame: forwarded, or taken. A node without an address sends nothing but claims (R354). -/
def State.fabAccept (s : State) (p : Nat) (e : RxElem) : State :=
  let m := fabParse s.native e.data
  let s1 := if s.mn.phase == .run then s else { s with fb.heardAny := true }
  let hop := nibbleHop e.data
  let mine := s.native || hop == 0 || hop == s.fb.node
  if !mine then s1
  else if m.flood then s1.forwardFlood p m e.data |>.fabDispatch p m
  else if m.dst == 0 || m.dst == s.fb.node then s1.fabDispatch p m
  else if s1.fb.node == 0 then s1
  else s1.forward m e.data

/-- Junction takes a frame from `Q-FABI`. -/
def execFabiTake (p : Fin 3) (s : State) : Out :=
  if s.fbf Fd.fbConf.FABRIC_EN == 0 || s.mn.mode == .siding then .next s
  else
    match (s.port p).qFabi with
    | [] => .next (s.underrunBy prJN (5 + p.val))
    | e :: rest =>
      let s1 := State.feedFabi (s.modPort p fun x => { x with qFabi := rest }) p 128
      let s2 := if e.bad then s1.poisonEvent prJN (5 + p.val) else s1
      if idClass s.native (bits e.val.h0 28 0) == 0 && !e.bad && !bitOf e.val.h1 3 then .next (s2.takeReference p e.val)
      else
        let t := s.fabTest e.val e.bad
        if t != 0 then .next (s2.fabDiscard p t) else .next (s2.fabAccept p e.val)

/-- On a port without Timetable the master sends the reference as an event frame every 10 ms (R359). -/
def execRefEventSend (p : Fin 3) (s : State) : Out :=
  let x := s.port p
  if !s.jnOn || !x.tt.master || s.cfb (ttObj p) Fd.ttConf.TT_EN then .next s
  else
    let s1 := match s.fb.refAt.getD p none with
      | none => s
      | some t => s.advTo (t + 10000)
    let s2 := { s1 with fb.refAt := lset s1.fb.refAt p (some s1.now) }
    if (x.item false refBuf).isSome then .next s2
    else .next (s2.txWrite p { queue := false, idx := refBuf, frame := s2.refFrame 0, use := .reference })

/-! ### Start, end and rediscovery (R354, R357, R375) -/

/-- The fabric as it stands when a main domain starts or the fabric is disabled; counts are kept. -/
def Fabric.quiet (f : Fabric) : Fabric :=
  { f with node := 0, claim := none, newNode := none, stratum := 15, root := none, nbrs := [], heard := [], floods := [],
           routes := [], shadow := [], advAt := List.replicate 3 none, advDue := List.replicate 3 false, hbAt := none,
           tmDue := List.replicate 3 false, conflict := false, rootPeriod := none, wall := none, parts := [], served := [], subs := [],
           subAt := none, bsSent := none, refAt := List.replicate 3 none, rediscover := [] }

/-- At ready the node claims its first candidate (R354 step 1). -/
def State.fabReady (s : State) : State :=
  if s.jnOn then
    let c := s.firstCandidate
    s.claimStart c.1 c.2 false
  else s

/-- A frame that Junction or the time master sends. -/
def TxItem.ofFabric (it : TxItem) : Bool :=
  match it.use with
  | .fabric _ => true
  | .reference => true
  | _ => false

/-- The fabric's frames of a port end `CANCELLED`, but for one whose start of frame has been sent (R33, R329). -/
def State.cancelFabric (s : State) (p : Nat) : State :=
  let x := s.port p
  let s1 := s.cancelWork p fun it => !it.ofFabric || x.flies it
  (x.tx.filter TxItem.ofFabric).foldl (fun t it => if x.air == some (it.queue, it.idx) then t.cancelItem p it else t) s1

/-- `FABRIC_EN` cleared at a Changeover: the node becomes alone, and what waits ends `CANCELLED` (R375, R33, R119, R147). -/
def State.fabOff (s : State) : State :=
  let s1 := (s.fb.xacts.foldl (fun t x => t.endXact x stCancelled) s).cancelXfers fun x => x.stream == 0x04
  let s2 := { s1 with fb := s1.fb.quiet }
  (List.range 3).foldl (fun t p => (((t.cancelFabric p).setMaster p false).jnRules p).pump p 256) s2

/-- `FAB_REDISCOVER` at its Changeover (R375). -/
def State.rediscover (s : State) : State :=
  if !(s.fb.rediscover.any (· ≤ s.per.count)) then s
  else
    let s1 := { s with fb.rediscover := s.fb.rediscover.filter fun c => s.per.count < c, fb.nbrs := [], fb.routes := [], fb.shadow := [], fb.heard := [] }
    if s1.fb.node == 0 then s1 else s1.claimStart s1.fb.node s1.fb.addrSrc false

/-! ### Status groups (Tables 13.9, 13.11) -/

/-- Wall time is taken from the fabric (R362). -/
def State.wallTaken (s : State) : Bool :=
  !s.isRoot && s.fbf Fd.fbConf.WALL_FROM_FAB != 0 && s.fb.wall.isSome && s.jnOn

/-- Words of the Fabric status group. -/
def State.fbStatWord (s : State) (k : Nat) : Nat :=
  let f := s.fb
  let r := f.root.getD (0, 0, 0)
  match k with
  | 0 => f.node * 2 ^ 20 + s.fState * 2 ^ 16 + f.stratum * 4096 + f.addrSrc * 1024 + b2n s.isRoot * 512 + b2n s.wallTaken * 256 +
      b2n f.conflict * 128 + (maskOf 3 fun p => (s.port p).tt.master) * 16 + f.timePort * 4
  | 1 => bits r.2.1 31 0
  | 2 => bits r.2.1 63 32
  | 3 => r.2.2 * 2 ^ 20 + sat 16 (f.routes.filter fun e => e.1 % 2 == 0 && e.2.st == 1).length
  | 4 => s.fabPeriod
  | 5 => f.hopExpired * 65536 + f.noRoute
  | 6 => f.checkFails * 65536 + f.hdrBad
  | 7 => f.trunc * 65536 + f.drops
  | 8 => f.bsLate * 65536 + f.conflicts
  | _ => 0

/-- Words of the Fabric segment group. -/
def State.fbSegWord (s : State) (k : Nat) : Nat :=
  let p := k / 2
  if k % 2 == 0 then
    let (m, st) := if (s.port p).tt.master then (s.fb.node, s.fb.stratum)
      else match s.otherMaster p with
        | some n => (n.node, n.stratum)
        | none => (0, 15)
    m * 2 ^ 20 + st * 2 ^ 16 + sat 8 (s.nbrsOn p).length * 256 + s.segVer p * 64
  else
    let served := (s.fb.subs.filter fun x => match s.routeTo x.node with
      | some r => r.port == p
      | none => false).length
    served * 65536 + s.fb.losses.getD p 0

end Sys2Proof.Machine
end

