-- ==== Sys2Proof/Machine/Groups.lean ====
section
/-!
DEFINITION. Sys2Proof/Machine/Groups.lean: which objects exist and which field groups they carry (Table 5.1, R123, R124),
which groups are persistent (R398), and their default words.
-/
namespace Sys2Proof.Machine
open Sys2Proof

/-- The parts of an object identifier (R123). -/
def objCls (o : Nat) : Nat := bits o 31 24
def objInst (o : Nat) : Nat := bits o 23 12
def objGrp (o : Nat) : Nat := bits o 11 0

/-- The instances of a class (Table 5.1). -/
def clsInstances : Nat → List Nat
  | 0x01 => List.range 32
  | 0x02 => List.range 160
  | 0x03 => List.range 64
  | 0x04 => List.range 24 ++ [0x100, 0x101, 0x102, 0x103]
  | 0x05 => List.range 12
  | 0x06 => List.range 16
  | 0x07 => List.range 96
  | 0x08 => List.range 32
  | 0x09 => List.range 33
  | 0x0A => List.range 5
  | 0x0B => List.range 3
  | 0x0C => List.range 3
  | 0x0D => [0]
  | 0x0E => List.range 32
  | 0x0F => List.range 10
  | 0x10 => List.range 9
  | 0x11 => List.range 11
  | _ => []

/-- The field groups of an instance beside its identity group, ascending. -/
def clsGroups (cls inst : Nat) : List (Nat × Grp) :=
  match cls with
  | 0x01 => [(0x010, grpZnStat), (0x020, grpZnConf), (0x030, grpZnPts), (0x040, grpZnAct), (0x050, grpZnSp), (0x060, grpZnOvr)]
  | 0x02 => [(0x010, grpPtValue), (0x020, grpPtSource), (0x030, grpPtLin), (0x040, grpPtCheck), (0x050, grpPtTable),
      (0x060, grpPtI2c), (0x070, grpPtBind)]
  | 0x03 => [(0x010, grpLoopStat), (0x020, grpLoopConf)]
  | 0x04 => if inst < 24 then [(0x010, grpVStat), (0x020, grpVConf), (0x030, grpVProof)] else [(0x010, grpGStat), (0x020, grpGConf)]
  | 0x05 => [(0x010, grpFStat), (0x020, grpFConf), (0x030, grpFSig)]
  | 0x06 => [(0x010, grpAStat), (0x020, grpAConf)]
  | 0x07 => if inst < 32 then [(0x010, grpSched)] else [(0x010, grpExday)]
  | 0x08 => [(0x010, grpPresStat), (0x020, grpPresConf)]
  | 0x09 => if inst == 0 then [(0x010, grpPeStat), (0x020, grpPeConf)] else [(0x010, grpMdStat), (0x020, grpMdConf), (0x030, grpMdTheta)]
  | 0x0A => if inst == 0 then [(0x010, grpPnStat), (0x020, grpPnConf), (0x030, grpPnKeys)] else [(0x010, grpEnStat), (0x020, grpEnConf)]
  | 0x0B => [(0x010, grpCnStat), (0x020, grpCnConf), (0x030, grpCnCount), (0x040, grpCnWake)]
  | 0x0C => [(0x010, grpTtStat), (0x020, grpTtConf)]
  | 0x0D => [(0x010, grpFbStat), (0x020, grpFbConf), (0x030, grpFbSeg)]
  | 0x0E => if inst < 16 then [(0x010, grpRecStat)] else [(0x010, grpRecStat), (0x020, grpRecCfg)]
  | 0x0F => if inst == 0 then [(0x010, grpThStat), (0x020, grpThConf)] else [(0x010, grpDsStat)]
  | 0x10 => if inst == 0 then [(0x010, grpGdStat), (0x020, grpGdConf)] else [(0x010, grpGzStat), (0x020, grpGzConf)]
  | 0x11 => if inst == 0 then [(0x010, grpPeriod), (0x020, grpQstat), (0x030, grpPower), (0x040, grpHostlink), (0x050, grpFrontEnd),
      (0x060, grpSar), (0x070, grpZnSys), (0x080, grpCritSys), (0x090, grpRecSys), (0x0A0, grpStrap), (0x0B0, grpProfile)]
    else [(0x020, grpQstat)]
  | _ => []

/-- The number of field groups of an instance, the identity group included (`NGROUPS`). -/
def nGroups (cls inst : Nat) : Nat := (clsGroups cls inst).length + 1

/-- True when an instance exists. -/
def instOk (cls inst : Nat) : Bool := (clsInstances cls).contains inst

/-- The field group an identifier names; none when class, instance or group is not defined (R123). -/
def grpOf (o : Nat) : Option Grp :=
  if !instOk (objCls o) (objInst o) || o ≥ 2 ^ 32 then none
  else if objGrp o == 0 then some grpIdent
  else ((clsGroups (objCls o) (objInst o)).find? fun p => p.1 == objGrp o).map (·.2)

/-- True when a group has `RW` fields. -/
def Grp.hasRw (g : Grp) : Bool := g.flds.any fun f => f.acc == .rw

/-- Persistent groups have `RW` fields, but for the exceptions of R398. -/
def storedGroup (cls g : Nat) (gr : Grp) : Bool :=
  gr.hasRw && !(cls == 0x01 && g == 0x060) && !(cls == 0x11 && g == 0x0B0)

/-- The objects of the configuration image in ascending order (Table 14.10). -/
def imageObjs : List (Nat × Grp) :=
  ((List.range 0x12).flatMap fun cls => (clsInstances cls).flatMap fun inst =>
    (clsGroups cls inst).filterMap fun p => if storedGroup cls p.1 p.2 then some (objId cls inst p.1, p.2) else none)

/-- The objects with a record of region 1, in ascending order: the Guard groups are stored in region 7 only (R398). -/
def region1Objs : List (Nat × Grp) := imageObjs.filter fun p => objCls p.1 != 0x10

/-- The identifier of the Timetable record of a port (R398). -/
def ttRecObj (p : Nat) : Nat := 0x0C000000 + p * 0x1000 + 0xFF0

/-- The word `w` of a group's `RW` fields in force. -/
def State.rwWord (s : State) (o : Nat) (g : Grp) (w : Nat) : Nat :=
  match assocGet s.cfg (cfgKey o w) with
  | some v => v.toNat
  | none => g.dfltWord w

/-- The bits of word `w` that hold `RW` fields. -/
def Grp.rwMask (g : Grp) (w : Nat) : Nat :=
  (g.flds.filter fun f => f.word == w && f.acc == .rw).foldl (fun a f => putBits a f.hi f.lo (2 ^ (f.hi + 1 - f.lo) - 1)) 0

/-- Puts the words given over the `RW` fields in force of a group, from word `w` on; reads, reserved bits and `RO` fields
are left (R110). -/
def State.setWords (s : State) (o : Nat) (g : Grp) : Nat → List Word → State
  | _, [] => s
  | w, v :: l =>
    if w ≥ g.words then s
    else
      let m := g.rwMask w
      let nw := wd ((v.toNat &&& m) ||| (s.rwWord o g w - (s.rwWord o g w &&& m)))
      let cfg := if nw.toNat == g.dfltWord w then assocDel (cfgKey o w) s.cfg else assocSet (cfgKey o w) nw s.cfg
      State.setWords { s with cfg := cfg } o g (w + 1) l

/-- The words of the `RW` fields of a group in force. -/
def State.rwWords (s : State) (o : Nat) (g : Grp) : List Word := (List.range g.words).map fun w => wd (s.rwWord o g w)

/-- Little-endian words of a byte list. -/
def wordsOf (l : List Byte) (n : Nat) : List Word := (List.range n).map fun k => wd (leAt l (4 * k) 4)

/-- The bytes of a word list. -/
def bytesOfWords (l : List Word) : List Byte := l.flatMap wordBytes

/-- A field of an object read from words given (a write under judgement). -/
def fldOf (ws : List Word) (f : Fld) : Nat := bits (ws.getD f.word 0#32).toNat f.hi f.lo

/-- The words a group would hold after a write of the words given. -/
def State.mergedWords (s : State) (o : Nat) (g : Grp) (ws : List Word) : List Word :=
  (List.range g.words).map fun w =>
    let old := s.rwWord o g w
    if w < ws.length then
      let m := g.rwMask w
      wd (((ws.getD w 0#32).toNat &&& m) ||| (old - (old &&& m)))
    else wd old

/-- The first field, in order of its place, that the words given set out of its range, or the first reserved bit they set:
its byte offset inside the group (R110, Table 5.17). -/
def Grp.rangeFault (g : Grp) (ws : List Word) : Option Nat :=
  (List.range (min g.words ws.length)).findSome? fun w =>
    (List.range 4).findSome? fun b =>
      let v := (ws.getD w 0#32).toNat
      let here := g.flds.filter fun f => f.word == w && f.lo / 8 == b && (f.acc == .rw || f.acc == .wo)
      let known := g.flds.foldl (fun a f => if f.word == w then putBits a f.hi f.lo (2 ^ (f.hi + 1 - f.lo) - 1) else a) 0
      if (here.any fun f => !f.accepts (bits v f.hi f.lo)) || bits (v - (v &&& known)) (8 * b + 7) (8 * b) != 0 then some (4 * w + b)
      else none

end Sys2Proof.Machine
end

