-- ==== Sys2Proof/Machine/Records.lean ====
section
/-!
DEFINITION. Sys2Proof/Machine/Records.lean: the record store (chapter 14): regions and slots (R377, R379), judging copies
(R380, R381, R386–R388), the write list (R382–R384), counters (R392), hot values and the power-fail save (R394, R395),
passwords (R396, R397), recall (R386–R389).
-/
namespace Sys2Proof.Machine
open Sys2Proof

/-! ### Regions (R377, R379) -/

/-- Base and size of a region (Table 14.1). -/
def regionPlace (r : Nat) : Nat × Nat :=
  if r ≥ 16 && r < 32 then (0x3C000 + (r - 16) * 0x400, 0x400)
  else [(0, 0x1000), (0x1000, 0x28000), (0x29000, 0xC000), (0x35000, 0x800), (0x35800, 0x2800), (0x38000, 0x3000),
        (0x3B000, 0x400), (0x3B400, 0x400)].getD r (0, 0)

/-- The slot size S for a largest data length (R379). -/
def slotSize (lmax : Nat) : Nat := 8 * cdiv (13 + lmax) 8

/-- Record lengths of region 0 (Table 14.7). -/
def sysLens : List Nat := [32, 4, 8, 64, 4, 4] ++ List.replicate 32 16 ++ [8]

/-- Record lengths of region 7 (Table 15.3). -/
def guardLens : List Nat := [4] ++ List.replicate 8 32 ++ [4]

/-- The largest data length of a group's record: an entry of Table 14.10 with the longest group (R390; log 40). -/
def cfgLen : Nat := 8 + 232

/-- The largest data length of each record of a region, given the user regions' `REC_LEN`. -/
def recLens (ulen : Nat → Nat) (r : Nat) : List Nat :=
  match r with
  | 0 => sysLens
  | 1 => List.replicate region1Objs.length cfgLen ++ List.replicate 3 8360
  | 2 => List.replicate 32 704
  | 3 => List.replicate 12 40
  | 4 => [4096]
  | 5 => List.replicate 153 20
  | 6 => List.replicate 8 4
  | 7 => guardLens
  | _ => if r ≥ 16 && r < 32 then List.replicate (1024 / (2 * slotSize (ulen r))) (ulen r) else []

/-- The address of copy A of record `k`: the slot pairs follow one another from the region's base. The spec gives region 1
no layout, and its records do not fit its size: the model gives each a place of its own above the cells (log 40). -/
def recAddr (lens : List Nat) (r k : Nat) : Nat :=
  if r == 1 then 0x100000 + 0x200 * k + (if k + 3 ≥ lens.length then 0x100000 + 0x8000 * (k + 3 - lens.length) else 0)
  else (regionPlace r).1 + ((lens.take k).map fun l => 2 * slotSize l).sum

/-- `REC_LEN` in force of a user region. -/
def State.recLen (s : State) (r : Nat) : Nat := s.cf (objId 0x0E r 0x020) Fd.recCfg.REC_LEN

/-- The record lengths of a region. -/
def State.lens (s : State) (r : Nat) : List Nat := recLens s.recLen r

/-- The records of a region. -/
def State.recCount (s : State) (r : Nat) : Nat := (s.lens r).length

/-! ### Default content (R386) -/

/-- The data of a configuration record or image entry: its header, then the words (Table 14.10). -/
def entryBytes (obj : Nat) (ws : List Word) : List Byte :=
  leBytes 4 obj ++ leBytes 2 (4 * ws.length) ++ [0#8, 0#8] ++ bytesOfWords ws

/-- The default words of a group's `RW` fields. -/
def Grp.dfltWords (g : Grp) : List Word := (List.range g.words).map fun w => wd (g.dfltWord w)

/-- The words of a group as its record of region 1 holds them: word 1 of the `Thermal` configuration group has its home in region 7 and is
stored as 0 (R398). -/
def homeWords (o : Nat) (ws : List Word) : List Word := if objCls o == 0x0F then [ws.getD 0 0#32, 0#32] else ws

/-- The default content of a record of `n` bytes (Table 14.7, R386; a configuration group's defaults are those of its own
table). -/
def recDefault (r k n : Nat) : List Byte :=
  match r, region1Objs[k]? with
  | 1, some p => entryBytes p.1 (homeWords p.1 p.2.dfltWords)
  | _, _ => padTo n (match r with
  | 0 => if k == 0 then [4#8, 4#8] else if k == 2 then leBytes 8 ownUid else []
  | 7 => if k == 0 then bytesOfWords grpGdConf.dfltWords
    else if k == 9 then leBytes 4 (grpThConf.dfltWord 1) else bytesOfWords grpGzConf.dfltWords
  | _ => [])

/-! ### Copies (R379–R381, R388) -/

/-- A valid copy. -/
structure RecCopy where
  v1 : Bool
  seq : Nat
  dflt : Bool
  data : List Byte
  deriving DecidableEq, Repr

/-- A copy of format version 2 (R380). -/
def readCopy2 (m : Mem) (a lmax : Nat) : Option RecCopy :=
  let flags := (m.read (a + 1)).toNat
  let n := m.le (a + 2) 2
  let seq := m.le (a + 4) 4
  if m.read a == 2#8 && flags < 2 && n ≤ lmax && (m.read (a + 12 + n)).toNat == (seq % 256) ^^^ 0x5A &&
      recordCheck a (m.bytes a (8 + n)) == m.le (a + 8 + n) 4 then
    some { v1 := false, seq := seq, dflt := flags == 1, data := m.bytes (a + 8) n }
  else none

/-- A copy of format version 1 (R388). -/
def readCopy1 (m : Mem) (a lmax : Nat) : Option RecCopy :=
  let n := m.le a 2
  if n ≤ lmax && m.read (a + 10 + n) == 0xA5#8 && recordCheck a (m.bytes a (6 + n)) == m.le (a + 6 + n) 4 then
    some { v1 := true, seq := m.le (a + 2) 4, dflt := false, data := m.bytes (a + 6) n }
  else none

/-- A copy as recall judges it (R380, R388). -/
def readCopy (m : Mem) (a lmax : Nat) : Option RecCopy :=
  match readCopy2 m a lmax with
  | some c => some c
  | none => readCopy1 m a lmax

/-- `SEQ` x is newer than y (R381). -/
def seqNewer (x y : Nat) : Bool := 0 < sgn 32 ((x + 2 ^ 32 - y % 2 ^ 32) % 2 ^ 32)

/-- A record as judged: content, `VALID`, the `SEQ` N that the next write counts from, the copy that it goes to (R382),
and the version of the content. -/
structure RecSel where
  data : List Byte
  valid : Nat
  seq : Nat
  toB : Bool
  v1 : Bool
  isDefault : Bool
  dup : Bool
  deriving DecidableEq, Repr

/-- The decision of Table 14.6 on the copies that a reader accepts, and the target of R382. -/
def judgeBy (rd : Mem → Nat → Nat → Option RecCopy) (m : Mem) (a lmax : Nat) (dflt : List Byte) : RecSel :=
  let b := a + slotSize lmax
  match rd m a lmax, rd m b lmax with
  | none, none => ⟨dflt, 8, 0, false, false, true, false⟩
  | some x, none => ⟨x.data, 1 + 8 * b2n x.dflt, x.seq, true, x.v1, false, false⟩
  | none, some y => ⟨y.data, 2 + 8 * b2n y.dflt, y.seq, false, y.v1, false, false⟩
  | some x, some y =>
    if x.seq != y.seq then
      if seqNewer x.seq y.seq then ⟨x.data, 3 + 8 * b2n x.dflt, x.seq, true, x.v1, false, false⟩
      else ⟨y.data, 3 + 8 * b2n y.dflt, y.seq, false, y.v1, false, false⟩
    else if m.bytes a (12 + x.data.length) == m.bytes b (12 + x.data.length) then
      ⟨x.data, 3 + 8 * b2n x.dflt, x.seq, true, x.v1, false, false⟩
    else ⟨dflt, 15, x.seq, false, false, true, true⟩

/-- What recall and the record store controller judge: copies of both versions (R388). -/
def judgeRecord (m : Mem) (a lmax : Nat) (dflt : List Byte) : RecSel := judgeBy readCopy m a lmax dflt

/-- What the boot ROM and Guard judge: R380 and Table 14.6 alone, which know no copy of version 1 (R389, R407). -/
def judgeNew (m : Mem) (a lmax : Nat) (dflt : List Byte) : RecSel := judgeBy readCopy2 m a lmax dflt

/-- The record as the controller serves it. -/
def State.recSel (s : State) (r k : Nat) : RecSel :=
  let l := s.lens r
  judgeRecord s.rs.cells (recAddr l r k) (l.getD k 0) (recDefault r k (l.getD k 0))

/-- The content of a record. -/
def State.recData (s : State) (r k : Nat) : List Byte := (s.recSel r k).data

/-! ### Writing (R382, R384) -/

/-- The bytes of a copy up to its check value, at its address (Table 14.3). -/
def copyBytes (a seq : Nat) (dflt : Bool) (data : List Byte) : List Byte :=
  let h := [2#8, by8 (b2n dflt)] ++ leBytes 2 data.length ++ leBytes 4 seq ++ data
  h ++ leBytes 4 (recordCheck a h) ++ [by8 ((seq % 256) ^^^ 0x5A)]

/-- Word cycle in ns of a band (Table 14.4). -/
def wordNs (band : Nat) : Nat := [100, 60, 60, 80, 100].getD band 60

/-- Time of one copy write in ns (R384). -/
def copyNs (band n : Nat) : Nat := 500 + (cdiv (8 + n) 2 + 3) * wordNs band

/-- The place a write of a record goes to when it was judged `sel`: the address of its copy and the copy's bytes. -/
def State.copyPlace (s : State) (sel : RecSel) (r k : Nat) (dflt : Bool) (data : List Byte) : Nat × List Byte :=
  let l := s.lens r
  let a := recAddr l r k
  let at_ := if sel.toB then a + slotSize (l.getD k 0) else a
  (at_, copyBytes at_ ((sel.seq + 1) % 2 ^ 32) dflt data)

/-- The place a write of a record goes to, as the controller judges the record. -/
def State.recTarget (s : State) (r k : Nat) (dflt : Bool) (data : List Byte) : Nat × List Byte :=
  s.copyPlace (s.recSel r k) r k dflt data

/-- One whole copy lands in the cells at its place. -/
def State.landAt (s : State) (r k : Nat) (t : Nat × List Byte) : State :=
  { s with rs.cells := s.rs.cells.writeBytes t.1 t.2, rs.dups := s.rs.dups.filter fun d => d != (r, k),
           rs.writes := lmod s.rs.writes r fun n => (n + 1) % 2 ^ 32, rs.copies := (s.rs.copies + 1) % 2 ^ 32 }

/-- One whole copy that the controller writes lands in the cells. -/
def State.landCopy (s : State) (r k : Nat) (dflt : Bool) (data : List Byte) : State := s.landAt r k (s.recTarget r k dflt data)

/-- The content of a migrated record: a shorter field group, of region 1 or of Guard's region 7, is completed with its defaults
(R388). -/
def convertV1 (r k : Nat) (data : List Byte) : List Byte :=
  if r == 7 then data ++ (recDefault 7 k (guardLens.getD k 0)).drop data.length
  else match if r == 1 then region1Objs[k]? else none with
  | none => data
  | some p =>
    let n := leAt data 4 2
    let d := entryBytes p.1 (homeWords p.1 p.2.dfltWords)
    if 4 * p.2.words ≤ n then data else data.take 4 ++ bytesAt d 4 4 ++ bytesAt data 8 n ++ d.drop (8 + n)

/-- The content that an entry writes: whole, or merged into the record as it stands (R382), converted where its copy is of
version 1 (R388). -/
def State.entryData (s : State) (e : RecEntry) : List Byte :=
  if e.whole then e.data
  else
    let sel := s.recSel e.region e.record
    let old := if sel.v1 then convertV1 e.region e.record sel.data else sel.data
    old.take e.offset ++ e.data ++ old.drop (e.offset + e.data.length)

/-- The next entry of the write list (R383). -/
def nextEntry (l : List RecEntry) : Option RecEntry :=
  match l.find? fun e => e.cmd with
  | some c => l.find? fun e => e.region == c.region && e.record == c.record
  | none => l.head?

/-- Removes the first entry equal to a given one. -/
def dropEntry (e : RecEntry) : List RecEntry → List RecEntry
  | [] => []
  | x :: l => if x == e then l else x :: dropEntry e l

/-- The controller starts the next copy when it is idle. -/
def State.startCopy (s : State) : State :=
  if s.rs.cur.isSome then s
  else match nextEntry s.rs.wlist with
  | none => s
  | some e =>
    let d := s.entryData e
    { s with rs.cur := some { e with data := d, whole := true }, rs.band := s.band,
             rs.curEnd := s.now + cdiv (copyNs s.band d.length) 1000, rs.wlist := dropEntry e s.rs.wlist }

/-- Wrong attempts left of a region (R397). -/
def State.attempts (s : State) (r : Nat) : Nat := 8 - min 8 (s.rs.wrong.getD r 0)

/-- Wrong service passwords left (R79). -/
def State.svcAttempts (s : State) : Nat := 8 - min 8 s.mn.svcWrong

/-- The response data of a request that waited for a record write (Tables 5.8, 5.14, R152). -/
def State.recAnswer (s : State) (op inst seq : Nat) : List Byte :=
  if op == 0x31 || op == 0x36 then leBytes 4 seq
  else if op == 0x35 then [by8 (s.attempts inst)]
  else if op == 0xE6 then [by8 s.svcAttempts]
  else if op == 0x11 || op == 0x12 then [2#8, 0#8, 0#8, 0#8]
  else []

/-- Requests that wait for a tagged write are answered. -/
def State.answerTag (s : State) (tag status seq : Nat) : State :=
  if tag == 0 then s
  else
    let hit (w : Waiting) : Bool := match w.kind with
      | .record t _ => t == tag
      | _ => false
    (s.host.waiting.filter hit).foldl
      (fun t w =>
        let part := match w.kind with
          | .record _ n => n
          | _ => 0
        t.respond w.hdr (if status == stOk && part != 0 then stPartial else status) (if status == stOk then part else 0)
          (if status == stOk then t.recAnswer w.hdr.opcode (objInst w.hdr.object) seq else []))
      { s with host.waiting := s.host.waiting.filter fun w => !hit w }

/-- The copy under way is complete, commit byte included. -/
def State.endCopy (s : State) : State :=
  match s.rs.cur with
  | none => s
  | some e =>
    let seq := ((s.recSel e.region e.record).seq + 1) % 2 ^ 32
    let s1 := s.landCopy e.region e.record e.dflt e.data
    State.answerTag { s1 with rs.cur := none } e.tag stOk seq

/-- `VSUP` is lost while a copy is written: the words written so far stand, without the commit byte (Table 14.5). -/
def State.tearCopy (s : State) : State :=
  match s.rs.cur with
  | none => s
  | some e =>
    let t := s.recTarget e.region e.record e.dflt e.data
    let done := copyNs s.rs.band e.data.length / 1000 - (s.rs.curEnd - s.now)
    let words := (done * 1000 - 500) / wordNs s.rs.band
    { s with rs.cells := s.rs.cells.writeBytes t.1 (t.2.take (min (2 * words) (t.2.length - 1))), rs.cur := none }

/-- The controller works: after recall, until the next reset of the main domain. -/
def State.storeOn (s : State) : Bool :=
  s.pw.vsup && !s.pw.latch && (match s.mn.phase with
  | .applying => true
  | .run => true
  | _ => false)

/-- One entry of `Q-REC` is taken into the write list; a poisoned one is repeated in a later period (R42, R383). -/
def State.takeRec (s : State) : State :=
  match s.rs.queue with
  | [] => s
  | e :: l =>
    let s1 := State.refillRec { s with rs.queue := l }
    if e.bad then
      State.poisonEvent { s1 with rs.again := s1.rs.again ++ [{ e with bad := false }] } prRec 4
    else
      let w := s1.rs.wlist ++ [e.val]
      State.startCopy { s1 with rs.wlist := w, rs.listHigh := max s1.rs.listHigh w.length }

/-- Every entry is taken, as at a Changeover, up to the 128 that the list holds. -/
def State.takeRecs (s : State) : Nat → State
  | 0 => s
  | n + 1 => if s.rs.queue.isEmpty || 128 ≤ s.rs.wlist.length then s else State.takeRecs s.takeRec n

/-- REC_ENTRY_TAKE: an entry enters the write list while it holds fewer than 64 (R383); a read of an empty `Q-REC` is an underrun
(R43). Between tc and t0 the drain alone reads (R29). -/
def execRecEntryTake (s : State) : Out :=
  if !s.storeOn || s.pastTc then .next s
  else if s.rs.queue.isEmpty then .next (s.underrunBy prRec 4)
  else if s.rs.wlist.length < 64 then .next s.takeRec
  else .next s

/-- REC_COPY_DONE: the copy under way ends with its commit byte and the next entry starts (R382, R384). -/
def execRecCopyDone (s : State) : Out :=
  if s.rs.cur.isSome && s.storeOn then .next ((s.advTo s.rs.curEnd).endCopy.startCopy) else .next s

/-! ### Counters (R392) -/

/-- Record writes under way or waiting, in the order of their execution. -/
def State.pendRecs (s : State) : List RecEntry :=
  s.rs.cur.toList ++ s.rs.wlist ++ s.rs.queue.map (·.val) ++ s.rs.waiting.map (·.val) ++ s.rs.again.map (·.val)

/-- The latest value of a counter: of the writes under way or waiting, else of the store. -/
def State.counterNow (s : State) (k : Nat) : Nat :=
  let isK (e : RecEntry) : Bool := e.region == 6 && e.record == k
  match (s.pendRecs.filter isK).getLast? with
  | some e => leNat e.data
  | none => leNat (s.recData 6 k)

/-- A counter is incremented: one record write. -/
def State.count (s : State) (k : Nat) : State :=
  s.postRec 0 { region := 6, record := k, data := leBytes 4 ((s.counterNow k + 1) % 2 ^ 32) }

/-- Seconds of `VSUP` towards the next hour. -/
def State.vsupSec (s : State) : Nat := s.rs.hot.vsupSec + (s.now - s.rs.vsupFrom) / 1000000

/-- Seconds of Mainline towards the next hour. -/
def State.mainSec (s : State) : Nat :=
  s.rs.hot.mainSec + (match s.rs.mainFrom with
  | none => 0
  | some t => (s.now - t) / 1000000)

/-- COUNTER_HOUR: 3,600 s with `VSUP` valid, or in Mainline, have passed (R392). -/
def execCounterHour (main : Bool) (s : State) : Out :=
  if s.mn.phase != .run then .next s
  else if !main then
    let due := s.rs.vsupFrom + (3600 - s.rs.hot.vsupSec) * 1000000
    .next (State.count { s.advTo due with rs.hot.vsupSec := 0, rs.vsupFrom := due } 4)
  else match s.rs.mainFrom with
  | none => .next s
  | some t =>
    let due := t + (3600 - s.rs.hot.mainSec) * 1000000
    .next (State.count { s.advTo due with rs.hot.mainSec := 0, rs.mainFrom := some due } 5)

/-! ### Hot values (R394) -/

/-- The hot-value record (Table 14.9). -/
def State.hotBytes (s : State) (saved : Bool) : List Byte :=
  let h := s.rs.hot
  let w (l : List Nat) : List Byte := l.flatMap (leBytes 4)
  padTo 4096 (leBytes 2 1 ++ [by8 (b2n saved), 0#8, 0#8, 0#8, 0#8, 0#8] ++ leBytes 4 (min 3599 s.vsupSec) ++ leBytes 4 (min 3599 s.mainSec) ++
    w h.strokes ++ w h.vfails ++ w h.fanRun ++ w h.fanStalls ++ w h.occS)

/-- The hot values of a record's content. -/
def hotOf (d : List Byte) : Hot :=
  let w (off n : Nat) : List Nat := (List.range n).map fun k => leAt d (off + 4 * k) 4
  { saved := bitOf (leAt d 2 1) 0, vsupSec := leAt d 8 4, mainSec := leAt d 12 4, strokes := w 16 24, vfails := w 112 24,
    fanRun := w 208 12, fanStalls := w 256 12, occS := w 304 32 }

/-! ### Power-fail save (R395) -/

/-- Entries written one after another while each copy ends by `limit` (µs of model time), in list order (R395); answers the number left. -/
def State.saveList (s : State) (limit : Nat) : Nat → State × Nat
  | 0 => (s, s.rs.wlist.length)
  | n + 1 =>
    match s.rs.wlist with
    | [] => (s, 0)
    | e :: l =>
      let us := cdiv (copyNs s.rs.band (s.entryData e).length) 1000
      if s.now + us > limit then (s, l.length + 1)
      else
        let s1 := { s with rs.wlist := l, rs.cur := some { e with data := s.entryData e, whole := true }, rs.curEnd := s.now + us }
        State.saveList (s1.advTo s1.rs.curEnd).endCopy limit n

/-- Record 38 of region 0: saves completed, `SAVE_LAST_US`, entries not written. -/
def saveLog (count us left : Nat) : List Byte := leBytes 4 count ++ leBytes 2 us ++ leBytes 2 left

/-! ### Passwords (R396, R397) -/

/-- The password of a region: 0 none. -/
def State.regionPw (s : State) (r : Nat) (write : Bool) : Nat := leAt (s.recData 0 (6 + r)) (if write then 8 else 0) 8

/-- The region may be read by command. -/
def State.recReadable (s : State) (r : Nat) : Bool := s.regionPw r false == 0 || bitOf s.rs.unlockR r

/-- The region may be written by command. -/
def State.recWritable (s : State) (r : Nat) : Bool := s.regionPw r true == 0 || bitOf s.rs.unlockW r

/-- `LOCKS` of a region (Table 5.8). -/
def State.locks (s : State) (r : Nat) : Nat :=
  b2n (s.regionPw r false != 0) + 2 * b2n (s.regionPw r true != 0) + 4 * b2n (bitOf s.rs.unlockR r) +
    8 * b2n (bitOf s.rs.unlockW r) + 16 * b2n (s.attempts r == 0)

/-- A wrong password: counted and logged, and the eighth locks the region out. -/
def State.wrongPw (s : State) (r : Nat) (write : Bool) : State :=
  let s1 := { s with rs.wrong := lmod s.rs.wrong r (· + 1) }
  let s2 := s1.sbEvent evRecPwWrong r (b2n write * 256 + s1.attempts r)
  if s1.attempts r == 0 then s2.sbEvent evRecLockout r 0 else s2

/-- The service password (record 2 of region 0). -/
def State.svcPw (s : State) : Nat := leNat (s.recData 0 2)

/-- A wrong service password (R79). -/
def State.wrongSvc (s : State) : State :=
  let s1 := { s with mn.svcWrong := min 8 (s.mn.svcWrong + 1) }
  s1.sbEvent evSvcPwWrong 0 s1.svcAttempts

/-! ### Command writes -/

/-- A write whose request is answered when it is done; `part` bytes applied of a longer group, or 0 (R110). -/
def State.waitRec (s : State) (h : ReqHdr) (e : RecEntry) (part : Nat) : State :=
  let n := s.rs.nextTag
  let s1 := State.postRec { s with rs.nextTag := n + 1 } 0 { e with tag := n }
  { s1 with host.waiting := s1.host.waiting ++ [{ hdr := h, kind := .record n part }] }

/-- A command write of R383, which runs ahead of the device's own, and its answer. -/
def State.waitCmdRec (s : State) (h : ReqHdr) (e : RecEntry) : State := s.waitRec h { e with cmd := true } 0

/-! ### Recall (R386–R389) -/

/-- `REC_LEN` of a user region as the store holds it. -/
def State.storedRecLen (s : State) (r : Nat) : Nat :=
  let o := objId 0x0E r 0x020
  match region1Objs.findIdx? fun p => p.1 == o with
  | none => 60
  | some k =>
    let sel := judgeRecord s.rs.cells (recAddr (recLens (fun _ => 60) 1) 1 k) cfgLen []
    let v := leAt sel.data 8 4 % 2 ^ 16
    if sel.isDefault || leAt sel.data 4 2 == 0 || !Fd.recCfg.REC_LEN.accepts v then 60 else v

/-- Recall of one record; one whose `VALID` [3] is set is at default (R386, Table 14.11). -/
def State.recallOne (lens : List Nat) (r : Nat) (s : State) (k : Nat) : State :=
  let n := lens.getD k 0
  let sel := judgeRecord s.rs.cells (recAddr lens r k) n []
  let s1 := if sel.dup then
      State.raise { s with rs.dups := s.rs.dups ++ [(r, k)] } prRec evRecDupSeq r (k * 65536 + sel.seq % 65536)
    else s
  let s2 := if bitOf sel.valid 3 then { s1 with rs.defaults := lmod s1.rs.defaults r fun x => sat 16 (x + 1) } else s1
  if sel.v1 then
    { s2 with rs.migrated := lmod s2.rs.migrated r fun x => sat 16 (x + 1),
              rs.toMigrate := s2.rs.toMigrate ++ [{ region := r, record := k, data := convertV1 r k sel.data }] }
  else s2

/-- Recall of one region. -/
def State.recallRegion (s : State) (r : Nat) : State :=
  let l := recLens s.storedRecLen r
  (List.range l.length).foldl (State.recallOne l r) s

/-- The store log goes on behind the highest number recalled (R393). -/
def State.recallLog (s : State) : State :=
  let l := (List.range 153).filterMap fun k =>
    let sel := s.recSel 5 k
    if sel.valid ≥ 8 then none else some (leAt sel.data 4 4, k)
  match l with
  | [] => { s with rs.logNum := 1, rs.logRec := 0 }
  | a :: r =>
    let m := r.foldl (fun (b : Nat × Nat) x => if b.1 < x.1 then x else b) a
    { s with rs.logNum := (m.1 + 1) % 2 ^ 32, rs.logRec := (m.2 + 1) % 153 }

/-- Both copies of every record are read and judged in `us` µs (R386–R389). -/
def State.recallAll (s : State) (us : Nat) : State :=
  let s0 := { s with rs.dups := [], rs.defaults := List.replicate 32 0, rs.migrated := List.replicate 32 0, rs.toMigrate := [] }
  let s1 := ((List.range 8) ++ (List.range 16).map (16 + ·)).foldl State.recallRegion s0
  let s2 := { s1 with rs.recallUs := sat 16 us, mn.phase := .applying }
  let migrated := s2.rs.migrated.sum
  let s3 := if migrated != 0 then s2.raise prRec evRecMigrated 0 migrated else s2
  s3.raise prRec evRecRecallDone 0 (s3.rs.defaults.sum % 65536 * 65536 + s3.rs.recallUs)

end Sys2Proof.Machine
end

