-- ==== Sys2Proof/Machine/Guard.lean ====
section
/-!
DEFINITION. Sys2Proof/Machine/Guard.lean: the Guard island (chapter 15): its configuration from region 7 (R407), taking and
handing back guard zones (R405, R406), the override lines (R414, R294), guard inputs (R410–R412), the basic function (R413),
its reports (R408) and its resets (R409).
-/
namespace Sys2Proof.Machine
open Sys2Proof

def gdObj (inst g : Nat) : Nat := objId 0x10 inst g
def State.gz (s : State) (z : Nat) : GZone := s.gd.zones.getD z {}
def State.modGz (s : State) (z : Nat) (f : GZone → GZone) : State := { s with gd.zones := lmod s.gd.zones z f }

/-- A field of the configuration that Guard has applied to a guard zone. -/
def GZone.cf (g : GZone) (f : Fld) : Nat := bits (g.cfg.getD f.word 0) f.hi f.lo
def GZone.enabled (g : GZone) : Bool := g.cf Fd.gzConf.G_ENABLE == 1

/-- Guard works: it is ready and not in reset. -/
def State.guardOn (s : State) : Bool := s.vsupOk && s.gd.ready && s.gd.inReset.isNone && !s.pw.guardLost

/-- Guard zones carried, one bit each. -/
def State.carriedMask (s : State) : Nat := maskOf 8 fun z => (s.gz z).carried

/-- `GUARD_HOLD` follows; each change sets `DB_MODE` (Table 4.3). -/
def State.holdNote (s : State) : State :=
  let hold := s.carriedMask != 0
  if hold == s.host.holdSeen then s else State.ring { s with host.holdSeen := hold } 0x800

/-! ### Stages of a guard zone (R413, Table 15.2) -/

/-- The stage of a slot. -/
def GZone.stage (g : GZone) (k : Nat) : Option Stage :=
  Stage.of (g.cf (Fd.gzConf.S_CLASS0.at_ k)) (g.cf (Fd.gzConf.S_INST0.at_ k))

/-- A stage of a guard zone: named in a slot of an enabled guard zone (R79). -/
def State.guardStage (s : State) (st : Stage) : Bool :=
  (List.range 8).any fun z => (s.gz z).enabled && (List.range 3).any fun k => (s.gz z).stage k == some st

/-- `SB` sends every stage outside a guard zone to its safe value; the guard zones stay with Guard (R79, R417). -/
def State.safeOutside (s : State) : State :=
  allStages.foldl (fun (t : State) st => if t.guardStage st then t else t.sendSafe st) s

/-- The value of a slot in %, none for the stage's safe value. -/
def GZone.value (g : GZone) (k : Nat) : Option Nat :=
  let pick (f : Fld) : Option Nat := let v := g.cf (f.at_ k); if v == 0xFF then none else some v
  if g.bad then (if g.cf Fd.gzConf.FAIL_ACT == 1 then pick Fd.gzConf.S_FROST0 else none)
  else if g.frost then pick Fd.gzConf.S_FROST0
  else if g.purge then pick Fd.gzConf.S_PURGE0
  else none

/-! ### Override lines (R19, R414, R294) -/

/-- The line of a fan drives its stage full on, with or without `DE`. -/
def State.lineDrive (s : State) (n : Nat) : State :=
  if !s.lineFed then s
  else
    let s1 := s.modFan n fun y =>
      if y.onAt.isSome then y else { y with onAt := some s.now, ivAt := s.now, periods := 0, periodSum := 0, edgeSeen := false }
    let s2 := s1.fanPulse n none
    (if s.deOn then s2.setDuty n fOne else s2.modFan n fun y => { y with d := fOne }).fanResults n false

/-- An override line forces a fan stage full on, whatever `DE` holds of the fan's configuration (R414). -/
def State.lineOn (s : State) (n : Nat) : State :=
  if (s.fan n).line || s.th.bufStop.isSome then s
  else
    let s1 := s.modFan n fun y =>
      { y with line := true, target := s.fanMax n, clamped := false, kick := false, stretch := none, excess := 0,
               waitLeft := if y.st == .stall then some (y.waitEnd - s.now) else none }
    let s2 := { s1 with act.fanWait := s1.act.fanWait.filter (· != n) }
    if s2.lineFed then s2.lineDrive n else s2.fanResults n false

/-- A fan whose stage the line held on runs on with its latest command: no kick and no spin-up, the loop closing without a bump
(R294). `TACH_LOST` waits for its speed sample, `OPEN_LOAD` for its current (Table 10.4). -/
def State.runOn (s : State) (n : Nat) (w : F32 × Bool × Bool) : State :=
  let ref (y : Fan) : F32 := if s.ppr n == 0 then s.fanMax n else y.startRef
  let s1 := s.modFan n fun y =>
    let st : FSt := if y.st == .openLoad || y.st == .tachLost then y.st else .running
    { y with st := st, target := w.1, clamped := w.2.1, nRef := ref y, loopOpen := true,
             loopAt := s.now, lfAt := s.now, runSince := if st == .running then some s.now else none, steadySince := if s.ppr n == 0 then some s.now else none,
             slowSince := some s.now }
  s1.fanResults n false

/-- An override line is released: the fan's latest command is executed as a new command; a wait or a latch in force stays (R294). -/
def State.lineOff (s : State) (n : Nat) : State :=
  let x := s.fan n
  if !x.line then s
  else
    let s1 := s.modFan n fun y =>
      { y with line := false, capF := s.fanF n, waitLeft := none,
               waitEnd := (match y.waitLeft with | some l => s.now + l | none => y.waitEnd) }
    if !s1.deOn || !s1.powered then (s1.fanOff n x.heldSt).modFan n fun y => { y with awaitCmd := true }
    else
      let w := s1.fanWant n
      let waits := (x.heldSt != .off && x.heldSt != .fault) || s1.fanDrive n == 0
      if waits || x.onAt.isNone || fEq w.1 fZero then (s1.fanOff n x.heldSt).fanRetarget n true
      else if x.faultL then
        let s2 := (s1.modFan n fun y => { y with st := .fault, target := w.1, clamped := w.2.1 }).setDuty n x.dHeld
        (if s2.fanDrive n == 2 then s2.lfStart n else s2).fanResults n false
      else s1.runOn n w

/-! ### Take and handback (R405, R406) -/

/-- Guard sends the item of each slot whose value has changed, or of every slot, and drives the override lines. -/
def State.sendTakes (s : State) (z : Nat) (all : Bool) : State :=
  (List.range 3).foldl (fun t k =>
    let g := t.gz z
    match g.stage k with
    | none => t
    | some st =>
      let v := g.value k
      if !all && g.sent.getD k none == some v then t
      else
        let t1 := (t.modGz z fun x => { x with sent := lset x.sent k (some v) }).postCmd 0 { stage := st, act := .take v }
        (match st with
         | .fan n => if v == some 100 then t1.lineOn n.val else t1.lineOff n.val
         | _ => t1)) s

/-- The value that Guard has last sent for a stage. -/
def State.sentFor (s : State) (st : Stage) : Option (Option Nat) :=
  ((List.range 8).flatMap fun z => (List.range 3).map fun k => (z, k)).findSome? fun p =>
    if (s.gz p.1).carried && (s.gz p.1).stage p.2 == some st then (s.gz p.1).sent.getD p.2 none else none

/-- A configuration that gives a stage its use comes into force after Guard has taken it: `DE` executes the take's value under it (R405). -/
def State.retake (s : State) (st : Stage) : State :=
  if !s.deOn || !s.guardHas st then s
  else match s.sentFor st with
  | none => s
  | some v => s.stageCmd st (s.takeValue st v) true

/-- Guard sends the release item of each stage it had taken, and releases the lines. -/
def State.sendReleases (s : State) (z : Nat) : State :=
  (List.range 3).foldl (fun t k =>
    match (t.gz z).stage k with
    | none => t
    | some st =>
      let t1 := (t.modGz z fun x => { x with sent := lset x.sent k none }).postCmd 0 { stage := st, act := .release }
      (match st with
       | .fan n => t1.lineOff n.val
       | _ => t1)) s

/-- The zones that a take reaches. -/
def State.toTake (s : State) : List Nat := (List.range 8).filter fun z => (s.gz z).enabled && !(s.gz z).carried

/-- Guard takes the guard zones of a list: causes 1 hold, 2 expiry, 3 `CORE` lost. -/
def State.takeZones (s : State) (l : List Nat) (cause : Nat) : State :=
  if l.isEmpty || s.th.bufStop.isSome then s
  else
    let s1 := l.foldl (fun t z => (t.modGz z fun x => { x with carried := true, repAt := t.now }).sendTakes z true) s
    let s2 := { s1 with gd.takeovers := sat 16 (s1.gd.takeovers + 1) }
    (s2.raise prGD evGuardTake 0 (cause * 256 + s2.carriedMask)).holdNote

/-- Guard takes every enabled guard zone that it does not carry. -/
def State.guardTake (s : State) (cause : Nat) : State := s.takeZones s.toTake cause

/-- Guard judges the heartbeat: it works, and no take items of a reset are still to be sent (R409). -/
def State.guardJudges (s : State) : Bool := s.guardOn && !s.gd.zones.any (·.mustTake)

/-- The loss of `CORE` acts as expiry at once, where Guard can act on it (R404, R409). -/
def State.coreTake (s : State) : State := if s.pw.coreLost && s.guardJudges then s.guardTake 3 else s

/-- Guard hands every carried guard zone back. -/
def State.handback (s : State) : State :=
  let before := s.carriedMask
  if before == 0 then s
  else
    let s1 := (List.range 8).foldl (fun t z =>
      if (t.gz z).carried then (t.sendReleases z).modGz z fun x => { x with carried := false, repAt := t.now } else t) s
    (s1.raise prGD evGuardHandback 0 before).holdNote

/-! ### Configuration (R407, R429) -/

/-- The profile as Guard knows it before the main domain has started: the strap, else the stored setting (R4, R429). -/
def State.profNow (s : State) : Bool := s.st.profL || bitOf (leAt (s.recData 0 1) 0 1) 0

/-- Guard writes a threshold code; the comparator accepts only a lower one, and none while Profile L is active. -/
def State.critCode (s : State) (code : Nat) : State :=
  let prof := if s.mn.phase == .held then s.profNow else s.mn.profActive
  if code ≥ 8 || prof then s else { s with act.critC := min s.act.critC (70 + 10 * code) }

/-- Guard zones are due to be carried: its judgement is hold or expired, or `CORE` is lost. -/
def State.guardHolds (s : State) : Bool := s.gd.hb != 1 || s.pw.coreLost

/-- A guard zone takes the words of its record. -/
def GZone.configured (g : GZone) (d : List Byte) : GZone :=
  { g with cfg := (List.range 8).map fun w => leAt d (4 * w) 4, badRun := 0, goodRun := 0 }

/-- One record of region 7 is applied: `zone` is what a guard zone's record does. -/
def State.applyWith (zone : State → Nat → List Byte → State) (s : State) (r : Nat × Nat × List Byte) : State :=
  let k := r.1
  let d := r.2.2
  let s1 : State :=
    if k == 0 then { s with gd.hbTmo := leAt d 2 2 }
    else if k == 9 then State.critCode { s with gd.crit := leAt d 0 4 } (bits (leAt d 0 4) 31 28)
    else zone s (k - 1) d
  let s4 := { s1 with gd.seqs := lset s1.gd.seqs k r.2.1 }
  s4.raise prGD evGuardCfgApplied (if k ≥ 1 && k ≤ 8 then k - 1 else 0) (k * 65536 + r.2.1 % 65536)

/-- A guard zone's record is applied; a record at default disables its guard zone. -/
def State.applyGz (s : State) (z : Nat) (d : List Byte) : State :=
  let s2 := if (s.gz z).carried then s.sendReleases z else s
  let s3 := s2.modGz z fun x => x.configured d
  let on := (s3.gz z).enabled
  if (s3.gz z).carried && on then s3.sendTakes z true
  else if (s3.gz z).carried then (s3.modGz z fun x => { x with carried := false }).holdNote
  else if on && s3.guardHolds && s3.gd.ready then s3.guardTake 1
  else s3

/-- One record of region 7 is applied. -/
def State.applyGuard (s : State) (r : Nat × Nat × List Byte) : State := s.applyWith State.applyGz r

/-- A guard zone's record as Guard rereads it after a reset: nothing is sent yet, and what it had taken is owed its release (R409). -/
def State.rereadZone (s : State) (z : Nat) (d : List Byte) : State :=
  let g := s.gz z
  let old := if g.carried then (List.range 3).filterMap g.stage else []
  s.modGz z fun x => { x.configured d with owed := x.owed ++ old }

/-- Guard's own read of region 7: the records whose newer valid copy it has not applied; a copy of version 1 is none to it (R407). -/
def State.guardNews (s : State) : List (Nat × Nat × List Byte) :=
  (List.range 10).filterMap fun k =>
    let n := guardLens.getD k 0
    let sel := judgeNew s.rs.cells (recAddr guardLens 7 k) n (recDefault 7 k n)
    if sel.seq == s.gd.seqs.getD k 0 then none else some (k, sel.seq, padTo n sel.data)

/-- GUARD_CFG_READ: once per second Guard reads region 7; a newer copy is applied at its next sample, and at once while
no guard zone samples (R407). -/
def execGuardCfgRead (s : State) : Out :=
  if !s.guardOn then .next s
  else
    let s1 := s.advTo (s.gd.readAt + 1000000)
    let s2 := { s1 with gd.readAt := s1.now, gd.toApply := s1.guardNews }
    if s2.gd.zones.any GZone.enabled then .next s2
    else .next (s2.gd.toApply.foldl State.applyGuard { s2 with gd.toApply := [] })

/-- GUARD_RELEASE: the `GUARD` clock is stable and both cores are released in lockstep (Table 3.3). -/
def execGuardRelease (s : State) : Out :=
  if s.vsupOk && !s.gd.released then .next { s with gd.released := true } else .next s

/-- GUARD_READY: Guard has read region 7, writes the threshold code and carries the enabled guard zones (Table 3.3, R407). -/
def execGuardReady (s : State) : Out :=
  if !s.vsupOk || !s.gd.released || s.gd.ready || s.gd.inReset.isSome || s.pw.guardLost then .next s
  else
    let s1 := s.guardNews.foldl State.applyGuard { s with gd.readAt := s.now, gd.watchFrom := s.now }
    .next (State.guardTake { s1 with gd.ready := true, gd.biasOn := true } 1)

/-! ### Resets of the island (R17, R20, R409, R416) -/

/-- The island enters reset with the cause that `GUARD_RESET` will carry. -/
def State.islandReset (s : State) (cause : Nat) : State :=
  if !s.vsupOk || s.gd.inReset.isSome then s
  else { s with gd.inReset := some cause, gd.ready := false, gd.resets := sat 16 (s.gd.resets + 1),
                gd.unavailAt := s.gd.unavailAt.or (some s.now), gd.holdRun := 0, gd.ctlRun := 0 }

/-- GUARD_LOCKSTEP_MISMATCH: the two cores disagree (R17). -/
def execGuardLockstepMismatch (s : State) : Out :=
  if s.gd.released then .next (s.islandReset 1) else .next s

/-- A guard zone after a reset of the island: a carried one is sampled, and its take items go out again (R409). -/
def GZone.again (g : GZone) : GZone := { g with mustTake := g.carried && g.enabled, sampleAt := none }

/-- A stage that a carried guard zone names. -/
def State.guardNames (s : State) (st : Stage) : Bool :=
  (List.range 8).any fun z => (s.gz z).carried && (s.gz z).enabled && (List.range 3).any fun k => (s.gz z).stage k == some st

/-- The release of a stage, with its override line. -/
def State.releaseStage (s : State) (st : Stage) : State :=
  let s1 := s.postCmd 0 { stage := st, act := .release }
  match st with
  | .fan n => s1.lineOff n.val
  | _ => s1

/-- A guard zone that owes no release any more; one that is not enabled is carried no longer. -/
def GZone.paid (g : GZone) : GZone :=
  let gone := g.carried && !g.enabled
  { g with owed := [], carried := g.carried && g.enabled, sent := if gone then List.replicate 3 none else g.sent }

/-- When no take items of a reset are still to be sent, Guard releases what the reread configuration no longer names (R409). -/
def State.afterTakes (s : State) : State :=
  if s.gd.zones.any (·.mustTake) then s
  else
    let gone := (s.gd.zones.flatMap (·.owed)).filter fun st => !s.guardNames st
    let s1 := gone.foldl State.releaseStage s
    State.holdNote { s1 with gd.zones := s1.gd.zones.map GZone.paid }

/-- GUARD_RESET: the island returns: it rereads region 7; its take items go out again once each input has been sampled (R409). -/
def execGuardReset (s : State) : Out :=
  match s.gd.inReset with
  | none => .next s
  | some cause =>
    if s.pw.guardLost || !s.vsupOk then .next s
    else
      let lost := match s.gd.unavailAt with | some t => s.now - t | none => 0
      let s1 := { s with gd.inReset := none, gd.ready := true, gd.unavailAt := none, gd.unavailUs := s.gd.unavailUs + lost,
                         gd.toggleAt := none, gd.watchFrom := s.now }
      let s2 := s1.guardNews.foldl (State.applyWith State.rereadZone) { s1 with gd.readAt := s.now, gd.toApply := [] }
      let s3 := { s2 with gd.zones := s2.gd.zones.map GZone.again }
      .next (s3.afterTakes.raise prGD evGuardReset 0 cause)

/-! ### Guard inputs and the basic function (R412, R413) -/

/-- T in 0.1 °C as an event carries it. -/
def deciArg (w : Nat) (t : F32) : Nat := unsgn w (fRoundScaled 10 t)

/-- Temperature bands: the boundaries of Table 15.6, in °C. -/
def bandEdges : List Int := [-20, 45, 85, 115]

/-- The band of a temperature: upwards at a boundary, downwards 3 °C below it (R423). -/
def nextBand (band : Nat) (t : F32) : Nat :=
  let up := (bandEdges.filter fun b => fLe (fOfInt b) t).length
  let down := (bandEdges.filter fun b => fLt (fOfInt (b - 3)) t).length
  if up > band then up else if down < band then down else band

/-- Guard's sampling interval in µs (Table 15.6). -/
def guardInterval (band : Nat) : Nat := [100000, 250000, 100000, 50000, 20000].getD band 250000

/-- T of a guard input from V; none when the sample is invalid (R412). -/
def GZone.temp (g : GZone) (v : F32) : Option F32 :=
  let hi16 := g.cf Fd.gzConf.R25
  let lo16 := g.cf Fd.gzConf.B
  let mv (n : Int) : F32 := fOfRat n 1000
  if g.cf Fd.gzConf.G_BIAS == 0 then
    let lo := fOfRat (sgn 16 hi16) 10
    let hi := fOfRat (sgn 16 lo16) 10
    let t := fAdd lo (fMul (fDiv v (mv 2500)) (fSub hi lo))
    if fLe (mv 10) v && fLe v (mv 2490) then some t else none
  else
    let i := if g.cf Fd.gzConf.G_BIAS == 1 then fOfRat 20 1000000 else fOfRat 100 1000000
    let r := fDiv v i
    let k := fAdd (fDiv fOne (fOfRat 29815 100)) (fDiv (fLn (fDiv r (fOfNat (10 * hi16)))) (fOfNat lo16))
    let t := fSub (fDiv fOne k) (fOfRat 27315 100)
    if fLe (mv 10) v && fLe v (mv 2450) && fLe (fOfInt (-40)) t && fLe t (fOfInt 120) then some t else none

/-- `GUARD_TEMP`. -/
def State.guardTemp (s : State) (z : Nat) : State :=
  let g := s.gz z
  (s.modGz z fun x => { x with repAt := s.now }).raise prGD evGuardTemp z (if g.bad then 0x8000 else deciArg 16 g.t)

/-- The frost and purge states of a guard zone follow T (R413). -/
def State.guardStates (s : State) (z : Nat) (t : F32) : State :=
  let g := s.gz z
  let fr := wd (g.cfg.getD 1 0)
  let pu := wd (g.cfg.getD 2 0)
  let fh := fOfRat (g.cf Fd.gzConf.FROST_HYST : Nat) 10
  let ph := fOfRat (g.cf Fd.gzConf.PURGE_HYST : Nat) 10
  let frost := if fLe t fr then true else if fLe (fAdd fr fh) t then false else g.frost
  let purge := if fLe pu t then true else if fLe t (fSub pu ph) then false else g.purge
  let s1 := s.modGz z fun x => { x with frost := frost, purge := purge }
  let s2 := if frost && !g.frost then s1.raise prGD evGuardFrost z (deciArg 32 t)
    else if !frost && g.frost then s1.raise prGD evGuardStateEnd z 0x100 else s1
  if purge && !g.purge then s2.raise prGD evGuardPurge z (deciArg 32 t)
  else if !purge && g.purge then s2.raise prGD evGuardStateEnd z 0x200 else s2

/-- One sample of a guard input: V and, when valid, T (R412). -/
def State.guardJudge (s : State) (z : Nat) (v : F32) : State :=
  let g := s.gz z
  match g.temp v with
  | none =>
    let run := min 3 (g.badRun + 1)
    let s1 := s.modGz z fun x => { x with badRun := run, goodRun := 0, bad := x.bad || run ≥ 3 }
    if run ≥ 3 && !g.bad then s1.raise prGD evGuardInputBad z (fNatScaled 1000 v) else s1
  | some t =>
    let run := min 3 (g.goodRun + 1)
    let back := g.bad && run ≥ 3
    let s1 := s.modGz z fun x => { x with badRun := 0, goodRun := run, bad := x.bad && !back, t := t }
    let s2 := if back then s1.raise prGD evGuardInputGood z (deciArg 32 t) else s1
    s2.guardStates z t

/-- An enabled guard zone that Guard could not take during a reset of the island is taken at its sample, where Guard's judgement or the
loss of `CORE` asks for it (R404, R409). -/
def State.lateTake (s : State) (z : Nat) : State :=
  if s.guardHolds && s.guardJudges && (s.gz z).enabled && !(s.gz z).carried then s.takeZones [z] (if s.pw.coreLost then 3 else 1) else s

/-- GUARD_SAMPLE: Guard converts a guard input 16 times (mean in µV) and its own die sensors 0 and 8 (in m°C), applies a
configuration it has read, and acts (R407, R412, R413). -/
def execGuardSample (z : Fin 8) (uv : Fin 2500001) (t0 t8 : Int) (s : State) : Out :=
  if !s.guardOn then .next s
  else
    let s0 := if s.gd.zones.any (·.mustTake) then s else s.gd.toApply.foldl State.applyGuard { s with gd.toApply := [] }
    if !(s0.gz z.val).enabled then .next s0
    else
      let due := match (s0.gz z.val).sampleAt with | some t => t + guardInterval s0.gd.band | none => s0.now
      let s1 := s0.advTo due
      let a := fOfRat t0 1000
      let b := fOfRat t8 1000
      let s2 := { s1 with gd.t0 := a, gd.t8 := b, gd.band := nextBand s1.gd.band (fMax a b) }
      let s3 := s2.modGz z.val fun x => { x with sampleAt := some s2.now }
      let old := s3.gz z.val
      let s4 := s3.guardJudge z.val (fOfRat (uv.val : Int) 1000000)
      let g := s4.gz z.val
      let same := g.bad == old.bad && g.frost == old.frost && g.purge == old.purge
      let s5 := if g.mustTake then (s4.modGz z.val fun x => { x with mustTake := false }).sendTakes z.val true
        else if same then s4
        else if g.carried then s4.sendTakes z.val false
        else s4
      let s6 := if same then s5 else s5.guardTemp z.val
      .next ((if g.mustTake then s6.afterTakes else s6).lateTake z.val)

/-- GUARD_TEMP_REPORT: every 60 s for a carried guard zone, every 600 s for another (R408). -/
def execGuardTempReport (z : Fin 8) (s : State) : Out :=
  let g := s.gz z.val
  if !s.guardOn || !g.enabled then .next s
  else .next ((s.advTo (g.repAt + (if g.carried then 60000000 else 600000000))).guardTemp z.val)

/-- `SB` takes a report of Guard and builds the status groups from it (R408). A configuration that disables a guard zone ends its carrying
without an event of its own, which `SB` concludes from `GUARD_CFG_APPLIED` (log 67). -/
def State.guardReport (s : State) (code inst arg : Nat) : State :=
  if code == evGuardTemp then
    s.modGz inst fun x => { x with repT := if arg % 65536 == 0x8000 then fNaN else fOfRat (sgn 16 (arg % 65536)) 10 }
  else if code == evGuardInputBad then s.modGz inst fun x => { x with repV := fOfRat (arg : Int) 1000, repBad := true }
  else if code == evGuardInputGood then s.modGz inst fun x => { x with repBad := false }
  else if code == evGuardFrost then s.modGz inst fun x => { x with repFrost := true }
  else if code == evGuardPurge then s.modGz inst fun x => { x with repPurge := true }
  else if code == evGuardStateEnd then
    s.modGz inst fun x => { x with repFrost := x.repFrost && arg / 256 != 1, repPurge := x.repPurge && arg / 256 != 2 }
  else if code == evGuardTake then { s with gd.repCarried := arg % 256, gd.repTakes := sat 16 (s.gd.repTakes + 1) }
  else if code == evGuardHandback then { s with gd.repCarried := 0 }
  else if code == evGuardReset then { s with gd.repResets := sat 16 (s.gd.repResets + 1) }
  else if code == evGuardCfgApplied && 1 ≤ arg / 65536 && arg / 65536 ≤ 8 && !s.cfb (gdObj (inst + 1) 0x020) Fd.gzConf.G_ENABLE then
    { s with gd.repCarried := putBit s.gd.repCarried inst false }
  else s

/-! ### Heartbeat (R404) -/

/-- The pattern that `SB` sends (Table 15.1). -/
def State.sbBeat (s : State) : Beat :=
  if !s.vsupOk || s.pw.coreLost || s.pw.rstLow then .none
  else match s.mn.phase with
  | .off => .none
  | .held => .none
  | .run =>
    if (s.mn.mode == .platform || s.mn.mode == .mainline) && s.gd.ctlDue && s.per.emptyAt.isNone && !s.mn.standby then .control
    else .hold
  | _ => .hold

/-- Guard judges the interval between two toggles. -/
def State.judgeBeat (s : State) (us : Nat) : State :=
  let hold := decide (2500 ≤ us) && decide (us ≤ 8000)
  let ctl := decide (500 ≤ us) && decide (us ≤ 2000)
  let h := if hold then min 2 (s.gd.holdRun + 1) else 0
  let c := if ctl then min 4 (s.gd.ctlRun + 1) else 0
  let s1 := { s with gd.holdRun := h, gd.ctlRun := c }
  if h == 2 then State.guardTake { s1 with gd.hb := 2 } 1
  else if c == 4 then State.handback { s1 with gd.hb := 1 }
  else s1

/-- The first hold toggle of the boot path: the boot ROM has not toggled since the main domain was reset. -/
def State.firstHold (s : State) : Bool := s.mn.phase != .run && s.mn.phase != .saving && s.gd.beat != .hold

/-- HB_TOGGLE: `SB` toggles the heartbeat, 1 ms after its last toggle in the control pattern and 4 ms after it in the hold
pattern; Guard judges the interval (R404). The boot ROM's first toggle comes at most 1.5 ms after the last of before, at a free moment
within that. -/
def execHbToggle (s : State) : Out :=
  match s.sbBeat with
  | .none => .next { s with gd.beat := .none }
  | b =>
    let gap := if b == .control then 1000 else if s.firstHold then Config.free s.freeCtr % 1501 else 4000
    let s0 := if s.firstHold then s.freeNext else s
    let s1 := match s.gd.toggleAt with | some t => s0.advTo (t + gap) | none => s0
    let s2 := { s1 with gd.toggleAt := some s1.now, gd.beat := b }
    match s.gd.toggleAt with
    | none => .next s2
    | some t => .next (if s.guardJudges then s2.judgeBeat (s1.now - t) else s2)

end Sys2Proof.Machine
end

