-- ==== Sys2Proof/Machine/Modes.lean ====
section
/-!
DEFINITION. Sys2Proof/Machine/Modes.lean: mode changes (R76, R80), the reset of the main domain and what survives it (R85,
R86, R122, R385), fault restarts and their limit (R89), Siding (R417), supplies and clocks (R20, R62–R64), memory errors
(R17), standby and wake (R82–R84, R336, R337).
-/
namespace Sys2Proof.Machine
open Sys2Proof

/-! ### Modes -/

/-- The mode changes; the time in Mainline is counted (Tables 3.7, 14.8); the raw check-value registers take their reset values at
entry to Depot (R55). -/
def State.setModeQuiet (s : State) (m : Mode) : State :=
  if s.mn.mode == m then s
  else
    let s1 := if s.mn.mode == .mainline then { s with rs.hot.mainSec := s.mainSec, rs.mainFrom := none } else s
    let from_ : Option Nat := if m == .mainline then some s.now else none
    { s1 with mn.lastMode := s.mn.mode, mn.mode := m, rs.mainFrom := from_, pr.st := if m == .mainline then 1 else s1.pr.st, crc := if m == .depot then {} else s1.crc }

/-- `SB` runs and logs. -/
def State.sbAlive (s : State) : Bool :=
  match s.mn.phase with
  | .off => false
  | .held => false
  | _ => true

/-- An event of the supply and clock monitors: `SB` logs it while it runs; while the main domain is held it waits in `Q-EVT`
for `SB`; without supply there is none (log 13). -/
def State.sbLog (s : State) (code inst arg : Nat) : State :=
  if s.sbAlive then s.sbEvent code inst arg
  else if s.mn.phase == .held then s.raise prPeri code inst arg
  else s

/-- A mode change with its doorbell and its event. -/
def State.setMode (s : State) (m : Mode) : State :=
  if s.mn.mode == m then s
  else ((s.setModeQuiet m).ring 0x800).sbLog evModeChanged 0 (s.mn.mode.code * 256 + m.code)

/-! ### The reset of the main domain (R85, R86, R122, R385) -/

/-- A preserved point when the main domain starts: `STALE` until its first accepted value, where its filter restarts (R172, R174). That is
neither published nor logged at that moment: the zones go on with the preserved entry until the point is past its staleness timeout
(R86; log 68). -/
def Point.quiet (x : Point) : Point :=
  { x with byStart := true, stat := .stale, cause := 6, restart := true, hist := [], rateRun := 0, failRun := 0, goodRun := 0, wasBad := false, pubAt := none,
           fresh := false, accPer := none }

/-- What the sensor side keeps through a reset: the point table, `DE`'s result table and the SAR pairs. -/
def Sense.quiet (x : Sense) : Sense := { ({} : Sense) with table := x.table, pts := x.pts.map Point.quiet, sar := x.sar }

/-- Zone and loop states are kept; no zone holds a plan (R88), and the next Δt is `PERIOD_MS` (R187). -/
def Zones.quiet (x : Zones) : Zones :=
  { ({} : Zones) with zn := x.zn.map fun z => { z with plan := none, planBad := false, planSp := fNaN, lastAt := none }, lp := x.lp }

/-- Models are kept, their remote neighbours' states removed (R238), and of the plan buffer what it serves for, the warm starts; no zone holds a plan (R86, R227, R234). -/
def Predict.quiet (x : Predict) : Predict :=
  { ({} : Predict) with nSteps := x.nSteps, nBlocks := x.nBlocks, hMs := x.hMs, warm := x.warm,
                           models := x.models.map fun m => { m with nbrs := List.replicate 4 {} } }

/-- `DE` holds its last commands; the main priorities of `Q-CMD` are lost, no request is left to be answered (R147), and no stroke
has been judged since the main domain started (R253). -/
def Act.quiet (x : Act) : Act :=
  { x with valves := x.valves.map fun v => { v with verdict := 0, strokeVerdict := 0 },
           qCmd := x.qCmd.take 1 ++ List.replicate 3 [], cmdWait := x.cmdWait.filter fun c => c.1 == 0,
           proves := (x.proves.filter (·.live)).map fun p => { p with answered := true } }

/-- Cells, hot values, wrong attempts and the time counted are kept; lists and counts are not (R385, R397). -/
def RecStore.quiet (x : RecStore) : RecStore :=
  { ({} : RecStore) with cells := x.cells, wrong := x.wrong, band := x.band, nextTag := x.nextTag, hot := x.hot,
                         vsupFrom := x.vsupFrom, mainFrom := x.mainFrom }

/-- The main domain is reset: the copy under way completes first (R385). -/
def State.mainReset (s : State) : State :=
  let s0 := if s.rs.cur.isSome then (s.advTo s.rs.curEnd).endCopy else s
  let s1 := s0.setModeQuiet .shunting
  let wakes := s1.cans.map fun x => { ({} : Port) with wakeFec := x.wakeFec }
  let prods := (List.range 12).map fun k => if k ≤ 1 then (s1.prods.getD k {}).freed else {}
  let mn := { s1.mn with phase := .held, modeNext := [], restartDue := none, restartAtCo := none, endMode := none, selfTestBad := false,
                         bankStep := 0, fwId := 0, trialPeriods := 0, ready := false, serving := false }
  { s1 with mn := mn, host := { holdSeen := s1.host.holdSeen }, crc := {}, pn := {}, fb := {}, per := {}, cans := wakes, se := s1.se.quiet, zs := s1.zs.quiet,
            pr := s1.pr.quiet, act := s1.act.quiet, rs := s1.rs.quiet, qEvt := List.replicate 4 [], prods := prods,
            qst := List.replicate 11 {}, gd.ctlDue := false, cfgPend := [], pw.saveArmJudged := false, pw.saved := false }

/-! ### Siding (R417) -/

/-- The sequencer stops: no step, pass or calibration goes on. -/
def Modu.halt (m : Modu) : Modu := { ({} : Modu) with lane := { m.lane with busy := 0 }, calAt := m.calAt }

/-- `SE0`, `SE1`, the sequencer, `PE` and `JN` stop, and zone computation with them; window transfers end `CANCELLED` (R33). -/
def State.enginesStop (s : State) : State :=
  let s1 := (s.host.xfers.map (·.desc)).foldl (fun t d => t.endXfer d stCancelled) s
  let s2 := (s1.fb.xacts).foldl (fun t x => t.endXact x stCancelled) s1
  let s3 := s2.peStop
  { s3 with per.running := false, per.inCo := false, per.undone := [], gd.ctlDue := false, mn.modeNext := [],
            se.mods := s3.se.mods.map Modu.halt, se.qSmp := List.replicate 4 [], se.cross := [], zs.qPnt := List.replicate 4 [],
            zs.pntWait := [], fb := s3.fb.quiet, prods := s3.prods.map EvtProd.freed }

/-- `CAN0` as Siding keeps it: on the bus with its counters (R314). -/
def Port.inSiding (x : Port) : Port :=
  { x with fifo0 := [], fifo1 := [], qFabi := [], reconf := false, airTt := false, tt.st := .off, tt.win := none }

/-- Ports leave the bus; in Siding `CAN0` stays on it, and of what waited on it the frame under way alone is left (R314, R33). -/
def State.portsSiding (s : State) : State :=
  let s1 := [1, 2].foldl State.canOff s
  if !s1.canPower 0 then s1.canOff 0
  else if (s1.port 0).st == .off || (s1.port 0).st == .lowPower then (s1.canOff 0).canOn 0
  else
    (s1.cancelWork 0 (s1.port 0).flies).modPort 0 Port.inSiding

/-- Siding is entered for a cause of Table 15.4; the period's last entry of the store log is decided first (R393). -/
def State.enterSiding (s : State) (cause : Nat) : State :=
  let s1 := (s.lastLog.setMode .siding).enginesStop
  let s2 := ({ s1 with mn.sidingCause := cause }).safeOutside.portsSiding
  s2.sbEvent evSidingEnter 0 cause

/-! ### Fault restarts (R85, R89) -/

/-- The main domain that a fault has stopped, as Siding takes it over in place of a restart (R89), with the last assigned address of
its record (R418). -/
def State.heldForSiding (s : State) : State :=
  if s.mn.phase == .run then s
  else
    let s1 := if s.mn.phase == .held then s else s.mainReset
    State.recallLog { s1 with mn.phase := .run, mn.restartDue := none, mn.endMode := none, mn.serving := true, mn.ready := true,
                              mn.readyAt := s1.now, host.talkAt := s1.now, fb.lastHeld := leAt (s1.recData 0 5) 0 4 % 4096 }

/-- A fault restarts the main domain at once; the third within 600 s enters Siding in its place (R89). In Siding each of them restarts
and returns to Siding (R418), without `RESTART_LIMIT` (log 67). -/
def State.faultRestart (s : State) : State :=
  let recent := (s.now :: s.mn.faultTimes).filter fun t => s.now < t + 600000000
  let s1 := { s with mn.faultTimes := recent }
  if recent.length ≥ 3 && s.mn.sidingCause == 0 then
    (s1.heldForSiding.sbEvent evRestartLimit 0 recent.length).enterSiding 3
  else
    let s2 := if s1.mn.phase == .held then { s1 with mn.endMode := none } else s1.mainReset
    { s2 with mn.restartDue := some 0x03, mn.restarts := sat 16 (s2.mn.restarts + 1) }

/-- MAIN_RESTART: a restart that is due resets the main domain and begins the boot path (R85, R87). -/
def execMainRestart (s : State) : Out :=
  match s.mn.restartDue with
  | none => .next s
  | some c =>
    if s.pw.rstLow || s.pw.coreLost || !s.vsupOk then .next s
    else
      let s1 := if s.mn.phase == .held then s else s.mainReset
      .next { s1 with mn.restartDue := none, mn.startCause := c, mn.endMode := if c == 0x02 then s.mn.endMode else none,
                      mn.restartsDue := s.mn.restartsDue + b2n (c == 0x03) }

/-- HB_EXPIRY: Guard has seen no toggle for `HB_TMO_MS`, counted from its own start or return when it has seen none since: it carries the guard zones and resets the main domain (R404). -/
def execHbExpiry (s : State) : Out :=
  if !s.guardJudges || s.gd.hb == 3 then .next s
  else
    let s1 := s.advTo (s.gd.toggleAt.getD s.gd.watchFrom + s.gd.hbTmo * 1000)
    let s2 := { s1 with gd.hb := 3, gd.expiries := sat 16 (s1.gd.expiries + 1), gd.holdRun := 0, gd.ctlRun := 0 }
    let s3 := if s2.mn.phase == .held then s2 else s2.faultRestart
    .next (s3.guardTake 2)

/-! ### Memory errors (R17) -/

/-- MEM_DED: 0 system SRAM, 1 window SRAM, 2 flash restart the main domain; 3 Guard RAM, 4 Guard ROM reset the island. A flash
error while the boot ROM reads a bank is that image's (IMAGE_CHECK_DONE, IMAGES_LOADED). -/
def execMemDed (m : Fin 5) (s : State) : Out :=
  if !s.vsupOk then .next s
  else if m.val ≥ 3 then
    .next ((s.islandReset (if m.val == 3 then 2 else 4)).sbLog evMemDed 0 m.val)
  else if s.mn.phase == .held || (m.val == 2 && (s.mn.phase == .imageCheck || s.mn.phase == .loading)) then .next s
  else .next (State.raise { s.faultRestart with mn.ded := s.mn.ded || m.val == 0 } prPeri evMemDed 0 m.val)

/-! ### Clocks (R20) -/

def clkCode : Clk → Nat
  | .core => 0 | .drv => 1 | .afe => 2 | .guard => 3 | .rtc => 4

/-- `DE` stops: valves decay, fans go off but for override lines, analog outputs hold (R415). -/
def State.deStop (s : State) : State :=
  (List.range 12).foldl (fun t n =>
    let x := t.fan n
    if x.line then t else (t.fanOff n x.heldSt).modFan n fun y => { y with awaitCmd := true }) s.gangsDead

/-- True while a clock is declared lost. -/
def State.clkLost (s : State) : Clk → Bool
  | .core => s.pw.coreLost
  | .drv => s.pw.drvLost
  | .afe => s.pw.afeLost
  | .guard => s.pw.guardLost
  | .rtc => s.pw.rtcLost

/-- Sets a clock's flag. -/
def State.setClk (s : State) (d : Clk) (b : Bool) : State :=
  match d with
  | .core => { s with pw.coreLost := b }
  | .drv => { s with pw.drvLost := b }
  | .afe => { s with pw.afeLost := b }
  | .guard => { s with pw.guardLost := b }
  | .rtc => { s with pw.rtcLost := b }

/-- CLOCK_LOST: the immediate effects of Table 1.6. -/
def execClockLost (d : Clk) (s : State) : Out :=
  if !s.vsupOk || s.clkLost d then .next s
  else
    let s1 := s.setClk d true
    match d with
    | .core => .next ((s1.mainReset.raise prGD evClockLost 0 0).coreTake)
    | .drv => .next (s1.deStop.sbLog evClockLost 0 1)
    | .afe => .next ({ s1 with se.mods := s1.se.mods.map Modu.halt }.sbLog evClockLost 0 2)
    | .guard => .next ((s1.islandReset 3).sbLog evClockLost 0 3)
    | .rtc => .next (s1.sbLog evClockLost 0 4)

/-- CLOCK_BACK: after the loss of `CORE` the main domain restarts (R85). -/
def execClockBack (d : Clk) (s : State) : Out :=
  if !s.vsupOk || !s.clkLost d then .next s
  else
    let s1 := s.setClk d false
    match d with
    | .core =>
      let s2 := s1.crossEvts
      .next ((if s2.pw.rstLow then s2 else s2.faultRestart).raise prGD evClockBack 0 0)
    | .drv => .next (s1.critFollow.sbLog evClockBack 0 1)
    | .afe => .next (State.sbLog { s1 with se.cap := { s1.se.cap with busy := s1.now } } evClockBack 0 (clkCode d))
    | _ => .next (s1.sbLog evClockBack 0 (clkCode d))

/-! ### Supplies (R57–R64) -/

/-- Everything but the `VBKP` domain switches off (Table 3.2). The wake receivers of Halt keep their wake groups and arming while `VSUP`
is present, and end with it (log 61). -/
def State.powerOff (s : State) (keep : List (Nat × Word)) : State :=
  let pw : Power := { s.pw with vdrvOv := false, coreLost := false, drvLost := false, afeLost := false, guardLost := false, rtcLost := false,
                                latchHalt := s.pw.vsup && s.pw.latchHalt, saveArmed := false, saveArmJudged := false, saveLastUs := 0, saveCount := 0, saved := false, testEn := false }
  let halt := s.pw.vsup && s.pw.latch && s.pw.latchHalt
  let ports := s.cans.map fun x =>
    { ({} : Port) with st := if halt && (x.armP || x.armF) then .lowPower else .off, armP := halt && x.armP, armF := halt && x.armF,
                       wakeErr := x.wakeErr, wakeFec := x.wakeFec }
  let mode : Mode := if halt then .halt else .terminus
  { ({} : State) with
    now := s.now, pw := pw, rtc := s.rtc, mn.phase := .off, mn.mode := mode, mn.lastMode := s.mn.mode, rs.cells := s.rs.cells,
    rs.nextTag := s.rs.nextTag, cans := ports, th.bufFlag := s.th.bufFlag, st := s.st, cfg := keep, flashA := s.flashA,
    flashB := s.flashB, pending := s.pending, freeCtr := s.freeCtr }

/-- Configuration words kept in standby: the arming of the wakes and the alarm, and in Halt the wake groups. -/
def State.wakeCfg (s : State) (halt : Bool) : List (Nat × Word) :=
  s.cfg.filter fun e =>
    e.1 / 64 == sysObj 0x030 || (halt && ((List.range 3).any fun p => e.1 / 64 == cnWakeObj p))

/-- The `VBKP` domain loses both feeds: time, the latch and the flag are lost, and so is `WAKE_FEC` (R345). -/
def State.vbkpGone (s : State) : State :=
  { s with cans := s.cans.map fun x => { x with wakeFec := false },
            pw.latch := false, pw.wakeKept := none, th.bufFlag := false, rtc.valid := false, rtc.base := 0, rtc.at_ := s.now, cfg := [] }

/-- VSUP_LOST: `VSUP` falls below its power-on reset threshold; with `VBKP` valid the device is in Terminus, out of Halt too
(Tables 3.2 and 3.5; log 61). -/
def execVsupLost (s : State) : Out :=
  if !s.pw.vsup then .next s
  else
    let s1 := s.tearCopy
    let keep := if s1.pw.latch then s1.wakeCfg false else []
    let s2 := { s1 with pw.vsup := false, pw.vsupLossToLog := true }.powerOff keep
    .next (if s2.pw.vbkp then s2 else s2.vbkpGone)

/-- The level a strap takes from its eight samples (R439). -/
def strapHighs (pull : Bool) (n : Nat) : Bool := if n == 4 then pull else decide (n ≥ 5)

/-- The internal pulls of Table 16.5, in the order of `UNSTABLE`. -/
def strapPull (k : Nat) : Bool := k < 3 || k == 8

/-- A strap's samples: high in how many of eight; a strap not given is open. -/
def strapCount (l : List Nat) (k : Nat) : Nat := l.getD k (if strapPull k then 8 else 0)

/-- A strap as sampled. -/
def strapAt (l : List Nat) (k : Nat) : Bool := strapHighs (strapPull k) (strapCount l k)

/-- The straps of both samplings: all of them, or those that `RST_N` samples again (R440). -/
def sampleStraps (old : Straps) (l : List Nat) (all : Bool) : Straps :=
  let u := maskOf 11 fun k =>
    if all || (4 ≤ k && k ≤ 9) then strapCount l k == 4 else bitOf old.unstable k
  { ct := if all then maskOf 3 (strapAt l) else old.ct, ctsel := if all then strapAt l 3 else old.ctsel,
    na := maskOf 4 fun k => strapAt l (4 + k), svcN := strapAt l 8, profL := strapAt l 9, unstable := u, sampledAt := !all,
    pins := (List.range 11).map fun k => strapCount (if all || k < 10 then l else old.pins) k }

/-- A cold start begins: the power-on reset is held (Table 3.3). -/
def State.coldStart (s : State) (cause : Nat) (st : Straps) : State :=
  let s1 := { s with pw.vsup := true, pw.latch := false, pw.wakeKept := none, cfg := [], st := st }
  let s2 := { s1 with mn.phase := .held, mn.cold := true, mn.mode := .shunting, mn.lastMode := s.mn.mode, mn.startCause := cause }
  { s2 with rs.vsupFrom := s.now, cans := s2.cans.map fun x => { x with st := .off },
            zs.zn := s2.zs.zn.map fun x => { x with pres.since := s.now, pres.occMark := s.now } }

/-- VSUP_VALID: `VSUP` rises above its threshold; with the standby latch set the device stays in standby (R61, R84). A strap
list gives, in the order of `UNSTABLE`, how many of the eight samples were high. -/
def execVsupValid (straps : List Nat) (s : State) : Out :=
  if s.pw.vsup then .next s
  else if s.pw.latch then .next { s with pw.vsup := true, st.pins := straps }
  else if strapAt straps 10 then .fault .productionTest
  else
    let s1 := if s.pw.vbkp then s else { s with rtc.base := 0, rtc.at_ := s.now }
    .next (s1.coldStart (s1.pw.wakeKept.getD 0) (sampleStraps s1.st straps true))

/-- CRIT_COMPARATOR_ARM: 2 ms after `VSUP` became valid the comparator and Buffer Stop detection are armed (R287). -/
def execCritComparatorArm (s : State) : Out :=
  if !s.vsupOk || s.act.critArmed then .next s
  else
    let s1 := s.advTo (s.rs.vsupFrom + 2000)
    .next { s1 with act.critArmed := true, act.critC := 70 + 10 * s.st.ct, th.armed := true }

/-- DRV_PLL_LOCK: `DE` stays in reset until its microcode is loaded. -/
def execDrvPllLock (s : State) : Out :=
  if !s.vsupOk || s.mn.drvLocked then .next s
  else .next (State.critFollow { s with mn.drvLocked := true, mn.deRun := s.mn.deId.isSome })

/-- VDRV_LOST: all power stages are off (Table 3.2). -/
def execVdrvLost (s : State) : Out :=
  if !s.pw.vdrv then .next s else .next (({ s with pw.vdrv := false }.stagesOff 9).sbLog evSupplyLost 0 1)

/-- The stages are powered again: each fan delivers its change of state (R284). -/
def State.fansPowered (s : State) : State :=
  if !s.powered then s
  else (List.range 12).foldl (fun (t : State) n => if (t.fan n).line then t else t.fanResults n false) s

/-- VDRV_BACK: stages resume at their next command; an override line drives its stage at once (R19). -/
def execVdrvBack (s : State) : Out :=
  if s.pw.vdrv then .next s
  else
    let s1 := (List.range 12).foldl (fun (t : State) n => if (t.fan n).line then t.lineDrive n else t) { s with pw.vdrv := true }
    .next (s1.fansPowered.sbLog evSupplyBack 0 1)

/-- VDRV_OV: above 40 V `DE` switches every power stage off (R63). -/
def execVdrvOv (mv : Nat) (s : State) : Out :=
  if s.pw.vdrvOv || mv ≤ 40000 || !s.vsupOk then .next s
  else
    let s1 := ({ s with pw.vdrvOv := true, pw.vdrvMv := mv }).stagesOff 9
    .next (if s.deOn then s1.raise prDE evVdrvOv 0 mv else s1)

/-- VDRV_OV_RELEASE: below 38 V stages resume at their next command. -/
def execVdrvOvRelease (s : State) : Out :=
  if s.pw.vdrvOv then .next (State.fansPowered { s with pw.vdrvOv := false }) else .next s

/-- VIO_LOST: the host link falls silent (Table 3.2). -/
def execVioLost (s : State) : Out :=
  if !s.pw.vio then .next s else .next ({ s with pw.vio := false }.sbLog evSupplyLost 0 2)

/-- VIO_BACK. -/
def execVioBack (s : State) : Out :=
  if s.pw.vio then .next s else .next ({ s with pw.vio := true }.sbLog evSupplyBack 0 2)

/-- VBKP_LOST: with `VSUP` absent too, time and the standby latch are lost. -/
def execVbkpLost (s : State) : Out :=
  if !s.pw.vbkp then .next s
  else
    let s1 := { s with pw.vbkp := false }
    .next (if s.pw.vsup then s1.sbLog evSupplyLost 0 3 else s1.vbkpGone)

/-- VBKP_BACK. -/
def execVbkpBack (s : State) : Out :=
  if s.pw.vbkp then .next s
  else
    let s1 := { s with pw.vbkp := true }
    .next (if s.pw.vsup then s1.sbLog evSupplyBack 0 3 else { s1 with rtc.base := 0, rtc.at_ := s.now })

/-- RST_N_ASSERT: `RST_N` low for 10 µs resets the main domain (R64, R385). -/
def execRstNAssert (s : State) : Out :=
  if s.pw.rstLow then .next s
  else if !s.vsupOk then .next { s with pw.rstLow := true }
  else .next { s.mainReset with pw.rstLow := true }

/-- RST_N_RELEASE: the straps other than `CT` and `CTSEL` are sampled again and the restart path begins (R64, R440); the cause
of a Siding is cleared (R418). -/
def execRstNRelease (straps : List Nat) (s : State) : Out :=
  if !s.pw.rstLow then .next s
  else if !s.vsupOk then .next { s with pw.rstLow := false }
  else .next { s with pw.rstLow := false, st := sampleStraps s.st straps false, mn.sidingCause := 0, mn.restartDue := some 0x01 }

/-! ### The hot values' writes (R394) -/

/-- The time of occupied zones and of stages that are on goes into the hot values before they are written. -/
def State.countLives (s : State) : State :=
  let s1 := (List.range 32).foldl (fun t z => if t.zoneOn z then t.countOcc z else t) s
  (List.range 12).foldl State.fanCount s1

/-- The hot values are written at once, past the list. -/
def State.writeHot (s : State) (saved : Bool) : State :=
  let s1 := s.countLives
  let s2 := s1.advTo (s1.now + cdiv (copyNs s1.band 4096) 1000)
  State.landCopy { s2 with rs.band := s.band } 4 0 false (s2.hotBytes saved)

/-! ### Standby and wake (R82–R84) -/

/-- The write list is completed, with what waits for it (R385): the list is filled and written `n` times. -/
def State.finishList (s : State) : Nat → State
  | 0 => s
  | n + 1 =>
    let s1 := s.takeRecs 128
    let s2 := if s1.rs.cur.isSome then (s1.advTo s1.rs.curEnd).endCopy else s1
    State.finishList (s2.saveList (s2.now + 1000000) 129).1 n

/-- Standby entry at the end of a Changeover (R82): stages off and outputs at their safe values, record writes and hot values, the
armed ports, the latch, and the regulators off. It ends at a free moment within 20 ms (R84). -/
def State.standbyEnter (s0 : State) (halt : Bool) : State :=
  let s := State.freeNext { s0 with pw.entryEnd := s0.now + Config.free s0.freeCtr % 20001 }
  let s1 := ((List.finRange 16).foldl (fun (t : State) n => t.aoCmd n.val (t.safeValue (.ao n))) (s.stagesOff 8)).count 7
  let s2 := (s1.finishList (s1.rs.queue.length + s1.rs.waiting.length + 1)).writeHot true
  let o := sysObj 0x030
  let wup := s2.cf o Fd.power.ARM_WUP
  let wuf := s2.cf o Fd.power.ARM_WUF
  let s3 := (List.range 3).foldl (fun t p => t.modPort p fun x =>
    { x with armP := halt && bitOf wup p, armF := halt && bitOf wuf p, wakeErr := 0 }) s2
  State.powerOff { s3 with pw.latch := true, pw.latchHalt := halt } (s3.wakeCfg halt)

/-- A wake clears the standby latch and starts Shunting, at once or when `VSUP` becomes valid (R83, R84). The cold start samples
the straps as their pins stand (R65). A wake during standby entry leads into Shunting from the mode that was left (R84). -/
def State.wake (s : State) (cause : Nat) : State :=
  if !s.pw.vsup then { s with pw.latch := false, pw.wakeKept := some cause }
  else
    let t := s.coldStart cause (sampleStraps s.st s.st.pins true)
    if s.now < s.pw.entryEnd then { t with mn.lastMode := s.mn.lastMode } else t

/-- What a wake answers: with `TEST_EN` high its cold start enters the production test state (R441). -/
def State.wakeOut (s : State) (cause : Nat) : Out :=
  if s.pw.vsup && strapAt s.st.pins 10 then .fault .productionTest else .next (s.wake cause)

/-- WAKE_N_LOW: wakes from Terminus and Halt when armed; in other modes it is only logged (R83). -/
def execWakeNLow (s : State) : Out :=
  if s.pw.latch then
    (if s.cfb (sysObj 0x030) Fd.power.ARM_WAKE_N then s.wakeOut 0x04 else .next s)
  else .next (s.sbLog evWakeIgnored 0 0)

/-- The model time at which RTC time reaches a second count. -/
def State.rtcAt (s : State) (sec : Nat) : Nat :=
  if sec * 32768 ≤ s.rtc.base then s.rtc.at_ else s.rtc.at_ + cdiv ((sec * 32768 - s.rtc.base) * 1000000) 32768

/-- RTC_ALARM: RTC time reaches `RTC_ALARM` while an armed alarm waits in standby (R83). -/
def execRtcAlarm (s : State) : Out :=
  let o := sysObj 0x030
  if s.pw.latch && s.cfb o Fd.power.ARM_RTC then
    (s.advTo (s.rtcAt (s.cf o Fd.power.RTC_ALARM))).wakeOut 0x05
  else .next s

/-- The wake receiver of a port works: Halt, with `VSUP` present. -/
def State.wakeRx (s : State) : Bool := s.pw.latch && s.pw.latchHalt && s.pw.vsup

/-- WAKE_PATTERN: a dominant, a recessive and a dominant phase, lengths in ns; a phase of 1.8 µs or longer is always
recognised, one shorter than 0.5 µs never (the reading between is a free value), within t_Wake of 1.0 ms (R336). -/
def execWakePattern (p : Fin 3) (dom1 rcs dom2 : Nat) (s : State) : Out :=
  if !s.wakeRx || !(s.port p.val).armP then .next s
  else
    let shortest := min dom1 (min rcs dom2)
    let late := rcs + min dom2 1800 > 1000000
    if shortest < 500 || late then .next s
    else
      let woken := s.modPort p.val fun x => { x with wakeFec := false }
      if shortest ≥ 1800 then woken.wakeOut (0x10 + p.val)
      else if Config.free s.freeCtr % 2 == 1 then woken.freeNext.wakeOut (0x10 + p.val)
      else .next s.freeNext

/-- A classical frame that the wake group matches (R337). -/
def State.wakeMatch (s : State) (p : Nat) (f : CanFrame) : Bool :=
  let o := cnWakeObj p
  let m := s.cf o Fd.cnWake.WUF_MASK
  let dlc := s.cf o Fd.cnWake.WUF_DLC
  let want := leBytes 4 (s.cf o Fd.cnWake.WUF_DATA0) ++ leBytes 4 (s.cf o Fd.cnWake.WUF_DATA1)
  f.xtd == s.cfb o Fd.cnWake.WUF_XTD && (f.id &&& m) == (s.cf o Fd.cnWake.WUF_ID &&& m) && f.dlc == dlc &&
    (dlc == 0 || (List.zipWith (fun a b => a &&& b) (f.data.take dlc) want).any (· != 0#8))

/-- SELECTIVE_WAKE_FRAME: what the decoder of an armed port met (R337). -/
def execSelectiveWakeFrame (p : Fin 3) (r : WakeRx) (s : State) : Out :=
  if !s.wakeRx || !(s.port p.val).armF then .next s
  else
    match r with
    | .fd => .next s
    | .classical f =>
      let s1 := s.modPort p.val fun x => { x with wakeErr := x.wakeErr - 1 }
      if s.wakeMatch p.val f then (s1.modPort p.val fun x => { x with wakeFec := false }).wakeOut (0x18 + p.val) else .next s1
    | .erroneous =>
      let s1 := s.modPort p.val fun x => { x with wakeErr := x.wakeErr + 1 }
      if (s1.port p.val).wakeErr > 31 then (s1.modPort p.val fun x => { x with wakeFec := true }).wakeOut (0x18 + p.val) else .next s1

/-! ### Power-fail save (R91, R92, R395) -/

/-- SAVE_ARM: `VSUP` has stayed above V_SAVE + 0.5 V for 10 ms. -/
def execSaveArm (s : State) : Out := if s.vsupOk && s.mn.phase != .saving then .next { s with pw.saveArmed := true } else .next s

/-- SAVE_NOT_ARMED: 1 s after Shunting the save is still not armed. -/
def execSaveNotArmed (mv : Nat) (s : State) : Out :=
  if s.mn.phase != .run || s.pw.saveArmed || s.pw.saveArmJudged then .next s
  else
    let s1 := s.advTo (s.mn.readyAt + 1000000)
    .next (State.sbEvent { s1 with pw.saveArmJudged := true } evSaveNotArmed 0 mv)

/-- Recall has ended, so a save writes. -/
def State.saveWrites (s : State) : Bool := s.mn.phase == .run || s.mn.phase == .applying

/-- The save itself (R395); `us` is the time from the trigger to the end of the hot-value copy. -/
def State.powerSave (s : State) (us : Nat) : State :=
  let t := s.now
  let s1 := if s.rs.cur.isSome then (s.advTo s.rs.curEnd).endCopy else s
  let s2 := (s1.writeHot true).advTo (t + us)
  let r := s2.saveList (t + 1400) (s2.rs.wlist.length + 1)
  let n := (leAt (r.1.recData 0 38) 0 4 + 1) % 2 ^ 32
  let s3 := r.1.landCopy 0 38 false (saveLog n (sat 16 us) (sat 16 r.2))
  { s3 with pw.saveLastUs := sat 16 us, pw.saveCount := sat 16 n, pw.saved := true }

/-- POWER_FAIL_SAVE: an armed save triggers: the engines stop, the hold pattern begins, and the hot values, the write list and
the save log are written (R92, R395). -/
def execPowerFailSave (us : Nat) (s : State) : Out :=
  if !s.pw.saveArmed || !s.vsupOk || s.mn.phase == .off || s.mn.phase == .saving then .next s
  else
    let s1 := if s.saveWrites then s.powerSave us else s
    .next { s1 with mn.phase := .saving, per.running := false, per.inCo := false, per.undone := [], gd.ctlDue := false, pr.solve := none, pr.st := 0,
                    se.mods := s1.se.mods.map Modu.halt, pw.saveArmed := false }

/-- VSUP_RECOVERED: after a save `VSUP` rises above V_SAVE + 0.5 V without having reached 6.0 V (R92). -/
def execVsupRecovered (s : State) : Out :=
  if s.mn.phase != .saving || !s.pw.vsup then .next s
  else .next { s.mainReset with mn.restartDue := some 0x20 }

end Sys2Proof.Machine
end

