-- ==== Sys2Proof/Machine/Thermal.lean ====
section
/-!
DEFINITION. Sys2Proof/Machine/Thermal.lean: die sensors and the temperature band (R420–R423), throttling (R424, R425), the
package estimate (R426), the thermal Siding (R417), the Siding heartbeat (R418) and Buffer Stop (R427, R428).
-/
namespace Sys2Proof.Machine
open Sys2Proof

def thObj (inst g : Nat) : Nat := objId 0x0F inst g
def State.die (s : State) (n : Nat) : Die := s.th.dies.getD n {}
def State.modDie (s : State) (n : Nat) (f : Die → Die) : State := { s with th.dies := lmod s.th.dies n f }
def State.lim (s : State) (g : Nat) : Limit := s.th.lims.getD g {}
def State.modLim (s : State) (g : Nat) (f : Limit → Limit) : State := { s with th.lims := lmod s.th.lims g f }
def State.throttleC (s : State) : Nat := s.cf (thObj 0 0x020) Fd.thConf.THROTTLE_C

/-! ### Die sensors (Table 15.5) -/

/-- Neighbours of a sensor. -/
def dieNbrs (n : Nat) : List Nat :=
  [[1, 2, 3, 4, 5, 6, 7], [0, 2, 5], [0, 1, 3], [0, 2, 4], [0, 3, 6], [0, 1, 7], [0, 4, 7], [0, 5, 6], [0]].getD n []

/-- The sensors that feed a limit group: 0–3 `G0`–`G3`, 4 and 5 fan groups A and B. -/
def groupSensors (g : Nat) : List Nat := [0, g + 1]

/-- A sensor whose value is valid: not failed, and converted. -/
def Die.valid (d : Die) : Bool := !d.failed && !fNotFinite d.t

/-- The greatest of a list of values; none for an empty one. -/
def fMaxOf : List F32 → Option F32
  | [] => none
  | x :: l => some (l.foldl fMax x)

/-- `T_MAX`: the hottest valid die temperature. -/
def State.tMax (s : State) : Option F32 := fMaxOf ((s.th.dies.filter Die.valid).map (·.t))

/-- `T_USED`: a failed sensor is replaced by its hottest valid neighbour plus 10 °C (R422). -/
def State.tUsed (s : State) (n : Nat) : F32 :=
  let d := s.die n
  if !d.failed then d.t
  else match fMaxOf (((dieNbrs n).map s.die).filter Die.valid |>.map (·.t)) with
  | some t => fAdd t fTen
  | none => fOfNat (s.throttleC + 10)

/-- The band of the moment; with every sensor failed it is `TB4` (R422, R423). -/
def State.bandNow (s : State) : Nat :=
  match s.tMax with
  | some t => nextBand s.band t
  | none => if s.th.dies.all (·.failed) then 4 else s.band

/-- The band follows, and is delivered with the hottest temperature (R420, R423). -/
def State.bandUpdate (s : State) : State :=
  let b := s.bandNow
  let s1 := if b == s.band then s else State.raise { s with band := b } prDE evBandChange 0 (s.band * 256 + b)
  (s1.deResult 137 (fOfNat b) false).deResult 138 (s1.tMax.getD fZero) s1.tMax.isNone

/-- A sensor fails a test (R421); the cause is that of the first test it failed. -/
def State.dieFail (s : State) (n cause : Nat) : State :=
  let d := s.die n
  let s1 := s.modDie n fun x =>
    { x with failed := true, cause := if d.failed then x.cause else cause, good := 0, failures := if d.failed then x.failures else sat 16 (x.failures + 1) }
  let s2 := if d.failed then s1 else s1.raise prDE evDieSensorFailed n cause
  (s2.deResult (128 + n) fZero true).bandUpdate

/-- The first test that a conversion fails; 0 when it passes. -/
def dieTest (d : Die) (r : DieRx) : Nat :=
  if !r.selfOk then 1
  else if r.milli < -60000 || r.milli > 200000 then 2
  else match d.prev with
  | some p => if (r.milli - p).natAbs > 10000 then 3 else 0
  | none => 0

/-- A valid reading. -/
def State.dieReading (s : State) (n : Nat) (t : F32) : State :=
  let s1 := s.modDie n fun x => { x with t := t, peak := if fNotFinite x.peak then t else fMax x.peak t }
  (s1.deResult (128 + n) t false).bandUpdate

/-- DIE_SENSOR_SAMPLE: a conversion each ms (R420, R421). -/
def execDieSensorSample (n : Fin 9) (r : DieRx) (s : State) : Out :=
  if !s.deOn then .next s
  else
    let d := s.die n.val
    let s0 := s.advTo (d.at_ + 1000)
    let s1 := s0.modDie n.val fun x => { x with at_ := s0.now, prev := some r.milli, selfBad := !r.selfOk }
    let cause := dieTest d r
    let t := fOfRat r.milli 1000
    if cause != 0 then .next (s1.dieFail n.val cause)
    else if !d.failed then .next (s1.dieReading n.val t)
    else if d.good + 1 < 100 then
      .next ((s1.modDie n.val fun x => { x with good := x.good + 1 }).deResult (128 + n.val) fZero true)
    else
      let s2 := s1.modDie n.val fun x => { x with good := 0, failed := false }
      .next ((s2.raise prDE evDieSensorBack n.val (unsgn 32 (fRoundInt t))).dieReading n.val t)

/-- DIE_SENSOR_TIMEOUT: no conversion for 5 ms: cause 4; a failed sensor begins its 100 samples anew. -/
def execDieSensorTimeout (n : Fin 9) (s : State) : Out :=
  if !s.deOn then .next s
  else .next ((s.advTo ((s.die n.val).at_ + 5000)).dieFail n.val 4)

/-! ### Throttling (R424) -/

/-- T_g of a limit group. -/
def State.groupTemp (s : State) (g : Nat) : F32 := ((groupSensors g).map s.tUsed).foldl fMax (s.tUsed 0)

/-- A contributing sensor has failed. -/
def State.groupFailed (s : State) (g : Nat) : Bool := (groupSensors g).any fun n => (s.die n).failed

/-- f is delivered on the group's bound point (Table 9.7). -/
def State.limResult (s : State) (g : Nat) : State := s.deResult (if g < 4 then 48 + g else 96 + g) (s.limPct g) false

/-- f steps down or up, with its event. -/
def State.stepLimit (s : State) (g : Nat) (down : Bool) (tg : F32) : State :=
  let f := if down then (s.lim g).f - 1 else (s.lim g).f + 1
  let s1 := s.modLim g fun x => { x with f := f, rel := 0, stepAt := if down then some s.now else x.stepAt }
  let s2 := if down then { s1 with th.steps := sat 16 (s1.th.steps + 1) } else s1
  let s3 := s2.raise prDE (if down then evThrottleStep else evThrottleRelease) g (f * 25 / 2 * 256 + unsgn 8 (fRoundInt tg))
  let s4 := if !down then s3 else if g < 4 then s3.capGroup g else s3.capFans g
  s4.limResult g

/-- THROTTLE_EVAL: one evaluation of a limit group (R424). -/
def execThrottleEval (g : Fin 6) (s : State) : Out :=
  if !s.deOn then .next s
  else
    let k := g.val
    let s0 := match (s.lim k).evalAt with | some t => s.advTo (t + 1000) | none => s
    let tg := s0.groupTemp k
    let hot := fLe (fOfNat s0.throttleC) tg
    let cool := fLt tg (fOfNat (s0.throttleC - 10)) && !s0.groupFailed k
    let l := s0.lim k
    let s1 := s0.modLim k fun x => { x with evalAt := some s0.now }
    let s2 : State :=
      if hot then
        let s3 := s1.modLim k fun x => { x with rel := 0 }
        let due := match l.stepAt with | none => true | some t => decide (s0.now ≥ t + 500000)
        if l.f > 2 && due then s3.stepLimit k true tg else s3
      else if cool then
        let s3 := s1.modLim k fun x => { x with rel := min 2000 (x.rel + 1) }
        if l.f < 8 && l.rel + 1 ≥ 2000 then s3.stepLimit k false tg else s3
      else s1.modLim k fun x => { x with rel := 0 }
    .next (s2.modLim k fun x =>
      { x with floorAt := if x.f == 2 && hot then x.floorAt.or (some s0.now) else none,
               coolAt := if cool then x.coolAt.or (some s0.now) else none })

/-! ### The package estimate (R426) -/

/-- I² × R_on × (1 + 0.004 × (T − 25 °C)), R_on in mΩ. -/
def lossOf (i : F32) (mohm : Int) (t : F32) : F32 :=
  fMul (fMul (fMul i i) (fOfRat mohm 1000)) (fAdd fOne (fMul (fOfRat 4 1000) (fSub t (fOfNat 25))))

/-- The conduction losses, added in the order high sides, valve channels, fans (log 12). -/
def State.conduction (s : State) : F32 :=
  let t (n : Nat) : F32 := s.tUsed n
  let hs := (List.range 4).map fun g => lossOf (s.groupI g) 40 (t (g + 1))
  let ls := (List.range 24).map fun c => lossOf (s.vlv c).i 100 (t (c / 6 + 1))
  let fs := (List.range 12).map fun n => lossOf (if (s.fan n).onAt.isSome then (s.fan n).iOn else fZero) 100 (t (5 + n / 6))
  fSum (hs ++ ls ++ fs)

/-- The dissipation of an analog output in W: none without `AO_FAULT`, else by the side on which the readback lies (R290). -/
def Ao.loss (y : Ao) : F32 :=
  if !y.fault then fZero
  else if fLt y.meas y.v then fMul (mAmp 15) (fSub (fOfNat 12) y.meas)
  else if fLt y.v y.meas then fMul (mAmp 5) (fMin y.meas (fOfNat 36))
  else fZero

/-- THERMAL_ESTIMATE: every 100 ms the conduction losses, the clamp power that `DE` tracks (whole mW and µW), the outputs' dissipation and
0.62 W, added in this order (R426, R290, log 12). -/
def execThermalEstimate (clampMw : Fin 65536) (clampUw : Fin 1000) (s : State) : Out :=
  if !s.deOn then .next s
  else
    let s0 := match s.th.estAt with | some t => s.advTo (t + 100000) | none => s
    let clamp := fOfRat ((clampMw.val * 1000 + clampUw.val : Nat) : Int) 1000000
    let p := fAdd (fAdd (fAdd s0.conduction clamp) (fSum (s0.act.aos.map Ao.loss))) (fOfRat 62 100)
    let hot := fLt (fOfNat 5) p
    let since := if hot then s0.th.hotAt.or (some s0.now) else none
    let s1 := { s0 with th.estAt := some s0.now, th.pkg := p, th.hotAt := since,
                        th.hotLog := s0.th.hotLog && !fLt p (fOfRat 45 10) }
    let long := match since with | some t => decide (s0.now ≥ t + 10000000) | none => false
    .next (if long && !s1.th.hotLog then State.raise { s1 with th.hotLog := true } prDE evThermalBudget 0 (fNatScaled 1000 p) else s1)

/-! ### Thermal Siding (R417–R419) -/

/-- THERMAL_SIDING: a limit group has held 25 % at or above `THROTTLE_C` for `SIDING_FLOOR_S` (Table 15.4 cause 4). -/
def execThermalSiding (g : Fin 6) (s : State) : Out :=
  let floor := s.cf (thObj 0 0x020) Fd.thConf.SIDING_FLOOR_S
  match (s.lim g.val).floorAt with
  | none => .next s
  | some t =>
    if !s.zonesRun || floor == 0 then .next s
    else
      let s1 := s.advTo (t + floor * 1000000)
      .next (State.enterSiding { s1 with th.sidingFrom := s1.mn.mode } 4)

/-- SIDING_HEARTBEAT: in Siding a one-shot `HEARTBEAT` on `CAN0` every `HB_MS` with the last assigned address (R418), while the fabric is
enabled (R375). In Profile L, whose addresses have 8 bits, a stored address above 255 is sent modulo 256 (log 67). -/
def execSidingHeartbeat (s : State) : Out :=
  if s.mn.phase != .run || s.mn.mode != .siding || !s.canPower 0 || s.fbf Fd.fbConf.FABRIC_EN == 0 then .next s
  else
    let s1 := match s.th.sidingHb with | some t => s.advTo (t + s.hbUs) | none => s
    let s2 := { s1 with th.sidingHb := some s1.now }
    if s2.fb.lastHeld == 0 then .next s2
    else
      let body := heartbeatBody ownUid (s2.fbf Fd.fbConf.XF_MAX) 0 15 15 15 false false false 0 s2.rootPeriodMs 0 0
      let f := s2.fabFrame 0 s2.fb.lastHeld (segMsg 1 0xA s2.fb.lastHeld s2.fb.seq body) 0
      match (s2.port 0).freeEntry with
      | none => .next s2
      | some k => .next (s2.seqNext.txWrite 0 { queue := true, idx := k, frame := f, use := .siding, oneShot := true })

/-! ### Buffer Stop (R427, R428) -/

/-- The hardware side: stages, override lines and outputs off, ports unpowered. -/
def State.bufferHw (s : State) (n : Nat) : State :=
  let s1 := ({ s with th.bufStop := some n, th.bufFlag := true }).stagesOff 9
  let s2 := { s1 with act.fans := s1.act.fans.map fun x => { x with line := false, waitLeft := none },
                      act.aos := s1.act.aos.map fun x => { x with enabled := false, v := fZero } }
  (List.range 3).foldl State.canOff s2

/-- The side of `SB`: zone computation, `PE`, the sequencer and `JN` stop, and the mode is Buffer Stop. -/
def State.bufferSb (s : State) : State := s.lastLog.enginesStop.setMode .bufferStop

/-- BUFFER_STOP: a die sensor's comparator reaches 160 °C; a sensor that fails its self-check is blocked (R427). -/
def execBufferStop (n : Fin 9) (s : State) : Out :=
  let d := s.die n.val
  if !s.vsupOk || !s.th.armed || s.th.bufStop.isSome || d.selfBad then .next s
  else
    let s1 := s.bufferHw n.val
    let s2 := if s1.mn.phase == .run || s1.mn.phase == .romDepot then s1.bufferSb else s1
    .next (s2.sbLog evBufferStop 0 n.val)

/-! ### The critical comparator (R287, R288, R392) -/

/-- CRIT_TRIP: the comparator asserts `SYS_SHDN_N`; `DE` forces every fan with `CRIT_FULL` to full speed (R287, R288). Each assertion is
counted, whether `DE` runs or not; one without a ready main domain at the next ready (R392; log 68). -/
def execCritTrip (s : State) : Out :=
  if !s.act.critArmed || s.act.critOn || !s.vsupOk then .next s
  else
    let s1 := { s with act.critOn := true, act.critTrips := sat 16 (s.act.critTrips + 1) }
    let s2 := if s1.mn.phase == .run then s1.count 6 else { s1 with act.critDue := s1.act.critDue + 1 }
    .next s2.critFollow

end Sys2Proof.Machine
end

