-- ==== Sys2Proof/Machine/Reads.lean ====
section
/-!
DEFINITION. Sys2Proof/Machine/Reads.lean: what `OBJ_GET` reads: the `RO` fields of every group from the state, beside the `RW`
fields in force (R110, R125), and `IN_USE` (Table 5.2).
-/
namespace Sys2Proof.Machine
open Sys2Proof

/-- A stage is bound: an actuator input of an enabled zone names it, or an enabled guard zone, or for an output a fan's `AO_LINK`. -/
def State.stageBound (s : State) (cls inst : Nat) : Bool :=
  match Stage.of cls inst with
  | none => false
  | some st =>
    ((List.range 32).any fun z => s.zoneOn z && (List.range 4).any fun i => s.inputStage z i == some st) || s.guardStage st ||
      (cls == 6 && (s.aoLink inst).isSome)

/-- The zone takes part in planning by its configuration. -/
def State.planned (s : State) (z : Nat) : Bool := s.zoneOn z && s.cfb (znObj z 0x020) Fd.znConf.PLAN_EN

/-- `IN_USE`: the instance's enabling field is set, and what uses it names it (Table 5.2; log 45). -/
def State.isInUse (s : State) (cls inst : Nat) : Bool :=
  match cls with
  | 0x01 => s.zoneOn inst
  | 0x02 => s.srcType inst != 0 && s.boundUses inst > 0
  | 0x03 => s.cf (lpObj inst 0x020) Fd.loopConf.ZONE < 32
  | 0x04 =>
    let used (ch : Nat) : Bool := s.gang ch != 0 && s.stageBound 4 ch
    if inst < 24 then used inst else (List.range 6).any fun k => used (6 * (inst - 0x100) + k)
  | 0x05 => s.fanDrive inst != 0 && s.stageBound 5 inst
  | 0x06 => s.stageBound 6 inst
  | 0x07 =>
    let o := objId 0x07 inst 0x010
    let scheds := ((List.range 32).filter s.zoneOn).map fun z => s.cf (znObj z 0x020) Fd.znConf.SCHED
    if inst < 32 then s.cf o Fd.sched.N_ENT != 0 && scheds.contains inst
    else s.cf o Fd.exday.N_ENT != 0 && scheds.any fun k => k < 32 && bitOf (s.cf o Fd.exday.SCHED_MASK) k
  | 0x08 => s.zoneOn inst && s.cfb (znObj inst 0x020) Fd.znConf.PRES_EN
  | 0x09 => if inst == 0 then (List.range 32).any s.planned else s.planned (inst - 1)
  | 0x0A => if inst == 0 then s.pnCf Fd.pnConf.ENABLE != 0 else s.cfb (pnObj inst 0x020) Fd.enConf.ENABLE
  | 0x0B => s.cfb (cnObj inst) Fd.cnConf.ENABLE
  | 0x0C => s.cfb (ttObj inst) Fd.ttConf.TT_EN
  | 0x0D => s.fbf Fd.fbConf.FABRIC_EN != 0
  | 0x10 => inst == 0 || s.cfb (gdObj inst 0x020) Fd.gzConf.G_ENABLE
  | 0x0E => s.recCount inst != 0
  | 0x0F => true
  | 0x11 => true
  | _ => false

/-- Bank states (record 0 of region 0). -/
def State.bankState (s : State) (b : Nat) : Nat := leAt (s.recData 0 0) b 1

/-- The `STATE` of a valve channel (Table 9.8). -/
def State.valveCode (s : State) (ch : Nat) : Nat :=
  if s.isMember ch then 6
  else
    let v := s.vlv ch
    let g := s.vgrp (ch / 6)
    if v.fault == 1 || v.fault == 2 || v.fault == 3 || v.fault == 5 || g.latched || g.hsOff.isSome ||
        (g.config && s.gang ch != 0) then 5
    else if !s.powered then 7
    else match v.st with
    | .off => 0 | .defer => 1 | .pullin => 2 | .reg => 3 | .decay => 4

/-- The `FAULT` of a valve channel. -/
def State.valveFault (s : State) (ch : Nat) : Nat :=
  if (s.vgrp (ch / 6)).config && s.gang ch != 0 then 6 else (s.vlv ch).fault

/-- HOLD_SUM and PEAK_SUM of a group in mA (R257). -/
def State.gangHold (s : State) (b : Nat) : Nat :=
  if s.cfgQuad b then s.cf (vlvObj b 0x020) Fd.vConf.I_HOLD else s.cf (vlvObj b 0x020) Fd.vConf.I_FS
def State.gangPull (s : State) (b : Nat) : Nat :=
  if s.cfgQuad b then s.cf (vlvObj b 0x020) Fd.vConf.I_PEAK else s.cf (vlvObj b 0x020) Fd.vConf.I_FS
def State.holdSum (s : State) (g : Nat) : Nat := ((s.cfgGangs g).map s.gangHold).sum
def State.peakSum (s : State) (g : Nat) : Nat :=
  (s.cfgGangs g).foldl (fun m b => max m (s.gangPull b + s.holdSum g - s.gangHold b)) 0

/-- The pin `SYS_SHDN_N` is driven low (R287, R427). -/
def State.shdnLow (s : State) : Bool := s.vsupOk && (s.act.critOn || s.th.bufStop.isSome)

/-- f of a limit group in %, rounded down. -/
def State.limInt (s : State) (g : Nat) : Nat := (s.lim g).f * 25 / 2

/-- A duty in 0.1 %. -/
def dutyPm (d : F32) : Nat := min 1000 (fNatScaled 1000 d)

/-- Age in ms, saturating at 24 bits. -/
def State.ageMs (s : State) (p : Nat) : Nat :=
  match (s.pt p).accAt with
  | none => 0xFFFFFF
  | some t => sat 24 ((s.now - t) / 1000)

/-- The `RO` fields of the groups of `System` instance 0. -/
def State.sysRo (s : State) (g : Nat) : List (Fld × Nat) :=
  match g with
  | 0x010 => (if s.inFabric then [(Fd.period.PERIOD_MS, s.per.ms)] else []) ++
      [(Fd.period.CORE_ACTIVE, s.per.coreActive), (Fd.period.CO_LAST_US, s.per.coLast), (Fd.period.CO_MAX_US, s.per.coMax),
      (Fd.period.SKEW_US, unsgn 16 s.per.skew), (Fd.period.OVERRUNS, s.per.overruns), (Fd.period.PERIOD_COUNT, s.per.count)]
  | 0x030 => [(Fd.power.MODE, s.mn.mode.code), (Fd.power.LAST_MODE, s.mn.lastMode.code), (Fd.power.SAVE_ARMED, b2n s.pw.saveArmed),
      (Fd.power.RESTARTS, s.mn.restarts), (Fd.power.START_CAUSE, s.mn.startCause), (Fd.power.STATE_A, s.bankState 0),
      (Fd.power.STATE_B, s.bankState 1), (Fd.power.BANK_RUN, s.mn.bankRun), (Fd.power.SAVE_LAST_US, sat 16 s.pw.saveLastUs),
      (Fd.power.SAVE_COUNT, sat 16 s.pw.saveCount)]
  | 0x040 => [(Fd.hostlink.SNAP_SKIPPED, s.host.snapSkipped), (Fd.hostlink.LINK_LOSSES, s.host.linkLosses),
      (Fd.hostlink.SESSION, s.host.session), (Fd.hostlink.BAD_CHECKS, s.host.badChecks), (Fd.hostlink.PROTO, s.host.proto)]
  | 0x050 => [(Fd.frontEnd.SEQ_TRIG_LOST, s.se.trigLost), (Fd.frontEnd.SEQ_SKIPS, s.se.skips),
      (Fd.frontEnd.I2C_ERRORS, leNat (s.se.i2cErr.map by8))]
  | 0x060 => (List.range 6).flatMap fun n =>
      [(Fd.sar.TRIG_LOST0.at_ n, (s.se.sar.getD n {}).lost), (Fd.sar.OVR_COUNT0.at_ n, (s.se.sar.getD n {}).ovrs)]
  | 0x070 => [(Fd.znSys.TIME_VALID, b2n s.rtc.valid), (Fd.znSys.TREND_FRAMES, s.zs.frames)]
  | 0x080 => [(Fd.critSys.CT_STRAP, s.st.ct), (Fd.critSys.CTSEL, b2n s.st.ctsel), (Fd.critSys.CRIT_ACTIVE, b2n s.act.critOn),
      (Fd.critSys.SHDN_LOW, b2n s.shdnLow), (Fd.critSys.CRIT_C, s.act.critC), (Fd.critSys.CRIT_TRIPS, s.act.critTrips)]
  | 0x090 => [(Fd.recSys.RECALL_US, sat 16 s.rs.recallUs), (Fd.recSys.BAND, s.rs.band), (Fd.recSys.LIST, s.rs.wlist.length),
      (Fd.recSys.LIST_HIGH, s.rs.listHigh), (Fd.recSys.LOG_SKIPPED, s.rs.logSkipped), (Fd.recSys.SAVE_DROPPED, sat 16 s.rs.saveDropped),
      (Fd.recSys.COPIES, s.rs.copies)]
  | 0x0A0 => [(Fd.strap.NA_STRAP, s.st.na), (Fd.strap.SVC_N_STRAP, b2n s.st.svcN), (Fd.strap.PROF_L_STRAP, b2n s.st.profL),
      (Fd.strap.UNSTABLE, s.st.unstable), (Fd.strap.SAMPLED_AT, b2n s.st.sampledAt)]
  | 0x0B0 => [(Fd.profile.PROF_SRC, b2n s.mn.profSrc), (Fd.profile.PROF_ACTIVE, b2n s.mn.profActive)]
  | _ => []

/-- The statistics of queue `q` (Table 2.5). -/
def State.qRo (s : State) (q : Nat) : List (Fld × Nat) :=
  let x := s.qst.getD q {}
  [(Fd.qstat.HIGH_WATER, x.high), (Fd.qstat.OCCUPANCY, x.occ), (Fd.qstat.POISON_COUNT, x.poison), (Fd.qstat.UNDERRUN_COUNT, x.underrun),
    (Fd.qstat.CREDIT_STALLS, x.stalls), (Fd.qstat.OVF_EVENTS, x.ovf), (Fd.qstat.POISON_SEEN, b2n x.poisonSeen),
    (Fd.qstat.UNDERRUN_SEEN, b2n x.underSeen)]

def State.pointRo (s : State) (p : Nat) : List (Fld × Nat) :=
  let x := s.pt p
  [(Fd.ptValue.VALUE, x.y.toNat), (Fd.ptValue.STATUS, x.stat.code), (Fd.ptValue.CAUSE, x.cause), (Fd.ptValue.AGE_MS, s.ageMs p),
    (Fd.ptValue.RAW, x.raw.toNat), (Fd.ptValue.SAMPLES, x.samples), (Fd.ptValue.REJECTS, x.rejects),
    (Fd.ptValue.SETTLE_DISCARDS, x.settles)]

def State.presRo (s : State) (z : Nat) : List (Fld × Nat) :=
  let x := (s.zone z).pres
  let prior := s.presCf z Fd.presConf.P_PRIOR
  [(Fd.presStat.P, (if x.fresh then prior else x.p).toNat), (Fd.presStat.L, (if x.fresh then priorL prior else x.l).toNat),
    (Fd.presStat.OCCUPIED, b2n x.occ), (Fd.presStat.DOOR_WIN, b2n x.doorEnd.isSome),
    (Fd.presStat.SINCE_S, sat 24 ((s.now - x.since) / 1000000)), (Fd.presStat.EV_PIR, b2n (bitOf x.ev 4)),
    (Fd.presStat.EV_CO2_UP, b2n (bitOf x.ev 3)), (Fd.presStat.EV_CO2_DOWN, b2n (bitOf x.ev 2)),
    (Fd.presStat.EV_PANEL, b2n (bitOf x.ev 1)), (Fd.presStat.EV_DOOR, b2n (bitOf x.ev 0))]

def State.loopRo (s : State) (k : Nat) : List (Fld × Nat) :=
  let x := s.loop k
  [(Fd.loopStat.OUT, x.out.toNat), (Fd.loopStat.SP, x.sp.toNat), (Fd.loopStat.PV, x.pv.toNat), (Fd.loopStat.I_TERM, x.i.toNat),
    (Fd.loopStat.L_STATE, x.st.code), (Fd.loopStat.SAT_HI, b2n x.satHi), (Fd.loopStat.SAT_LO, b2n x.satLo),
    (Fd.loopStat.UNPROVEN, b2n x.unproven), (Fd.loopStat.BOUNDED, b2n x.bounded)]

def State.valveRo (s : State) (ch : Nat) : List (Fld × Nat) :=
  let v := s.vlv ch
  let st : Option Stage := if h : ch < 24 then some (.valve ⟨ch, h⟩) else none
  let i := if s.isMember ch || s.drvGang ch == 0 then s.iMeasCh ch else s.iMeas ch
  [(Fd.vStat.I_MEAS, i.toNat), (Fd.vStat.I_SET, v.iset.toNat), (Fd.vStat.STATE, s.valveCode ch), (Fd.vStat.VERDICT, v.verdict),
    (Fd.vStat.FAULT, s.valveFault ch), (Fd.vStat.CLAMPED, b2n v.clamped), (Fd.vStat.DEFER, b2n v.deferred),
    (Fd.vStat.DIRECT, b2n ((st.bind s.directOf).isSome)), (Fd.vStat.GUARD, b2n v.guard), (Fd.vStat.DUTY_PM, dutyPm v.duty),
    (Fd.vStat.TTP_US, sat 16 v.ttp), (Fd.vStat.DIP_US, sat 16 v.dip), (Fd.vStat.DEFER_US, v.deferUs),
    (Fd.vStat.DEFER_COUNT, v.deferCount), (Fd.vStat.FAILS, v.fails), (Fd.vStat.STROKES, v.strokes)]

/-- The high side of a group is on: no trip holds it off, and one of its gangs drives (`HS_ON`). -/
def State.hsOn (s : State) (g : Nat) : Bool :=
  s.powered && (s.vgrp g).hsOff.isNone && !(s.vgrp g).latched &&
    (s.groupGangs g).any fun b => (s.vlv b).st != .off && (s.vlv b).st != .defer

def State.groupRo (s : State) (g : Nat) : List (Fld × Nat) :=
  let x := s.vgrp g
  let on := s.hsOn g
  [(Fd.gStat.I_GROUP, (s.groupI g).toNat), (Fd.gStat.LIMIT_PCT, s.limInt g), (Fd.gStat.HS_ON, b2n on),
    (Fd.gStat.HS_LATCHED, b2n x.latched), (Fd.gStat.PULLIN_CH, (s.pullGang g).getD 0xFF), (Fd.gStat.QUEUED, x.queue.length),
    (Fd.gStat.HOLD_SUM_MA, sat 16 (s.holdSum g)), (Fd.gStat.PEAK_SUM_MA, sat 16 (s.peakSum g)), (Fd.gStat.HS_TRIPS, x.hsTrips)]

/-- Seconds with the stage on, counted up to now. -/
def State.fanRunS (s : State) (n : Nat) : Nat := ((s.fanCount n).fan n).onUs / 1000000

def State.fanRo (s : State) (n : Nat) : List (Fld × Nat) :=
  let x := s.fan n
  let st : Option Stage := if h : n < 12 then some (.fan ⟨n, h⟩) else none
  let left := match x.waitLeft with
    | some l => l
    | none => x.waitEnd - s.now
  [(Fd.fStat.SPEED, x.n.toNat), (Fd.fStat.TARGET, (s.fanTgt n).toNat), (Fd.fStat.I_ON, x.iOn.toNat), (Fd.fStat.STATE, s.fanCode n),
    (Fd.fStat.STALL_CAUSE, x.stallCause), (Fd.fStat.FORCED_FULL, b2n (s.forcedFull n)), (Fd.fStat.CLAMPED, b2n x.clamped),
    (Fd.fStat.DIRECT, b2n ((st.bind s.directOf).isSome)), (Fd.fStat.GUARD, b2n x.guard.isSome), (Fd.fStat.LEARNED, b2n x.iRef.isSome),
    (Fd.fStat.SIG_DEV, b2n x.sigDev), (Fd.fStat.DUTY_PM, if x.onAt.isNone then 0 else dutyPm x.d), (Fd.fStat.RETRIES, x.retries), (Fd.fStat.STALLS, x.stalls),
    (Fd.fStat.NEXT_RETRY_S, if x.st == .stall then min 300 (cdiv left 1000000) else 0), (Fd.fStat.OCP_TRIPS, x.ocpTrips),
    (Fd.fStat.STRETCH_FAILS, x.stretchFails), (Fd.fStat.RUN_S, s.fanRunS n)]

def State.aoRo (s : State) (n : Nat) : List (Fld × Nat) :=
  let x := s.ao n
  let st : Option Stage := if h : n < 16 then some (.ao ⟨n, h⟩) else none
  [(Fd.aStat.V_SET, x.v.toNat), (Fd.aStat.V_MEAS, x.meas.toNat), (Fd.aStat.ENABLED, b2n x.enabled), (Fd.aStat.AO_FAULT, b2n x.fault),
    (Fd.aStat.DIRECT, b2n ((st.bind s.directOf).isSome)), (Fd.aStat.GUARD, b2n x.guard), (Fd.aStat.LINKED, b2n (s.aoLink n).isSome),
    (Fd.aStat.CODE, aoCode x.v), (Fd.aStat.FAULTS, x.faults)]

def State.panelRo (s : State) : List (Fld × Nat) :=
  let x := s.pn
  [(Fd.pnStat.KEYS_LO, bits x.keys 31 0), (Fd.pnStat.KEYS_HI, bits x.keys 63 32), (Fd.pnStat.STUCK_LO, bits x.stuck 31 0),
    (Fd.pnStat.STUCK_HI, bits x.stuck 63 32), (Fd.pnStat.FROZEN_KSO, x.frozenO), (Fd.pnStat.FROZEN_KSI, x.frozenI),
    (Fd.pnStat.GHOST, b2n (x.frozenO != 0)), (Fd.pnStat.SEL_ZONE, x.sel), (Fd.pnStat.GHOSTS, x.ghosts),
    (Fd.pnStat.OVERRUNS, x.overruns), (Fd.pnStat.CHANGES, x.changes)]

def State.encRo (s : State) (e : Nat) : List (Fld × Nat) :=
  let x := s.enc e
  [(Fd.enStat.COUNT, unsgn 32 x.count), (Fd.enStat.VELOCITY, x.vel.toNat), (Fd.enStat.ERRORS, x.errors), (Fd.enStat.B, b2n x.b),
    (Fd.enStat.A, b2n x.a)]

def State.regionRo (s : State) (r : Nat) : List (Fld × Nat) :=
  [(Fd.recStat.BASE, (regionPlace r).1), (Fd.recStat.SIZE, (regionPlace r).2), (Fd.recStat.RECORDS, s.recCount r),
    (Fd.recStat.REC_MAX, (s.lens r).foldl max 0), (Fd.recStat.DUP_SEQS, (s.rs.dups.filter fun d => d.1 == r).length),
    (Fd.recStat.DEFAULTS, s.rs.defaults.getD r 0), (Fd.recStat.MIGRATED, s.rs.migrated.getD r 0), (Fd.recStat.LOCKS, s.locks r),
    (Fd.recStat.ATTEMPTS, s.attempts r), (Fd.recStat.WRITES, s.rs.writes.getD r 0)]

/-- Time without the basic function, in ms (R416). -/
def State.unavailMs (s : State) : Nat :=
  sat 32 ((s.gd.unavailUs + (match s.gd.unavailAt with | some t => s.now - t | none => 0)) / 1000)

/-- The domain status of Guard as `SB` builds it from Guard's events (R408); of readiness, the judgement, the expiries, the lines and the
lost time no event of Table 15.15 tells, and they read as they stand (log 67). -/
def State.guardRo (s : State) : List (Fld × Nat) :=
  [(Fd.gdStat.G_READY, b2n s.gd.ready), (Fd.gdStat.G_HOLD, b2n s.host.holdSeen), (Fd.gdStat.HB_SEEN, s.gd.hb),
    (Fd.gdStat.FORCED_FANS, maskOf 12 fun n => (s.fan n).line), (Fd.gdStat.TAKEOVERS, s.gd.repTakes),
    (Fd.gdStat.HB_EXPIRIES, s.gd.expiries), (Fd.gdStat.ISLAND_RESETS, s.gd.repResets), (Fd.gdStat.CARRIED, s.gd.repCarried),
    (Fd.gdStat.UNAVAIL_MS, s.unavailMs)]

def State.gzRo (s : State) (z : Nat) : List (Fld × Nat) :=
  let x := s.gz z
  [(Fd.gzStat.G_T, x.repT.toNat), (Fd.gzStat.G_V, x.repV.toNat), (Fd.gzStat.G_CARRIED, b2n (bitOf s.gd.repCarried z)),
    (Fd.gzStat.G_FROST, b2n x.repFrost), (Fd.gzStat.G_PURGE, b2n x.repPurge), (Fd.gzStat.G_INPUT_BAD, b2n x.repBad)]

def State.thermRo (s : State) : List (Fld × Nat) :=
  [(Fd.thStat.BAND, s.band), (Fd.thStat.THERMAL_SIDING, b2n (s.mn.sidingCause == 4)), (Fd.thStat.FAILED, maskOf 9 fun n => (s.die n).failed),
    (Fd.thStat.T_MAX, (s.tMax.getD fNaN).toNat), (Fd.thStat.LIMIT_G, leNat ((List.range 4).map fun g => by8 (s.limInt g))),
    (Fd.thStat.LIMIT_FA, s.limInt 4), (Fd.thStat.LIMIT_FB, s.limInt 5), (Fd.thStat.THROTTLE_STEPS, s.th.steps),
    (Fd.thStat.P_PKG, s.th.pkg.toNat)]

def State.dieRo (s : State) (n : Nat) : List (Fld × Nat) :=
  let x := s.die n
  [(Fd.dsStat.T_DIE, x.t.toNat), (Fd.dsStat.T_USED, (s.tUsed n).toNat), (Fd.dsStat.S_FAILED, b2n x.failed), (Fd.dsStat.F_CAUSE, x.cause),
    (Fd.dsStat.FAILURES, x.failures), (Fd.dsStat.T_PEAK, x.peak.toNat)]

/-- The `RO` fields of a group. -/
def State.roFields (s : State) (cls inst g : Nat) : List (Fld × Nat) :=
  match cls, g with
  | 0x02, 0x010 => s.pointRo inst
  | 0x02, 0x070 => [(Fd.ptBind.BOUND_ZONES, maskOf 32 (s.bound inst)), (Fd.ptBind.BOUND_USES, sat 8 (s.boundUses inst))]
  | 0x01, 0x040 => (List.range 4).map fun i => (Fd.znAct.A_LOOP0.at_ (2 * i), (s.inputLoop inst i).getD 0xFF)
  | 0x03, 0x010 => s.loopRo inst
  | 0x04, 0x010 => if inst < 24 then s.valveRo inst else s.groupRo (inst - 0x100)
  | 0x05, 0x010 => s.fanRo inst
  | 0x06, 0x010 => s.aoRo inst
  | 0x08, 0x010 => s.presRo inst
  | 0x0A, 0x010 => if inst == 0 then s.panelRo else s.encRo (inst - 1)
  | 0x0B, 0x040 => [(Fd.cnWake.WAKE_FEC, b2n (s.port inst).wakeFec)]
  | 0x0E, 0x010 => s.regionRo inst
  | 0x0F, 0x010 => if inst == 0 then s.thermRo else s.dieRo (inst - 1)
  | 0x10, 0x010 => if inst == 0 then s.guardRo else s.gzRo (inst - 1)
  | 0x11, 0x020 => s.qRo inst
  | 0x11, _ => s.sysRo g
  | _, _ => []

/-- The identity group (Table 5.2). -/
def State.identWords (s : State) (cls inst : Nat) : List Word :=
  [wd (cls * 2 ^ 24 + inst * 2 ^ 12 + nGroups cls inst),
    wd (Config.objRev cls % 65536 * 65536 + b2n (s.isInUse cls inst))]

/-- The engine status group (Table 8.6). -/
def State.peWords (s : State) : List Word :=
  let x := s.pr
  [wd (x.st * 2 ^ 28 + x.result * 2 ^ 24 + x.planned * 2 ^ 16 + x.iter), wd (sat 16 x.solveUs * 65536 + x.iterEff), wd x.lastSolve,
    wd (x.solves * 65536 + x.fails), x.rT, x.rD, wd (maskOf 32 fun z => x.inPlan.getD z false), wd (maskOf 32 fun z => x.fallen.getD z false)]

/-- The status group of a zone's model (Table 8.9). -/
def State.modelWords (s : State) (z : Nat) : List Word :=
  let m := s.mdl z
  [wd (b2n m.ok * 2 ^ 31 + b2n m.stable * 2 ^ 30 + s.pr.src.getD z 0 % 4 * 2 ^ 28 + min 3 (s.pr.failRun.getD z 0) * 2 ^ 26 + sat 24 m.nReg),
    m.rms, wd (m.skipped * 65536 + m.outliers), triTrace m.p (s.inUse z m.na), wd m.hMs,
    wd (leNat ((List.range 4).map fun n => by8 (s.nbrByte z n)))]

/-- The override group (Table 7.13), which holds what is in force and not what was written. -/
def State.ovrWords (s : State) (z : Nat) : List Word :=
  let x := s.zone z
  [wd (x.ovr.getD 15 * 2 ^ 28), wd (if x.ovr.isSome then cdiv (x.ovrEnd - s.now) 1000000 else 0), x.offset,
    wd (b2n x.keep * 2 ^ 31 + x.ovrSrc)]

/-- The signature group of a fan (Table 10.10). -/
def State.sigWords (s : State) (n : Nat) : List Word :=
  let l := (s.fan n).sig
  (l.map fun b => if b.2 == 0 then fZero else b.1) ++
    [wd (leNat ((l.take 4).map fun b => by8 b.2)), wd (leNat ((l.drop 4).map fun b => by8 b.2))]

/-- Groups that are read whole from the state. -/
def State.wholeWords (s : State) (cls inst g : Nat) : Option (List Word) :=
  if g == 0 then some (s.identWords cls inst)
  else match cls, g with
  | 0x01, 0x010 => some (s.snapOf inst)
  | 0x01, 0x060 => some (s.ovrWords inst)
  | 0x05, 0x030 => some (s.sigWords inst)
  | 0x09, 0x010 => some (if inst == 0 then s.peWords else s.modelWords (inst - 1))
  | 0x09, 0x030 => some (s.mdl (inst - 1)).theta
  | 0x0B, 0x010 => some ((List.range 2).map fun k => wd (s.cnStatWord inst k))
  | 0x0B, 0x030 => some ((List.range 6).map fun k => wd (s.cnCountWord inst k))
  | 0x0C, 0x010 => some ((List.range 3).map fun k => wd (s.ttStatWord inst k))
  | 0x0D, 0x010 => some ((List.range 9).map fun k => wd (s.fbStatWord k))
  | 0x0D, 0x030 => some ((List.range 6).map fun k => wd (s.fbSegWord k))
  | 0x11, 0x0B0 => some [wd (b2n (bitOf (leAt (s.recData 0 1) 0 1) 0) * 4 + b2n s.mn.profSrc * 2 + b2n s.mn.profActive)]
  | _, _ => none

/-- A group as `OBJ_GET` returns it: the `RW` fields in force, the `RO` fields, reserved bits 0, `WO` fields 0. -/
def State.getWords (s : State) (o : Nat) (g : Grp) : List Word :=
  match s.wholeWords (objCls o) (objInst o) (objGrp o) with
  | some l => l
  | none =>
    let ro := s.roFields (objCls o) (objInst o) (objGrp o)
    s.profWords o ((List.range g.words).map fun w =>
      wd ((ro.filter fun f => f.1.word == w).foldl (fun a f => putBits a f.1.hi f.1.lo f.2) (s.rwWord o g w)))

/-- The I²C transaction group exists on leaders only (R178). -/
def State.groupThere (s : State) (o : Nat) : Bool :=
  !(objCls o == 0x02 && objGrp o == 0x060 && s.srcType (objInst o) == 4 && s.srcIndex (objInst o) != objInst o)

end Sys2Proof.Machine
end

