-- ==== Sys2Proof/Machine/Checks.lean ====
section
/-!
DEFINITION. Sys2Proof/Machine/Checks.lean: the checks that a write of a field group passes beside the ranges of its fields
(R110): references, sums and combinations, as each group's chapter states them. A check judges the group as the write would
leave it, with every write that was accepted before it and waits for its Changeover (log 46).
-/
namespace Sys2Proof.Machine
open Sys2Proof

/-- The verdict of a check: none, or status and `DETAIL`. -/
abbrev Chk := Option (Nat × Nat)

/-- `DETAIL` of a field: its first byte in the request slot, or the first byte of the group data where the write does not
carry the field's word. -/
def slotOff (n : Nat) (f : Fld) : Nat := if f.word < n then 20 + 4 * f.word + f.lo / 8 else 20

/-- `RANGE` at a field when `bad`. -/
def badAt (n : Nat) (f : Fld) (bad : Bool) : Chk := if bad then some (stRange, slotOff n f) else none

/-- The first check that refuses. -/
def firstChk (l : List Chk) : Chk := l.findSome? id

/-- The configuration as the pending writes will leave it (R125). -/
def State.withPending (s : State) : State :=
  s.cfgPend.foldl (fun t w => match grpOf w.obj with
    | some g => t.setWords w.obj g 0 w.words
    | none => t) s

/-- The state as a write would leave it. -/
def State.wouldBe (s : State) (o : Nat) (g : Grp) (ws : List Word) : State := s.withPending.setWords o g 0 ws

/-- A write that changes `SRC_TYPE` without `SRC_CFG` carries the defaults of the new type (Table 6.7). -/
def State.completeWords (s : State) (o : Nat) (ws : List Word) : List Word :=
  if objCls o == 0x02 && objGrp o == 0x020 && ws.length == 1 then
    let t := bits (ws.getD 0 0#32).toNat 31 28
    if t == s.withPending.srcType (objInst o) then ws else ws ++ [wd (srcCfgDflt t)]
  else ws

/-! ### Zones, schedules, loops (chapter 07) -/

/-- The stage that actuator input `i` of zone `z` names. -/
def State.inputNames (s : State) (z i : Nat) : Nat × Nat :=
  (s.cf (znObj z 0x040) (inpFld Fd.znAct.A_CLASS0 i), s.cf (znObj z 0x040) (inpFld Fd.znAct.A_INST0 i))

def State.chkZoneAct (t : State) (n z : Nat) : Chk :=
  firstChk ((List.range 4).flatMap fun i =>
    let (c, k) := t.inputNames z i
    let at_ := inpFld Fd.znAct.A_INST0 i
    let twice := (List.range 32).any fun y => (List.range 4).any fun j => (y != z || j < i) && t.inputNames y j == (c, k)
    if c == 0 then []
    else [badAt n at_ (Stage.of c k).isNone, badAt n at_ (c == 4 && t.cfgMember k), badAt n at_ twice,
          badAt n at_ (c == 6 && (t.aoLink k).isSome)])

def State.chkZoneSp (t : State) (n z : Nat) : Chk :=
  let o := znObj z 0x050
  let heat (i : Nat) : F32 := t.cff o (spHeatFld i)
  let cool (i : Nat) : F32 := t.cff o (spCoolFld i)
  let db := t.cff o Fd.znSp.DEADBAND_MIN
  firstChk ((List.range 4).flatMap fun i =>
    [badAt n (spCoolFld i) (fLt (cool i) (fAdd (heat i) db)),
     badAt n (spHeatFld i) (fLt (heat i) (heat 3)), badAt n (spCoolFld i) (fLt (cool 3) (cool i))])

/-- The override group: `OVR_S` not 0 with `OVR_STATE` 0xF, an offset above `OFFSET_MAX` (R205). -/
def State.chkOvr (s : State) (z : Nat) (ws : List Word) : Chk :=
  let st := bits (ws.getD 0 0#32).toNat 31 28
  let ofs := ws.getD 2 0#32
  firstChk [badAt ws.length Fd.znOvr.OVR_S (ws.length ≥ 2 && st == 15 && (ws.getD 1 0#32).toNat != 0),
    badAt ws.length Fd.znOvr.SP_OFFSET (ws.length ≥ 3 && fLt (s.cff (znObj z 0x050) Fd.znSp.OFFSET_MAX) (fAbs ofs))]

/-- In Profile L the minute of an entry that the write carries, or brings into use, is no whole quarter of an hour (R8): `was` and
`now` are the entries in use before and after, `first` the group's word of entry 0. -/
def State.quarterBad (t : State) (n first was now j minute : Nat) : Bool :=
  t.mn.profActive && (j + first < n || (was ≤ j && j < now)) && minute % 15 != 0

/-- Two entries of a weekly schedule share a day and a minute; in Profile L minutes are whole quarters of an hour. -/
def State.chkSched (s t : State) (n i : Nat) : Chk :=
  let o := objId 0x07 i 0x010
  let cnt := min 48 (t.cf o Fd.sched.N_ENT)
  let m (j : Nat) : Nat := t.cf o (Fd.sched.MINUTE0.at_ j)
  let d (j : Nat) : Nat := t.cf o (Fd.sched.DAYS0.at_ j)
  firstChk ((List.range 48).flatMap fun j =>
    [badAt n (Fd.sched.MINUTE0.at_ j) (j < cnt && (List.range j).any fun k => m k == m j && d k &&& d j != 0),
     badAt n (Fd.sched.MINUTE0.at_ j) (t.quarterBad n 1 (s.cf o Fd.sched.N_ENT) cnt j (m j))])

def State.chkExday (s t : State) (n i : Nat) : Chk :=
  let o := objId 0x07 i 0x010
  let y := t.cf o Fd.exday.YEAR
  let mo := t.cf o Fd.exday.MONTH
  let d := t.cf o Fd.exday.DAY
  let cnt := min 8 (t.cf o Fd.exday.N_ENT)
  let m (j : Nat) : Nat := t.cf o (Fd.exday.MINUTE0.at_ j)
  let there := if y == 127 then d ≤ monthDays 2000 mo else d ≤ monthDays (2000 + y) mo
  firstChk (badAt n Fd.exday.DAY (!there) :: (List.range 8).flatMap fun j =>
    [badAt n (Fd.exday.MINUTE0.at_ j) (j < cnt && (List.range j).any fun k => m k == m j),
     badAt n (Fd.exday.MINUTE0.at_ j) (t.quarterBad n 2 (s.cf o Fd.exday.N_ENT) cnt j (m j))])

def State.chkLoop (t : State) (n k : Nat) : Chk :=
  let o := lpObj k 0x020
  let z := t.cf o Fd.loopConf.ZONE
  let l := t.cf o Fd.loopConf.SP_LOOP
  let others := (t.zoneLoops z).filter (· != k)
  let foreign (j : Nat) : Bool := t.cf (lpObj j 0x020) Fd.loopConf.SP_SRC == 3 && t.cf (lpObj j 0x020) Fd.loopConf.SP_LOOP == k &&
    t.cf (lpObj j 0x020) Fd.loopConf.ZONE < 32 && t.cf (lpObj j 0x020) Fd.loopConf.ZONE != z
  let drives (j : Nat) : Bool := t.cf (lpObj j 0x020) Fd.loopConf.OUT_DST == 1 &&
    t.cf (lpObj j 0x020) Fd.loopConf.OUT_INPUT == t.cf o Fd.loopConf.OUT_INPUT
  firstChk [badAt n Fd.loopConf.OUT_MIN (fLe (t.cff o Fd.loopConf.OUT_MAX) (t.cff o Fd.loopConf.OUT_MIN)),
    badAt n Fd.loopConf.SP_LO (fLe (t.cff o Fd.loopConf.SP_HI) (t.cff o Fd.loopConf.SP_LO)),
    badAt n Fd.loopConf.ZONE (z < 32 && others.length ≥ 8),
    badAt n Fd.loopConf.OUT_INPUT (z < 32 && t.cf o Fd.loopConf.OUT_DST == 1 && others.any drives),
    badAt n Fd.loopConf.SP_LOOP (t.cf o Fd.loopConf.SP_SRC == 3 && (l ≥ k || (z < 32 && t.cf (lpObj l 0x020) Fd.loopConf.ZONE != z))),
    badAt n Fd.loopConf.ZONE ((List.range 64).any fun j => j != k && foreign j)]

/-! ### Points and the front end (chapter 06) -/

/-- Guard inputs whose bias is on (R410, R411). -/
def State.biasOn (t : State) (i : Nat) : Bool :=
  (i == 0 && t.st.ctsel) || (List.range 8).any fun z =>
    let o := gdObj (z + 1) 0x020
    t.cfb o Fd.gzConf.G_ENABLE && t.cf o Fd.gzConf.G_INPUT == i && t.cf o Fd.gzConf.G_BIAS != 0

/-- Inputs that an analog point measures. -/
def State.ptInputs (t : State) (p : Nat) : List Nat :=
  if t.srcType p == 1 then [t.srcIndex p] else if t.srcType p == 2 then [t.srcIndex p, t.srcIndex p + 1] else []

/-- The point drives a current, or measures a ratio, on an analog input. -/
def State.ptExcites (t : State) (p : Nat) : Bool :=
  !(t.ptInputs p).isEmpty && (bits (t.srcCfg p) 22 20 != 0 || bits (t.srcCfg p) 19 18 != 0)

/-- The data bytes that a leader's poll delivers (R167). -/
def State.i2cBytes (t : State) (l : Nat) : Nat :=
  let r := t.cf (ptObj l 0x060) Fd.ptI2c.R_LEN
  let g := t.cf (ptObj l 0x060) Fd.ptI2c.CRC_GROUP
  if g == 0 then r else r - r / (g + 1)

/-- The period that a configuration is judged against: the one in force in a fabric, the node's own otherwise (R22). -/
def State.msJudged (t : State) : Nat := if t.inFabric then t.periodMs else t.cf (sysObj 0x010) Fd.period.PERIOD_MS

/-- The step time of an analog point exceeds a period of `ms`; the budget of an I2C poll is no step time (R161, R166; log 68). -/
def State.stepTooLong (t : State) (ms p : Nat) : Bool :=
  (t.srcType p == 1 || t.srcType p == 2) && stepUs (t.srcCfg p) + 2010 > ms * 1000

/-- Currents named by the points of a modulator. -/
def State.chkAnalog (t : State) (n p : Nat) : Chk :=
  let c := t.srcCfg p
  let f := Fd.ptSource.SRC_CFG
  let r := bits c 15 8
  let m := t.srcIndex p / 12
  let exc := bits c 22 20
  let meas := bits c 19 18
  firstChk [badAt n Fd.ptSource.SRC_INDEX (t.srcIndex p ≥ 48 || (t.srcType p == 2 && t.srcIndex p % 2 == 1)),
    badAt n f (bits c 31 29 == 7 || exc == 7 || meas == 3 || bits c 17 16 != 0 || bits c 7 0 != 0),
    badAt n f (meas != 0 && exc == 0),
    badAt n f (meas == 2 && (r ≥ 160 || r == p || !(t.srcType r == 1 || t.srcType r == 2) || bits (t.srcCfg r) 19 18 != 0)),
    badAt n f (bitOf c 23 && (bits c 26 24 != 0 || t.srcType p == 2)),
    badAt n f (t.stepTooLong t.msJudged p),
    badAt n f (t.scanMode m == 2 && (t.sublist m).length > 1),
    badAt n f (bitOf (t.cf (sysObj 0x050) Fd.frontEnd.EXC_MODE) m && exc != 0 && (t.excNamed m).any (· != exc)),
    badAt n f (t.ptExcites p && (t.ptInputs p).any fun i => i < 8 && t.biasOn i)]

def State.chkSource (t : State) (n p : Nat) : Chk :=
  let c := t.srcCfg p
  let i := t.srcIndex p
  let f := Fd.ptSource.SRC_CFG
  let fi := Fd.ptSource.SRC_INDEX
  match t.srcType p with
  | 1 => t.chkAnalog n p
  | 2 => t.chkAnalog n p
  | 3 => firstChk [badAt n fi (i ≥ 8), badAt n f (c != 0)]
  | 4 => firstChk [badAt n fi (i ≥ 160), badAt n fi (i != p && !(t.srcType i == 4 && t.srcIndex i == i)),
      badAt n f (bits c 31 24 > 7 || bits c 15 0 != 0), badAt n f (bits c 31 24 + bits c 23 22 + 1 > t.i2cBytes i)]
  | 5 => firstChk [badAt n fi (i ≥ 16), badAt n f (bits c 31 30 == 3 || bits c 28 21 == 0 || bits c 20 0 != 0)]
  | 6 => firstChk [badAt n fi (i ≥ 256), badAt n f (c != 0)]
  | _ => badAt n f (c != 0)

def State.chkTable (t : State) (n p : Nat) : Chk :=
  let o := ptObj p 0x050
  let x (i : Nat) : F32 := t.bp p i false
  firstChk ((List.range (min 16 (t.cf o Fd.ptTable.N_BP) - 1)).map fun i =>
    badAt n (Fd.ptTable.X0.at_ (2 * (i + 1))) (!fLt (x i) (x (i + 1))))

/-- A class 0x02 group 6 write: it tests its own words, and not the fields of the points that read the device, which are tested when
their sources are written (R178, Table 6.8; log 68). -/
def State.chkI2c (t : State) (n p : Nat) : Chk :=
  let o := ptObj p 0x060
  badAt n Fd.ptI2c.R_LEN (t.cf o Fd.ptI2c.CRC_GROUP != 0 && t.cf o Fd.ptI2c.R_LEN % (t.cf o Fd.ptI2c.CRC_GROUP + 1) != 0)

def trigOk (v : Nat) : Bool := v == 0 || (0x10 ≤ v && v < 0x30)

def State.chkFront (t : State) (n : Nat) : Chk :=
  let o := sysObj 0x050
  firstChk [badAt n Fd.frontEnd.SCAN_MODE ((List.range 4).any fun m => t.scanMode m == 2 && (t.sublist m).length > 1),
    badAt n Fd.frontEnd.EXC_MODE ((List.range 4).any fun m =>
      bitOf (t.cf o Fd.frontEnd.EXC_MODE) m && (t.excNamed m).any (· != (t.excNamed m).headD 0)),
    badAt n Fd.frontEnd.TRIG_SRC ((List.range 4).any fun m => !trigOk (t.trigSrc m)),
    badAt n Fd.frontEnd.I2C_SPEED ((List.range 4).any fun b => t.cf o Fd.frontEnd.I2C_SPEED >>> (2 * b) % 4 == 3)]

/-! ### Predictive engine (R239) -/

def State.chkPe (t : State) (n : Nat) : Chk :=
  firstChk [badAt n Fd.peConf.N_STEPS (t.pc Fd.peConf.N_STEPS % t.pc Fd.peConf.N_BLOCKS != 0),
    badAt n Fd.peConf.ITER_MAX (t.pc Fd.peConf.ITER_MAX % 10 != 0)]

def State.chkModel (t : State) (n z : Nat) : Chk :=
  firstChk ((List.range 4).flatMap fun k =>
    let (kind, node, nz) := t.nbr z k
    let twice := (List.range k).any fun j =>
      let (kj, nj, zj) := t.nbr z j
      kj == kind && zj == nz && (kind == 1 || nj == node)
    [badAt n (Fd.mdConf.NODE0.at_ k) (kind == 1 && node != 0), badAt n (Fd.mdConf.NODE0.at_ k) (kind == 2 && node == 0),
     badAt n (Fd.mdConf.NZONE0.at_ k) (kind == 1 && nz == z), badAt n (Fd.mdConf.NZONE0.at_ k) (kind != 0 && twice)])

/-! ### Valves, fans, outputs (chapters 09, 10) -/

/-- The clamp energy of a gang is within its bound, in binary32 (R248). -/
def State.clampBad (t : State) (b : Nat) : Bool :=
  let o := vlvObj b 0x020
  let i := if t.cfgQuad b then t.iHold b
    else fMul (t.iFs b) (fOfRat ((100 + t.cf o Fd.vConf.DITHER_PCT : Nat) : Int) 100)
  let e := fMul (fMul (fMul (fOfRat 1 2) (t.cff o Fd.vConf.L_MH)) (fMul i i)) (fOfNat 4)
  fLt (fOfNat (200 * gangLen (t.gang b))) e

/-- The continuous currents together, in mA: group sums and the fans in use (R257, R271); a group at fault `CONFIG` counts as
given by `skip`. -/
def State.contSum (t : State) (skip : Nat → Bool) : Nat :=
  ((List.range 4).map fun g => if skip g then 0 else t.holdSum g).sum +
    ((List.range 12).map fun n => if t.fanDrive n == 0 then 0 else t.cf (fanObj n 0x020) Fd.fConf.I_RUN_MAX_MA).sum

/-- The sum exceeds 16 A, or 10 A on `MZ-3224-H5` (R3). -/
def overSum (ma : Nat) : Bool := ma > 16000 || (decide (ma > 10000) && Config.h5)

/-- The checks of R257 over a group's gangs; `DETAIL` points at the field written, one given for each check. -/
def State.chkSums (t : State) (n g : Nat) (hold peak clamp : Fld) (skip : Nat → Bool) : Chk :=
  firstChk [badAt n hold (t.holdSum g > 4000), badAt n peak (t.peakSum g > 10000),
    badAt n clamp ((t.cfgGangs g).any t.clampBad), badAt n hold (t.holdSum g > 0 && overSum (t.contSum skip))]

/-- The PWM of a group against the dither of its singles and pairs (R245). -/
def State.ditherBad (t : State) (g : Nat) : Bool :=
  (t.cfgGangs g).any fun b => !t.cfgQuad b &&
    t.cf (grpObj g 0x020) Fd.gConf.PWM_HZ < 10 * t.cf (vlvObj b 0x020) Fd.vConf.F_DITHER_HZ

/-- The gang of a channel's own fields (R242, Table 9.1). -/
def State.chkGang (t : State) (n ch : Nat) : Chk :=
  let o := vlvObj ch 0x020
  let k := t.gang ch
  let off := ch % 6
  let fs := t.cf o Fd.vConf.I_FS
  firstChk [badAt n Fd.vConf.GANG ((k == 2 && off % 2 == 1) || (k == 3 && off != 0 && off != 2)),
    badAt n Fd.vConf.GANG ((List.range (gangLen k - 1)).any fun j => t.gang (ch + 1 + j) != 0),
    badAt n Fd.vConf.GANG (k != 0 && (List.range off).any fun j => gangLen (t.gang (ch - 1 - j)) > j + 1),
    badAt n Fd.vConf.I_FS ((k == 1 && fs > 1500) || (k == 2 && fs < 100)),
    badAt n Fd.vConf.I_HOLD (t.cf o Fd.vConf.I_PEAK ≤ t.cf o Fd.vConf.I_HOLD)]

def State.chkProof (t : State) (n ch : Nat) : Chk :=
  let o := vlvObj ch 0x030
  badAt n Fd.vProof.DIP_T_MAX_MS (t.cf o Fd.vProof.DIP_T_MAX_MS < t.cf o Fd.vProof.DIP_T_MIN_MS)

def State.chkFan (t : State) (n k : Nat) : Chk :=
  let o := fanObj k 0x020
  let lo := t.cf o Fd.fConf.N_MIN_RPM
  let hi := t.cf o Fd.fConf.N_MAX_RPM
  let sr := t.cf o Fd.fConf.SAFE_RPM
  let a := t.cf o Fd.fConf.AO_LINK
  let named := (List.range 32).any fun z => (List.range 4).any fun i => t.inputNames z i == (6, a)
  let other := (List.range 12).any fun j => j != k && t.fanDrive j == 3 && t.cf (fanObj j 0x020) Fd.fConf.AO_LINK == a
  firstChk [badAt n Fd.fConf.N_MIN_RPM (lo ≥ hi), badAt n Fd.fConf.SAFE_RPM (sr != 0 && (sr < lo || hi < sr)),
    badAt n Fd.fConf.AO_LINK (t.fanDrive k == 3 && (named || other)),
    badAt n Fd.fConf.I_RUN_MAX_MA (t.fanDrive k != 0 && overSum (t.contSum fun g => (t.vgrp g).config))]

def State.chkAo (t : State) (n k : Nat) : Chk :=
  let o := aoObj k 0x020
  let v := t.cff o Fd.aConf.SAFE_V
  badAt n Fd.aConf.SAFE_V (t.cf o Fd.aConf.SAFE_MODE == 1 && !(fLe (t.aoLow k) v && fLe v fTen))

/-! ### Panel, CAN, fabric (chapters 11–13) -/

/-- A write would change words that Profile L holds in force (R305). -/
def State.chkProf (s : State) (o : Nat) (ws : List Word) : Chk := if s.profWords o ws == ws then none else some (stDenied, 0)

def State.chkKeys (s t : State) (ws : List Word) : Chk :=
  let o := pnObj 0 0x030
  let n := ws.length
  match s.chkProf o ws with
  | some v => some v
  | none => if s.mn.profActive then none else firstChk ((List.range 32).flatMap fun w =>
    [badAt n (Fd.pnKeys.ZONE0.at_ w) (t.cf o (Fd.pnKeys.FUNC0.at_ w) == 8 && t.cf o (Fd.pnKeys.ZONE0.at_ w) == 0xFF),
     badAt n (Fd.pnKeys.ZONE1.at_ w) (t.cf o (Fd.pnKeys.FUNC1.at_ w) == 8 && t.cf o (Fd.pnKeys.ZONE1.at_ w) == 0xFF)])

/-- The active matrix of a port does not fit a period of `ms` (R343, R344). -/
def State.matrixBad (t : State) (ms p : Nat) : Bool :=
  match (t.port p).tt.active with
  | none => false
  | some m => !mxFits m (t.canTim p) ms

/-- A period of `ms` breaks R161 or R338 (R361). -/
def State.periodBad (t : State) (ms : Nat) : Bool :=
  (List.range 160).any (t.stepTooLong ms) || (List.range 3).any (t.matrixBad ms)

def State.chkCan (t : State) (n p : Nat) : Chk :=
  firstChk [badAt n Fd.cnConf.NBRP (canConfBad fun f => t.cf (cnObj p) f), badAt n Fd.cnConf.TXE_SIZE (t.matrixBad t.msJudged p)]

/-- The period group: not the node's own in a fabric (R22), no point's step too long (R161), no matrix broken (R344). -/
def State.chkPeriod (s t : State) (n : Nat) : Chk :=
  let f := Fd.period.PERIOD_MS
  let new := t.cf (sysObj 0x010) f
  if s.inFabric then (if new == s.per.ms then none else some (stDenied, 0))
  else if s.cf (sysObj 0x010) f == new then none
  else badAt n f (t.periodBad (t.cf (sysObj 0x010) f))

/-! ### Guard and thermal management (chapter 15) -/

/-- The stage of slot `k` of guard zone `z`. -/
def State.gzStage (t : State) (z k : Nat) : Nat × Nat :=
  (t.cf (gdObj (z + 1) 0x020) (Fd.gzConf.S_CLASS0.at_ k), t.cf (gdObj (z + 1) 0x020) (Fd.gzConf.S_INST0.at_ k))

def State.chkGuardZone (t : State) (n z : Nat) : Chk :=
  let o := gdObj (z + 1) 0x020
  let inp := t.cf o Fd.gzConf.G_INPUT
  let bias := t.cf o Fd.gzConf.G_BIAS
  let r25 := t.cf o Fd.gzConf.R25
  let b := t.cf o Fd.gzConf.B
  let on := t.cfb o Fd.gzConf.G_ENABLE
  let tenth (f : Fld) : F32 := fOfRat (t.cf o f : Int) 10
  let others := (List.range 8).filter fun y => y != z && t.cfb (gdObj (y + 1) 0x020) Fd.gzConf.G_ENABLE
  let slots := (List.range 3).flatMap fun k =>
    let (c, i) := t.gzStage z k
    let f := Fd.gzConf.S_INST0.at_ k
    if c == 0 then []
    else [badAt n f (Stage.of c i).isNone, badAt n f (on && c == 4 && (t.cfgMember i || t.gang i == 0)),
          badAt n f (on && others.any fun y => (List.range 3).any fun j => t.gzStage y j == (c, i))]
  if t.st.ctsel && inp == 0 && !(bias == 1 && r25 == 1000 && b == 3977) then some (stDenied, 0)
  else firstChk ([badAt n Fd.gzConf.R25 (bias != 0 && r25 < 10), badAt n Fd.gzConf.B (bias != 0 && (b < 1000 || 6000 < b)),
    badAt n Fd.gzConf.FROST_C (fLe (fSub (t.cff o Fd.gzConf.PURGE_C) (tenth Fd.gzConf.PURGE_HYST))
      (fAdd (t.cff o Fd.gzConf.FROST_C) (tenth Fd.gzConf.FROST_HYST))),
    badAt n Fd.gzConf.G_INPUT (on && others.any fun y => t.cf (gdObj (y + 1) 0x020) Fd.gzConf.G_INPUT == inp),
    badAt n Fd.gzConf.G_INPUT (on && bias != 0 && (List.range 160).any fun p => t.ptExcites p && (t.ptInputs p).contains inp)] ++ slots)

/-- The critical threshold is never raised, and not changed while Profile L is active (R9, R429). -/
def State.chkTherm (s t : State) (n : Nat) : Chk :=
  let o := thObj 0 0x020
  let old := s.cf o Fd.thConf.CRIT_LOWER
  let new := t.cf o Fd.thConf.CRIT_LOWER
  let deg (c : Nat) : Nat := 70 + 10 * (if c < 8 then c else s.st.ct)
  if old == new then none
  else if s.mn.profActive then some (stDenied, 0)
  else badAt n Fd.thConf.CRIT_LOWER (deg new > min (deg old) s.act.critC)

/-! ### All groups -/

/-- The checks across fields of a write of `ws` to object `o`: `s` is the state before it, `t` the state it would leave. -/
def State.crossCheck (s t : State) (o : Nat) (ws : List Word) : Chk :=
  let n := ws.length
  let i := objInst o
  match objCls o, objGrp o with
  | 0x01, 0x030 => badAt n Fd.znPts.T_ALT (t.cf o Fd.znPts.T_ALT != 0xFF && t.cf o Fd.znPts.T_ALT == t.cf o Fd.znPts.T_PT)
  | 0x01, 0x040 => t.chkZoneAct n i
  | 0x01, 0x050 => t.chkZoneSp n i
  | 0x01, 0x060 => s.chkOvr i ws
  | 0x02, 0x020 => t.chkSource n i
  | 0x02, 0x040 => badAt n Fd.ptCheck.HI (!fLt (t.cff o Fd.ptCheck.LO) (t.cff o Fd.ptCheck.HI))
  | 0x02, 0x050 => t.chkTable n i
  | 0x02, 0x060 => t.chkI2c n i
  | 0x03, 0x020 => t.chkLoop n i
  | 0x04, 0x020 =>
    if i ≥ 0x100 then
      let f := Fd.gConf.PWM_HZ
      firstChk [badAt n f (t.ditherBad (i - 0x100)), t.chkSums n (i - 0x100) f f f fun g => g != i - 0x100 && (t.vgrp g).config]
    else if t.cfgMember i && t.gang i == 0 then some (stRange, 20)
    else
      let hold := if t.cfgQuad i then Fd.vConf.I_HOLD else Fd.vConf.I_FS
      let peak := if t.cfgQuad i then Fd.vConf.I_PEAK else Fd.vConf.I_FS
      firstChk [t.chkGang n i, badAt n Fd.vConf.F_DITHER_HZ (t.ditherBad (i / 6)),
        t.chkSums n (i / 6) hold peak Fd.vConf.L_MH fun g => g != i / 6 && (t.vgrp g).config]
  | 0x04, 0x030 => if t.cfgMember i then some (stRange, 20) else t.chkProof n i
  | 0x05, 0x020 => t.chkFan n i
  | 0x06, 0x020 => t.chkAo n i
  | 0x07, 0x010 => if i < 32 then s.chkSched t n i else s.chkExday t n i
  | 0x08, 0x020 => badAt n Fd.presConf.P_OFF (t.cf o Fd.presConf.P_ON ≤ t.cf o Fd.presConf.P_OFF)
  | 0x09, 0x020 => if i == 0 then t.chkPe n else t.chkModel n (i - 1)
  | 0x0A, 0x020 => s.chkProf o ws
  | 0x0A, 0x030 => s.chkKeys t ws
  | 0x0B, 0x020 => t.chkCan n i
  | 0x0B, 0x040 => badAt n Fd.cnWake.WUF_ID (canWakeBad fun f => t.cf o f)
  | 0x0D, 0x020 => badAt n Fd.fbConf.ADDR_PREF (s.mn.profActive && t.cf o Fd.fbConf.ADDR_PREF > 255)
  | 0x0E, 0x020 => if s.recWritable i then none else some (stDenied, 0)
  | 0x0F, 0x020 => s.chkTherm t n
  | 0x10, 0x020 => if i == 0 then none else t.chkGuardZone n (i - 1)
  | 0x11, 0x010 => s.chkPeriod t n
  | 0x11, 0x050 => t.chkFront n
  | _, _ => none

/-- Every check that a write of the words given meets: ranges and reserved bits first (R110, R14), then the combinations. -/
def State.writeCheck (s : State) (o : Nat) (g : Grp) (ws : List Word) : Chk :=
  match g.rangeFault ws with
  | some b => some (stRange, 20 + b)
  | none => s.crossCheck (s.wouldBe o g ws) o ws

end Sys2Proof.Machine
end

