-- ==== Sys2Proof/Machine/Apply.lean ====
section
/-!
DEFINITION. Sys2Proof/Machine/Apply.lean: accepted writes of field groups: the moment at which they take effect (R125), what
taking effect does beside changing the words (R33, R177, R213, R226, R267, R295, R304, R344, R375, R400), and the record that
is written then (R126, R398, R407).
-/
namespace Sys2Proof.Machine
open Sys2Proof

/-! ### Ends of direct commands and work in flight (R139, R147, R33) -/

/-- A direct command ends: cause 0 release, 1 duration, 2 disable (R139). A fan that is forced is then under row 5 of Table 10.3, of which
`DE` learns through `Q-CMD` (R275, R16). -/
def State.endDirect (s : State) (st : Stage) (cause : Nat) : State :=
  if (s.directOf st).isNone then s
  else
    let s1 := { s with act.direct := s.act.direct.filter fun d => d.stage != st }
    let s2 := s1.sbEvent evDirectEnded 0 (Stage.cls st * 2 ^ 24 + cause * 2 ^ 16 + Stage.inst st)
    match st with
    | .fan n => if (s.fan n.val).forced then s2.postCmd 1 { stage := st, act := .freed } else s2
    | _ => s2

/-- Every `VALVE_PROVE` in flight on a gang ends `CANCELLED` (R147). -/
def State.cancelProve (s : State) (b : Nat) : State :=
  let s1 := { s with act.proves := s.act.proves.filter fun p => p.gang != b }
  (s1.host.waiting.filter fun w => (match w.kind with | .prove g _ => g == b | _ => false)).foldl (fun (t : State) w =>
    State.respond { t with host.waiting := t.host.waiting.erase w } w.hdr stCancelled 0 []) s1

/-! ### Moments (R125) -/

/-- The `PERIOD_COUNT` of the Changeover at which a change accepted now takes effect (R33). -/
def State.coDue (s : State) : Nat :=
  if !s.per.running then s.per.count
  else if s.per.inCo || s.now ≥ s.tc then s.per.count + 1
  else s.per.count

/-- `TAKES` of a write: 0 for the groups whose chapters say so, and for groups without `RW` fields (log 47); 1 otherwise. -/
def State.takesOf (s : State) (o : Nat) (g : Grp) (ws : List Word) : Nat :=
  if !g.hasRw then 0
  else match objCls o, objGrp o with
  | 0x01, 0x050 => 0
  | 0x01, 0x060 => 0
  | 0x07, _ => 0
  | 0x0F, _ =>
    let new := (s.wouldBe o g ws).cf o Fd.thConf.CRIT_LOWER
    if new != s.cf o Fd.thConf.CRIT_LOWER || new != s.withPending.cf o Fd.thConf.CRIT_LOWER then 1 else 0
  | 0x11, 0x030 => 0
  | 0x11, 0x040 => 0
  | 0x11, 0x0B0 => 2
  | _, _ => 1

/-- The words of a pending write at its Changeover: fields that acted at once are as they now stand (R239, R431). -/
def State.lateWords (s : State) (o : Nat) (g : Grp) (ws : List Word) : List Word :=
  if objCls o == 0x0F then wd (s.rwWord o g 0) :: ws.drop 1
  else if objCls o == 0x09 && objInst o != 0 then
    match ws with
    | [] => []
    | w :: l => wd (putBit w.toNat 27 (s.cfb o Fd.mdConf.ID_FREEZE)) :: l
  else ws

/-! ### Records of configuration groups (R126, R398, R407) -/

/-- The record of a group in its one home: region 1, region 7 for the Guard groups, record 9 of region 7 for `CRIT_LOWER`;
`old` is the state before the change. -/
def State.storeCfg (s old : State) (o : Nat) (g : Grp) : State :=
  let ws := s.rwWords o g
  if objCls o == 0x10 then s.postRec 0 { region := 7, record := objInst o, data := bytesOfWords ws }
  else
    let home := homeWords o ws
    let changed := objCls o != 0x0F || old.rwWord o g 0 != s.rwWord o g 0
    let s1 := match region1Objs.findIdx? fun p => p.1 == o with
      | some k => if changed then s.postRec 0 { region := 1, record := k, data := entryBytes o home } else s
      | none => s
    if objCls o == 0x0F && old.rwWord o g 1 != s.rwWord o g 1 then
      s1.postRec 0 { region := 7, record := 9, data := wordBytes (ws.getD 1 0#32) }
    else s1

/-! ### Effects of a change, by class -/

/-- A zone is disabled, and leaves the solve with its plan, or started (R213, R226, R227, R237). -/
def State.applyZone (s t : State) (z : Nat) : State :=
  let was := s.zoneOn z
  let is := t.zoneOn z
  if was && !is then (t.saveModel (1 + t.coreOf z) z).dropPlan z
  else if !was && is then
    let t1 := t.zoneStart z
    (t1.modMdl z fun m => { m with ys := [], acc := {}, due := none }).resetModel prPE 5 z 3 0
  else t

/-- A point's source is changed or set to none: its entries still queued are discarded and it starts afresh, which is published, and
logged where it was not `STALE` (R175, R177). A change of `DIVIDER` or `R_REF` alone is a changed source too (log 68). -/
def State.applySource (t : State) (p : Nat) : State :=
  let x := t.pt p
  let mine (e : QE SmpVal) : Bool := match e.val with | .ai q _ _ => q == p | .ci q _ => q == p | _ => false
  let t1 := { t.freshPoint p with se.qSmp := t.se.qSmp.map fun r => r.filter fun e => !mine e }
  let t2 := if x.stat == .stale then t1 else t1.raise (prSE 0) evPointStale p 0xFFFFFF
  if t.srcType p == 0 || x.stat != .stale || x.cause != 6 || x.byStart then t2.publish 0 p else t2

/-- A gang ends before another `GANG` code takes effect (R33, R267): with fast decay, during which `DE` still drives it as it was; at a
disable with `GANG` 0 it goes to its safe value (R263), and stays there with `SAFE_ON` set. -/
def State.leaveGang (s : State) (ch new : Nat) : State :=
  let code := s.drvGang ch
  let chans := s.gangChans ch
  let s1 := s.cancelProve ch
  let safe := (Stage.of 4 ch).elim fZero s.safeValue
  let s2 := if new != 0 then (s1.stopGang ch 8).unqueue ch
    else if (s1.vlv ch).guard then s1
    else s1.gangCmd ch safe false
  let on := (s2.vlv ch).st != .off
  let s3 := chans.foldl (fun t c => t.modVlv c fun v => { v with drv := if on then some (if c == ch then code else 0) else none }) s2
  if new == 0 && on && (s2.vlv ch).st != .decay then s3
  else s3.modVlv ch fun v => { v with cmd := fZero, iset := fZero, lastSet := none, clamped := false, stepDown := false, capF := 8 }

/-- Another `GANG` code of a channel ends the gang that `DE` drives from it, and every old gang that still runs in a channel of the new one
(R267). -/
def State.leaveGangs (s : State) (ch new : Nat) : State :=
  let kept (b : Nat) : Bool := b != ch && (s.vlv b).drv.isSome && (s.vlv b).st != .decay
  let old := ((List.range (gangLen new)).filterMap fun k => s.gangBase (ch + k)).eraseDups.filter kept
  let s1 := old.foldl (fun (t : State) b => t.leaveGang b new) s
  if s1.drvGang ch != 0 && !s1.isMember ch then s1.leaveGang ch new else s1

/-- An accepted configuration ends a group's `CONFIG` fault (Table 9.5). -/
def State.configAccepted (t : State) (g : Nat) : State :=
  if (t.vgrp g).config then (t.modGrp g fun y => { y with config := false }).raise prDE evValveFaultClear (0x100 + g) 6 else t

/-- A valve channel's or group's configuration: its latches end, and a group that was latched off comes back (Table 9.5). -/
def State.applyValve (s t : State) (i : Nat) : State :=
  let t1 := t.configAccepted (if i ≥ 0x100 then i - 0x100 else i / 6)
  if i ≥ 0x100 then
    if (t1.vgrp (i - 0x100)).latched then
      (t1.modGrp (i - 0x100) fun g => { g with latched := false, hsOff := none, trips := [] }).groupBack (i - 0x100)
    else t1
  else
    let t2 := if (t1.vlv i).fault == 5 then
        ((t1.unfault i).modVlv i fun v => { v with trips := [] }).raise prDE evValveFaultClear i 5
      else t1
    if h : i < 24 then
      (if t.gang i == 0 && s.gang i != 0 then t2.endDirect (.valve ⟨i, h⟩) 2
       else if t.gang i != s.gang i then t2.retake (.valve ⟨i, h⟩)
       else t2)
    else t2

/-- A write of a fan's configuration ends `OCP_LATCHED` (Table 10.4), and another `DRIVE`, `PPR` or `LF_HZ` clears its signature
(R278). -/
def State.fanRewritten (s t : State) (n : Nat) : State :=
  let same (f : Fld) : Bool := s.fc n f == t.fc n f
  let t1 := if (t.fan n).st == .ocpLatched then
      (t.modFan n fun y => { y with st := if y.faultL then .fault else .off, trips := [], awaitCmd := true }).fanResults n false
    else t
  if same Fd.fConf.DRIVE && same Fd.fConf.PPR && same Fd.fConf.LF_HZ then t1
  else t1.modFan n fun y => { y with sig := List.replicate 8 (0#32, 0) }

/-- A linked output stands at the low end of its range while its fan's duty is 0 (R293). -/
def State.linkOutput (s t : State) (n : Nat) : State :=
  if t.fanDrive n != 3 || (s.fanDrive n == 3 && s.fc n Fd.fConf.AO_LINK == t.fc n Fd.fConf.AO_LINK) then t
  else t.setDuty n (if (t.fan n).onAt.isNone then fZero else (t.fan n).d)

/-- Another range of an output that a fan drives: it goes on from the new low end, at the fan's duty, or at it when the fan is off (R293). -/
def State.applyRange (s t : State) (n : Nat) : State :=
  if fEq (s.aoLow n) (t.aoLow n) then t
  else match t.aoLink n with
  | some k => t.setDuty k (if (t.fan k).onAt.isNone then fZero else (t.fan k).d)
  | none => t

/-- `DRIVE`, `PPR` and `AO_LINK` of a fan stay as they are: its stage is not stopped (R295). -/
def State.sameDrive (s t : State) (n : Nat) : Bool :=
  let same (f : Fld) : Bool := s.fc n f == t.fc n f
  same Fd.fConf.DRIVE && same Fd.fConf.PPR && same Fd.fConf.AO_LINK

/-- The target of a fan that a write has stopped is decided afresh: what Guard holds, or a direct command in force, brings it back, as
rows 1 and 4 of Table 10.3 still apply (R275). -/
def State.fanRow (t : State) (n : Fin 12) : State :=
  if t.guardHas (.fan n) then t.retake (.fan n)
  else match t.directOf (.fan n) with
  | some d => t.stageCmd (.fan n) d.value false
  | none => t

/-- A fan that loses its drive loses its direct command, and so does an output that a fan now drives; a fan that has just been given a
drive, or another one, follows Guard, its direct command, its force and the comparator (R275, R286, R288, R405). -/
def State.applyFan (s t1 : State) (n : Nat) : State :=
  let t0 := s.linkOutput (s.fanRewritten t1 n) n
  let t2 := if h : n < 12 then (if s.sameDrive t1 n || t1.fanDrive n == 0 then t0 else t0.fanRow ⟨n, h⟩) else t0
  let t3 := if t2.deOn then t2.critFollowFan n else t2
  let t := if (t3.fan n).forced && (t3.fan n).st == .off then t3.fanRetarget n false else t3
  let t4 := if h : n < 12 then (if t.fanDrive n == 0 then t.endDirect (.fan ⟨n, h⟩) 2 else t) else t
  if t.fanDrive n == 3 then t4.endDirect (.ao (Fin.ofNat 16 (t.fc n Fd.fConf.AO_LINK))) 2 else t4

/-- The predictive groups: another `N_A` resets the model, whose history begins at a step boundary at most, another neighbour its
entry (R223, R226); positions that are not in use any more hold 0 (R220), and `MODEL_OK` follows its limits (R225). -/
def State.applyModel (s t : State) (i : Nat) : State :=
  if i == 0 then
    (if s.pc Fd.peConf.OUT_PT == t.pc Fd.peConf.OUT_PT then t
     else (List.range 32).foldl State.dropUnused { t with pr.outT := none }.noteOutdoor)
  else
    let z := i - 1
    let keep := if (t.per.count + 1) % t.planEvery == 0 then 1 else 0
    let t1 := if s.mc z Fd.mdConf.N_A != t.mc z Fd.mdConf.N_A then t.resetModel prPE 5 z 4 keep else t
    let t2 := (List.range 4).foldl (fun u n => if s.nbr z n != u.nbr z n then u.resetNbr z n else u) t1
    (t2.dropUnused z).qualify prPE z

/-- Presence inputs that name another point have no value of a previous computation (R195). -/
def State.presRebound (s t : State) (z : Nat) : State :=
  let same (f : Fld) : Bool := s.cf (prObj z 0x020) f == t.cf (prObj z 0x020) f
  t.modPres z fun y =>
    { y with pir0 := if same Fd.presConf.PIR0_PT then y.pir0 else none, pir1 := if same Fd.presConf.PIR1_PT then y.pir1 else none,
             door := if same Fd.presConf.DOOR_PT then y.door else none }

/-- An actuator input that names another stage, or none, has no command yet; a parameter of an input without a stage is 0 (R210,
R214, R220). -/
def State.applyInputs (s t : State) (z : Nat) : State :=
  ((List.range 4).foldl (fun (u : State) i =>
    if s.inputStage z i == u.inputStage z i then u
    else u.modInp z i fun x => { ({} : Inp) with b := x.b, bComp := x.bComp, floor := x.floor }) t).dropUnused z

/-- The neighbour entries that a write of `n` words carries count as removed until a fresh state arrives (R238). -/
def State.nbrWritten (t : State) (z n : Nat) : State :=
  t.modMdl z fun m => { m with nbrs := (List.range 4).map fun k => if 10 + k < n then {} else m.nbrs.getD k {} }

/-- The matrix goes off: no key is down, the change buffer is still sent (R304). -/
def State.applyPanel (s t : State) : State :=
  if s.pnCf Fd.pnConf.ENABLE == t.pnCf Fd.pnConf.ENABLE then t
  else
    let clear (p : Panel) : Panel := { p with keys := 0, stuck := 0, frozenO := 0, frozenI := 0, clean := 0, scanAt := none }
    (t.modPn clear).modPn fun p =>
      { p with cnt := List.replicate 64 0, diff := List.replicate 64 0, down := List.replicate 64 none }

/-- A port's configuration: the port leaves the bus and integrates again, goes on or goes off (R344). -/
def State.applyPort (t : State) (p : Nat) : State :=
  if (t.port p).st == .off then (if t.canPower p then t.canOn p else t)
  else (t.modPort p fun x => { x with reconf := true }).canLeave p

/-- The fabric is switched off or on, or another address is preferred (R375); a changed configuration has Junction write the acceptance
rules anew (R323), and a node elects with its new priority (R358). -/
def State.applyFabric (s t : State) (same : Bool) : State :=
  let was := s.fbf Fd.fbConf.FABRIC_EN != 0
  let is := t.fbf Fd.fbConf.FABRIC_EN != 0
  let pref := t.fbf Fd.fbConf.ADDR_PREF
  let u := if same then t else (List.range 3).foldl State.jnRules t
  if was && !is then u.fabOff
  else if !was && is then u.fabReady
  else
    let v := if same || u.fb.node == 0 then u else u.elect none
    if pref != s.fbf Fd.fbConf.ADDR_PREF && pref != 0 && pref != u.fb.node && u.jnOn then v.claimStart pref 0 false else v

/-- A copy under way in a region completes where it began, before the region's record length changes (R385, R400). -/
def State.endRegionCopy (s : State) (r : Nat) : State :=
  if s.rs.cur.any fun e => e.region == r then (s.advTo s.rs.curEnd).endCopy else s

/-- A user region whose record length has been written is filled with zeros; its writes in the list are cancelled, and the list goes on
(R400, log 67). -/
def State.reformat (s : State) (r : Nat) : State :=
  let cut := s.rs.wlist.filter fun e => e.region == r
  let s1 := (cut.foldl (fun (t : State) e => t.answerTag e.tag stCancelled 0) s).cancelXfers fun x => x.stream == 0x06 && x.sub == r
  let place := regionPlace r
  let s2 := State.raise { s1 with
    rs.wlist := s1.rs.wlist.filter fun e => e.region != r,
    rs.cells := s1.rs.cells.writeBytes place.1 (List.replicate place.2 0#8),
    rs.dups := s1.rs.dups.filter fun d => d.1 != r } prRec evRecReformat r (s1.recLen r)
  s2.startCopy

/-- What the words that a write carries do, whatever stood there before: a neighbour's group (R238), a region's length (R400). -/
def State.wroteWords (s : State) (o n : Nat) : State :=
  match objCls o, objGrp o with
  | 0x09, 0x020 => if objInst o != 0 then s.nbrWritten (objInst o - 1) n else s
  | 0x0E, 0x020 => if n == 0 then s.startCopy else s.reformat (objInst o)
  | _, _ => s

/-- A modulator whose scan mode changes ends its pass, while a conversion or calibration already started completes (R33); another scan
mode or trigger source clears the pending trigger (R163). -/
def State.applyFront (s t : State) : State :=
  (List.range 4).foldl (fun (u : State) n =>
    let u1 := if s.scanMode n == u.scanMode n then u
      else u.modMod n fun m => { m with trig := false, pass := false, lane := { m.lane with next := 0, left := 0, delayed := false } }
    if s.trigSrc n == u.trigSrc n then u1 else u1.modMod n fun m => { m with trig := false }) t

/-- What changes before the new words are in force. -/
def State.beforeWrite (s t : State) (o : Nat) : State :=
  let i := objInst o
  match objCls o, objGrp o with
  | 0x01, 0x020 => if s.zoneOn i && !t.zoneOn i then s.zoneDisable i else s
  | 0x03, 0x020 => if s.cf o Fd.loopConf.ZONE != t.cf o Fd.loopConf.ZONE then s.loopOff i else s
  | 0x04, 0x020 => if i < 24 && s.gang i != t.gang i then s.leaveGangs i (t.gang i) else s
  | 0x05, 0x020 =>
    if s.sameDrive t i then s else s.fanStop i
  | 0x0E, 0x020 => s.endRegionCopy i
  | _, _ => s

/-- What follows once the new words are in force: `s` before, `t` after. -/
def State.afterWrite (s t : State) (o : Nat) (g : Grp) : State :=
  let i := objInst o
  let same := s.rwWords o g == t.rwWords o g
  match objCls o, objGrp o with
  | 0x01, 0x020 => s.applyZone t i
  | 0x01, 0x040 => s.applyInputs t i
  | 0x08, 0x020 => s.presRebound t i
  | 0x02, 0x020 => if same then t else t.applySource i
  | 0x04, 0x020 => s.applyValve t i
  | 0x05, 0x020 => s.applyFan t i
  | 0x06, 0x020 => s.applyRange t i
  | 0x09, 0x020 => s.applyModel t i
  | 0x0A, 0x020 => if i == 0 then s.applyPanel t else t
  | 0x0B, 0x020 => if same then t else t.applyPort i
  | 0x0C, 0x020 => t.ttEnable i
  | 0x0D, 0x020 => s.applyFabric t same
  | 0x11, 0x040 => { t with host.talkAt := t.now }
  | 0x11, 0x050 => s.applyFront t
  | _, _ => t

/-- A write takes effect: the work in flight ends, the words change, and the record is written when they differ. -/
def State.applyWrite (s : State) (o : Nat) (g : Grp) (ws : List Word) : State :=
  let t := s.setWords o g 0 ws
  let s1 := (s.beforeWrite t o).setWords o g 0 ws
  let s2 := (s.afterWrite s1 o g).wroteWords o ws.length
  if s.rwWords o g == s2.rwWords o g then s2 else s2.storeCfg s o g

/-- The override group: what the write carries starts or ends (R205). -/
def State.applyOverride (s : State) (z : Nat) (ws : List Word) (src : Nat) : State :=
  let n := ws.length
  let word (k : Nat) : Nat := (ws.getD k 0#32).toNat
  let s0 := if n == 0 then s else s.modZone z fun x => { x with ovrSrc := src }
  let s1 := if n ≥ 2 then s0.writeOverride z (bits (word 0) 31 28) (word 1) src else s0
  let s2 := if n ≥ 3 then s1.writeOffset z (ws.getD 2 0#32) src else s1
  if n ≥ 4 then s2.modZone z fun x => { x with keep := bitOf (word 3) 31 } else s2

/-! ### Acceptance -/

/-- A write that waits for a Changeover. -/
def State.pendWrite (s : State) (o : Nat) (ws : List Word) (co : Nat) (late : Bool) : State :=
  { s with cfgPend := s.cfgPend ++ [{ obj := o, words := ws, takes := 1, co := co, late := late }] }

/-- `WO` and `W1C` bits act when the write is accepted (R13, R48, R239, R295). -/
def State.actWo (s : State) (o : Nat) (ws : List Word) : State :=
  let w := (ws.getD 0 0#32).toNat
  if objCls o == 0x09 && objGrp o == 0x020 && objInst o != 0 && bitOf w 26 then
    s.modMdl (objInst o - 1) fun m => { m with resetDue := true }
  else if objCls o == 0x05 && objGrp o == 0x020 && bitOf w 25 then
    s.modFan (objInst o) fun y => { y with sig := List.replicate 8 (0#32, 0) }
  else if objCls o == 0x11 && objGrp o == 0x020 then
    let v := (ws.getD 3 0#32).toNat
    s.modQ (objInst o) fun x => { x with poisonSeen := x.poisonSeen && !bitOf v 1, underSeen := x.underSeen && !bitOf v 0 }
  else s

/-- A checked write: applied at once, or kept for the Changeover; `late` keeps all of it (R398). -/
def State.acceptWrite (s : State) (o : Nat) (g : Grp) (ws : List Word) (src : Nat) (late : Bool) : State :=
  let s0 := s.actWo o ws
  if !g.hasRw || ws.isEmpty then s0
  else if late then s0.pendWrite o ws s0.coDue true
  else
    let takes := s0.takesOf o g ws
    if objCls o == 0x01 && objGrp o == 0x060 then s0.applyOverride (objInst o) ws src
    else if objCls o == 0x0F then
      let s1 := s0.applyWrite o g (ws.take 1)
      if takes == 1 then s1.pendWrite o ws s1.coDue false else s1
    else if takes == 0 then s0.applyWrite o g ws
    else if objCls o == 0x09 && objInst o != 0 then
      let w := wd (putBit (s0.rwWord o g 0) 27 (bitOf (ws.getD 0 0#32).toNat 27))
      (s0.applyWrite o g [w]).pendWrite o ws s0.coDue false
    else s0.pendWrite o ws s0.coDue false

/-- The logged trace of a configuration write from the fabric (R146). -/
def State.noteWrite (s : State) (o src : Nat) : State :=
  if src == 0 then s
  else s.sbEvent evConfigWritten 0 (src % 2 ^ 16 * 2 ^ 16 + objCls o * 256 + objInst o % 256)

/-- The words that a write stores: in a fabric the node's own `PERIOD_MS` stays as it is while the group reads the period it follows (R22),
and what Profile L holds in force of the panel stays as it was in native operation (R305). -/
def State.keptWords (s : State) (o : Nat) (g : Grp) (ws : List Word) : List Word :=
  if o == sysObj 0x010 && s.inFabric && !ws.isEmpty then wd (s.rwWord o g 0) :: ws.drop 1
  else if s.mn.profActive && o == pnObj 0 0x020 then lmod ws 0 fun w =>
    let old := s.rwWord o g 0
    wd (putBits (putBit w.toNat 31 (bitOf old 31)) 27 20 (bits old 27 20))
  else if s.mn.profActive && o == pnObj 0 0x030 then (List.range ws.length).map fun k => wd (s.rwWord o g k)
  else ws

/-- A write of the words given to a group: status, `DETAIL` and `TAKES` (R110, R125). `src` is 0 for the host. -/
def State.objWrite (s : State) (o : Nat) (g : Grp) (given : List Word) (src : Nat) : State × Nat × Nat × Nat :=
  let asked := s.completeWords o (given.take g.words)
  match s.writeCheck o g asked with
  | some v => (s, v.1, v.2, 0)
  | none =>
    let ws := s.keptWords o g asked
    let takes := s.takesOf o g ws
    let s1 := (s.acceptWrite o g ws src false).noteWrite o src
    if given.length > g.words then (s1, stPartial, 4 * g.words, takes) else (s1, stOk, 0, takes)

/-- A panel action joins the order of requests (R146, R308). -/
def State.panelReq (s : State) (a : PanelAct) : State := { s with host.reqs := s.host.reqs ++ [{ origin := .panel a }] }

/-- `KEY_DOWN` of a key that is neither frozen nor stuck and `ENC_STEPS` start panel actions, `FAN_SIG_SAVE` a record write (R308, R309,
R277); Guard's reports are kept (R408). -/
def State.evtHook (s : State) (code inst arg : Nat) : State :=
  if code == evKeyDown then
    if s.panelActs && !frozenKey s.pn.frozenO s.pn.frozenI arg && !bitOf s.pn.stuck arg then s.panelReq (.key arg) else s
  else if code == evEncSteps then (if s.panelActs then s.panelReq (.enc (inst - 1) (sgn 32 arg)) else s)
  else if code == evFanSigSave then s.postRec 0 { region := 3, record := inst, data := bytesOfWords (s.sigWords inst) }
  else s.guardReport code inst arg

/-- Every producer sends what it holds, as far as its credits allow (R45). -/
def State.sendProds (s : State) : State :=
  (List.range 12).foldl (fun (t : State) p => (t.sendHeld p 8).sendOverflow p) s

/-- Events of a step that reports on many objects: `SB` takes them while the step goes on. -/
def State.letEvtsGo (s : State) : State := s.sendProds.takeEvts State.evtHook 64

/-- Zones keep entries of the points bound to them alone (R192). -/
def State.dropUnbound (s : State) : State :=
  (List.range 32).foldl (fun (t : State) z =>
    let l := s.zonePoints z
    t.modZone z fun x => { x with entries := x.entries.filter fun e => l.contains e.1 }) s

/-- The writes that a Changeover makes take effect, in the order of their execution (R125). -/
def State.applyPending (s : State) (co : Nat) : State :=
  let due := s.cfgPend.filter fun w => w.co ≤ co
  let s1 := { s with cfgPend := s.cfgPend.filter fun w => co < w.co }
  if due.isEmpty then s1
  else State.dropUnbound (due.foldl (fun (t : State) w => match grpOf w.obj with
    | some g => t.applyWrite w.obj g (if w.late then w.words else t.lateWords w.obj g w.words)
    | none => t) s1)

end Sys2Proof.Machine
end

