-- ==== Sys2Proof/Machine/Crypto.lean ====
section
/-!
DEFINITION. Sys2Proof/Machine/Crypto.lean: SHA-256 and ECDSA P-256 verification, the two published standards that
the image check of chapter 03 (R71) and the record passwords of chapter 14 (R397) rest on.
-/
namespace Sys2Proof.Machine
open Sys2Proof

/-! ### SHA-256 (FIPS 180-4) -/

/-- The largest root of `n` bits whose `k`-th power is not above `x`, found from the top digit down. -/
def intRoot (k : Nat) : Nat → Nat → Nat
  | 0, _ => 0
  | n + 1, x =>
    let r := 2 * intRoot k n (x >>> k)
    if (r + 1) ^ k ≤ x then r + 1 else r

/-- The first 64 prime numbers: those below 18², which a prime below 18 divides only if it is that prime. -/
def primes64 : List Nat := (List.range 312).filter fun n => 1 < n && (List.range 16).all fun d => n == d + 2 || n % (d + 2) != 0

/-- The first 32 bits of the fraction of the `k`-th root of `p`. -/
def rootFraction (k p : Nat) : Word := BitVec.ofNat 32 (intRoot k 36 (p <<< (32 * k)))

/-- The initial hash: the square roots of the first eight primes. -/
def shaInit : List Word := (primes64.take 8).map (rootFraction 2)

/-- The constant of each round: the cube roots of the first 64 primes. -/
def shaConsts : List Word := primes64.map (rootFraction 3)

/-- XOR of the rotations of a word to the right by the amounts given. -/
def xorTurns (l : List Nat) (x : Word) : Word := l.foldl (fun acc n => acc ^^^ x.rotateRight n) 0

/-- The word that follows a window of sixteen words of the schedule. -/
def shaNextWord (win : List Word) : Word :=
  let at_ (i : Nat) : Word := win.getD i 0
  at_ 0 + (xorTurns [7, 18] (at_ 1) ^^^ (at_ 1 >>> 3)) + at_ 9 + (xorTurns [17, 19] (at_ 14) ^^^ (at_ 14 >>> 10))

/-- A round for each constant left: the working words after them, the window of the schedule moving on with each. -/
def shaRounds : List Word → List Word → List Word → List Word
  | [], _, v => v
  | k :: ks, win, v =>
    let x (i : Nat) : Word := v.getD i 0
    let choice := x 6 ^^^ (x 4 &&& (x 5 ^^^ x 6))
    let major := (x 0 &&& x 1) ||| (x 2 &&& (x 0 ||| x 1))
    let t := x 7 + xorTurns [6, 11, 25] (x 4) + choice + k + win.getD 0 0
    let fresh := t + xorTurns [2, 13, 22] (x 0) + major
    shaRounds ks (win.drop 1 ++ [shaNextWord win]) (fresh :: v.take 3 ++ (x 3 + t) :: (v.drop 4).take 3)

/-- The big-endian words of a byte list, `n` of them. -/
def beWords : Nat → List Byte → List Word
  | 0, _ => []
  | n + 1, l => wd (leNat (l.take 4).reverse) :: beWords n (l.drop 4)

/-- The hash after `n` blocks of 64 bytes. -/
def shaBlocks : Nat → List Byte → List Word → List Word
  | 0, _, h => h
  | n + 1, l, h => shaBlocks n (l.drop 64) (List.zipWith (· + ·) h (shaRounds shaConsts (beWords 16 l) h))

/-- Big-endian bytes of a number, `k` of them. -/
def beBytes (k n : Nat) : List Byte := (leBytes k n).reverse

/-- The padded message. -/
def shaPad (l : List Byte) : List Byte :=
  let z := (64 - (l.length + 9) % 64) % 64
  l ++ [0x80#8] ++ List.replicate z 0#8 ++ beBytes 8 (8 * l.length)

/-- SHA-256 of a byte list: 32 bytes. -/
def sha256 (l : List Byte) : List Byte :=
  let p := shaPad l
  (shaBlocks (p.length / 64) p shaInit).flatMap fun w => beBytes 4 w.toNat

/-- The number of a big-endian byte list. -/
def beNat (l : List Byte) : Nat := l.foldl (fun a b => a * 256 + b.toNat) 0

/-! ### NIST P-256 -/

/-- The field prime. -/
def p256P : Nat := 0xffffffff00000001000000000000000000000000ffffffffffffffffffffffff
/-- The group order. -/
def p256N : Nat := 0xffffffff00000000ffffffffffffffffbce6faada7179e84f3b9cac2fc632551
/-- The curve constant b. -/
def p256B : Nat := 0x5ac635d8aa3a93e7b3ebbd55769886bc651d06b0cc53b0f63bce3c3e27d2604b
/-- The base point. -/
def p256G : Nat × Nat :=
  (0x6b17d1f2e12c4247f8bce6e563a440f277037d812deb33a0f4a13945d898c296,
   0x4fe342e2fe1a7f9b8ee7eb4a7c0f9e162bce33576b315ececbb6406837bf51f5)

/-- base^e modulo m over the `k` low bits of e. -/
def powMod (m : Nat) : Nat → Nat → Nat → Nat
  | 0, _, _ => 1 % m
  | k + 1, b, e =>
    let r := powMod m k (b * b % m) (e / 2)
    if e % 2 == 1 then b * r % m else r

/-- The inverse modulo a prime. -/
def invMod (m a : Nat) : Nat := powMod m 256 (a % m) (m - 2)

/-- Subtraction modulo m. -/
def subMod (m a b : Nat) : Nat := (a % m + m - b % m) % m

/-- Point addition; none is the point at infinity. -/
def ecAdd (a b : Option (Nat × Nat)) : Option (Nat × Nat) :=
  match a, b with
  | none, q => q
  | p, none => p
  | some (x1, y1), some (x2, y2) =>
    if x1 == x2 && (y1 + y2) % p256P == 0 then none
    else
      let l :=
        if x1 == x2 then subMod p256P (3 * x1 * x1) 3 * invMod p256P (2 * y1) % p256P
        else subMod p256P y2 y1 * invMod p256P (subMod p256P x2 x1) % p256P
      let x := subMod p256P (l * l) (x1 + x2)
      some (x, subMod p256P (l * subMod p256P x1 x) y1)

/-- k · P over the `n` low bits of k. -/
def ecMul : Nat → Nat → Option (Nat × Nat) → Option (Nat × Nat)
  | 0, _, _ => none
  | n + 1, k, p =>
    let r := ecMul n (k / 2) (ecAdd p p)
    if k % 2 == 1 then ecAdd p r else r

/-- True for a point of the curve with coordinates below the prime. -/
def onP256 (q : Nat × Nat) : Bool :=
  q.1 < p256P && q.2 < p256P && (q.2 * q.2) % p256P == (subMod p256P (q.1 * q.1 * q.1) (3 * q.1) + p256B) % p256P

/-- ECDSA P-256 verification of (r, s) over the SHA-256 digest `h` under the public point `q`. -/
def ecdsaVerify (q : Nat × Nat) (h r s : Nat) : Bool :=
  if r == 0 || s == 0 || r ≥ p256N || s ≥ p256N || !onP256 q then false
  else
    let w := invMod p256N s
    match ecAdd (ecMul 256 (h * w % p256N) (some p256G)) (ecMul 256 (r * w % p256N) (some q)) with
    | none => false
    | some (x, _) => x % p256N == r

end Sys2Proof.Machine
end

