-- ==== Sys2Proof/Machine/Images.lean ====
section
/-!
DEFINITION. Sys2Proof/Machine/Images.lean: firmware images and banks (R70–R73), and the registers that Depot opens: the raw
check-value unit (R55, R56), the manual driver pulse unit (Table 9.6) and the raw CAN registers (R142, R346).
-/
namespace Sys2Proof.Machine
open Sys2Proof

/-! ### Images (R70, R71) -/

/-- The flash of a bank: 0 A, 1 B. -/
def State.flash (s : State) (b : Nat) : Mem := if b == 0 then s.flashA else s.flashB

/-- Header fields of a bank's image (Table 3.4). -/
def imgVersion (m : Mem) : Nat := m.le 8 4
def imgLen (m : Mem) : Nat := m.le 12 4
def imgKey (m : Mem) : Nat := m.le 16 1
def imgProto (m : Mem) : Nat := m.le 17 1
def imgDeId (m : Mem) : Nat := m.le 20 4

/-- The header's form (R70). -/
def headerOk (m : Mem) : Bool :=
  m.bytes 0 4 == [0x4D#8, 0x5A#8, 0x46#8, 0x57#8] && m.le 4 2 == 1 && m.le 6 2 == 0 && m.le 18 2 == 0 &&
    (m.bytes 56 8 ++ m.bytes 128 128).all (· == 0#8) &&
    decide (256 ≤ imgLen m) && decide (imgLen m ≤ 4194048) && imgLen m % 256 == 0

/-- Key slot 1 as record 3 of region 0 holds it: empty when all zero. -/
def State.key1 (s : State) : Option (Nat × Nat) :=
  let d := s.recData 0 3
  if d.all (· == 0#8) then none else some (beNat (d.take 32), beNat (d.drop 32))

/-- Key slot 0 is disabled: record 4 says so, or is invalid or at default while record 3 holds a key (R391). -/
def State.key0Off (s : State) : Bool :=
  let r := s.recSel 0 4
  bitOf (leAt r.data 0 1) 0 || (s.key1.isSome && r.valid ≥ 8)

/-- The public key of a slot; none when the slot is empty or disabled (R71). -/
def State.keyOf (s : State) (slot : Nat) : Option (Nat × Nat) :=
  if slot == 0 then (if s.key0Off then none else some Config.romKey) else if slot == 1 then s.key1 else none

/-- The image check (R71). -/
def State.imageOk (s : State) (b : Nat) : Bool :=
  let m := s.flash b
  headerOk m && (match s.keyOf (imgKey m) with
    | none => false
    | some q =>
      sha256 (m.bytes 256 (imgLen m)) == m.bytes 24 32 &&
        ecdsaVerify q (beNat (sha256 (m.bytes 0 64))) (beNat (m.bytes 64 32)) (beNat (m.bytes 96 32)))

/-! ### Bank control (R72; record 0 of region 0) -/

/-- Byte `k` of the bank-control record is changed by a write of the record (log 48). -/
def State.setBankBytes (s : State) (f : List Byte → List Byte) : State := s.landCopy 0 0 false (f (s.recData 0 0))

/-- A bank takes a state. -/
def State.setBank (s : State) (b st : Nat) : State := s.setBankBytes fun d => d.set b (by8 st)

/-- The end of a load: the image is checked and the bank takes its state (R73); answers the state. -/
def State.bankLoaded (s : State) (b : Nat) : State × Nat :=
  let st := if s.imageOk b then 1 else 5
  let ver := leBytes 4 (imgVersion (s.flash b))
  let s1 := s.setBankBytes fun d => (d.set b (by8 st)).take (4 + 4 * b) ++ ver ++ d.drop (8 + 4 * b)
  (if st == 5 then s1.sbEvent evImageRejected 0 b else s1, st)

/-- Writes a load's bytes into a bank. -/
def State.writeFlash (s : State) (b : Nat) (l : List Byte) : State :=
  if b == 0 then { s with flashA := s.flashA.writeBytes 0 l } else { s with flashB := s.flashB.writeBytes 0 l }

/-! ### The raw check-value unit (R55, R56, Table 2.9) -/

/-- `CFG_ERR`: `WIDTH` is 0 or above 32. -/
def RawCrc.err (c : RawCrc) : Bool := c.width == 0 || c.width > 32

/-- The parameters that the registers hold. -/
def RawCrc.params (c : RawCrc) : CrcParams := ⟨c.width, c.poly, c.init, c.refin, c.refout, c.xorout⟩

/-- `START`: the register takes `INIT`. With `CFG_ERR` 1, `START`, `STATE` and `RESULT` go by the `WIDTH` written (log 66). -/
def RawCrc.start (c : RawCrc) : RawCrc := { c with reg := c.init % 2 ^ c.width }

/-- Bytes fed into the register; ignored with `CFG_ERR`. -/
def RawCrc.feed (c : RawCrc) (l : List Byte) : RawCrc := if c.err then c else { c with reg := crcFeed c.params c.reg l }

/-- A register as it reads. -/
def RawCrc.read (c : RawCrc) (off : Nat) : Nat :=
  match off with
  | 0x00 => b2n c.err * 2 ^ 14 + b2n c.refout * 2 ^ 13 + b2n c.refin * 2 ^ 12 + c.width
  | 0x04 => c.poly
  | 0x08 => c.init
  | 0x0C => c.xorout
  | 0x18 => c.reg % 2 ^ c.width
  | 0x1C => crcResult c.params (c.reg % 2 ^ c.width)
  | _ => 0

/-- A register written; `START` uses the words just written. -/
def RawCrc.write (c : RawCrc) (off v : Nat) : RawCrc :=
  match off with
  | 0x00 =>
    let c1 := { c with refout := bitOf v 13, refin := bitOf v 12, width := bits v 5 0 }
    if bitOf v 8 then c1.start else c1
  | 0x04 => { c with poly := v }
  | 0x08 => { c with init := v }
  | 0x0C => { c with xorout := v }
  | 0x10 => c.feed [by8 v]
  | 0x14 => c.feed (leBytes 4 v)
  | _ => c

/-- CRC_START: the bit `START` is written. -/
def execCrcStart (s : State) : Out := if s.depotOpen then .next { s with crc := s.crc.start } else .next s

/-- CRC_DATA8: one byte is fed. -/
def execCrcData8 (b : Byte) (s : State) : Out := if s.depotOpen then .next { s with crc := s.crc.feed [b] } else .next s

/-- CRC_DATA32: four bytes are fed, bits [7:0] first. -/
def execCrcData32 (v : Word) (s : State) : Out :=
  if s.depotOpen then .next { s with crc := s.crc.feed (leBytes 4 v.toNat) } else .next s

/-! ### The pulse unit's registers (Table 9.6) -/

/-- A register as it reads. -/
def State.pulseRead (s : State) (off : Nat) : Nat :=
  let p := s.act.pulse
  if off == 0x00 then
    b2n p.busy * 2 ^ 31 + b2n s.pulseCfgErr * 2 ^ 30 + p.target * 2 ^ 16 + b2n p.fast * 2 ^ 9 + b2n p.capture * 2 ^ 8
  else if off == 0x04 then p.us
  else if off == 0x08 then p.lim
  else if off == 0x0C then p.sampleUs
  else if off == 0x10 then p.result * 2 ^ 24 + p.verdict * 2 ^ 16 + sat 16 p.iMax
  else if off == 0x14 then p.ttp
  else if off == 0x18 then p.dip
  else if 0x20 ≤ off then p.sample s.now ((off - 0x20) / 4)
  else 0

/-- The stages of the gang or fan that `TARGET` names. -/
def State.pulseStage (s : State) : Option Stage :=
  match s.targetGang s.act.pulse.target, s.targetFan s.act.pulse.target with
  | some b, _ => Stage.of 4 b
  | none, some n => Stage.of 5 n
  | none, none => none

/-- A pulse would go into a stage of a guard zone, which is denied (R79). -/
def State.pulseDenied (s : State) : Bool := s.pulseStage.any s.guardStage

/-- FIRE: no pulse goes into a stage of a guard zone (R79). -/
def execFire (s : State) : Out := if s.depotRegs && s.deOn && !s.pulseDenied then .next s.fire else .next s

/-- A register written; none when the write would fire a stage of a guard zone (R142). -/
def State.pulseWrite (s : State) (off v : Nat) : Option State :=
  let p := s.act.pulse
  if off == 0x00 then
    let s1 := { s with act.pulse := { p with target := bits v 23 16, fast := bitOf v 9, capture := bitOf v 8 } }
    let s2 := if bitOf v 1 then s1.abortPulse else s1
    if !bitOf v 0 then some s2 else if s2.pulseDenied then none else some s2.fire
  else if off == 0x04 then some { s with act.pulse := { p with us := v } }
  else if off == 0x08 then some { s with act.pulse := { p with lim := v } }
  else if off == 0x0C then some { s with act.pulse := { p with sampleUs := v } }
  else some s

/-! ### Register blocks (R142, Table 5.16) -/

/-- Bytes of a register block; none for a block that does not exist. -/
def blockSize (b : Nat) : Option Nat :=
  match b with
  | 0 => some 0x20
  | 1 => some 0xA4
  | 2 => some 0xA4
  | 3 => some 0xA4
  | 4 => some 0xA0
  | _ => none

/-- The bits of a register that are not reserved. -/
def blockBits (b off : Nat) : Nat :=
  let all := 0xFFFFFFFF
  if b == 0 then
    (if off == 0x00 then 0x0000713F else if off == 0x10 then 0xFF else all)
  else if b ≤ 3 then
    (if off == 0x00 then 0xF else if off == 0x04 then 0xFFFFFF7F else if off == 0x0C then 0x31F else if off == 0x10 then 0xFFFF0000
     else if off == 0x1C then 0x11F else if off == 0xA0 then 0xFFFF else all)
  else
    (if off == 0x00 then 0xC0FF0303 else if off == 0x10 then all else if off == 0x1C then 0 else 0xFFFF)

/-- A value out of the range of its register's field. -/
def blockRangeBad (b off v : Nat) : Bool :=
  let out (lo hi : Nat) : Bool := v < lo || hi < v
  if b == 0 then false
  else if b ≤ 3 then off == 0x00 && bits v 2 0 ≥ 6
  else (off == 0x04 && out 10 50000) || (off == 0x08 && out 10 10000) || (off == 0x0C && out 10 2000)

/-- A register of a block as it reads. -/
def State.blockRead (s : State) (b off : Nat) : Nat :=
  if b == 0 then s.crc.read off else if b ≤ 3 then s.rawRead (b - 1) off else s.pulseRead off

/-- A register of a block written; none when it is denied. -/
def State.blockWrite (s : State) (b off v : Nat) : Option State :=
  if b == 0 then some { s with crc := s.crc.write off v }
  else if b ≤ 3 then some (s.rawWrite (b - 1) off v)
  else s.pulseWrite off v

/-- Words written in ascending offset; the words before a denied one stand. Answers whether one was denied. -/
def State.blockWrites (s : State) (b : Nat) : Nat → List Nat → State × Bool
  | _, [] => (s, false)
  | off, v :: l =>
    match s.blockWrite b off v with
    | none => (s, true)
    | some t => State.blockWrites t b (off + 4) l

end Sys2Proof.Machine
end

