-- ==== Sys2Proof/Machine/Requests.lean ====
section
/-!
DEFINITION. Sys2Proof/Machine/Requests.lean: the opcodes (Table 5.3), the checks that every request passes before it is executed
(Table 4.6, R108, Table 5.18), and the order of execution (R106, R146).
-/
namespace Sys2Proof.Machine
open Sys2Proof

/-! ### Opcodes (Table 5.3) -/

/-- The families of Table 5.18. -/
inductive Fam where
  | session | mode | objRead | objWrite | window | record | fabric | can | direct | diag | depot | depotLoad
  deriving DecidableEq, Repr

/-- One row of Table 5.3: opcode, version, family, the bounds of `LENGTH`, and the classes that `OBJECT` may be of. -/
structure OpRow where
  op : Nat
  ver : Nat
  fam : Fam
  lmin : Nat
  lmax : Nat
  cls : List Nat
  deriving DecidableEq, Repr

/-- The System identity group, object of every command that addresses no particular object (R124). -/
def sysIdent : Nat := 0x11000000

/-- Session, object and window commands. `cls` is empty for `0x1100_0000` alone and 0 stands for any object. -/
def opRows1 : List OpRow :=
  [⟨0x00, 1, .session, 0, 236, []⟩, ⟨0x01, 1, .session, 4, 4, []⟩, ⟨0x02, 1, .mode, 12, 12, []⟩, ⟨0x03, 1, .mode, 4, 4, []⟩,
   ⟨0x10, 1, .objRead, 0, 0, [0]⟩, ⟨0x11, 1, .objWrite, 8, 236, [0]⟩, ⟨0x12, 2, .objWrite, 0, 0, [0]⟩,
   ⟨0x13, 2, .objRead, 4, 4, [0]⟩, ⟨0x20, 1, .window, 12, 12, []⟩, ⟨0x21, 1, .window, 12, 12, []⟩,
   ⟨0x22, 2, .window, 16, 16, []⟩]

/-- Record store, fabric and CAN commands. -/
def opRows2 : List OpRow :=
  [⟨0x30, 1, .record, 8, 8, [0x0E]⟩, ⟨0x31, 1, .record, 9, 240, [0x0E]⟩, ⟨0x32, 1, .record, 0, 0, [0x0E]⟩,
   ⟨0x33, 2, .record, 12, 12, [0x0E]⟩, ⟨0x34, 2, .record, 0, 0, [0x0E]⟩, ⟨0x35, 2, .record, 20, 20, [0x0E]⟩,
   ⟨0x36, 2, .record, 4, 4, [0x0E]⟩, ⟨0x40, 3, .fabric, 12, 240, [0x0D]⟩, ⟨0x41, 3, .fabric, 4, 4, [0x0D]⟩,
   ⟨0x42, 3, .fabric, 0, 0, [0x0D]⟩, ⟨0x43, 3, .fabric, 4, 4, [0x0D]⟩, ⟨0x50, 1, .can, 0, 0, [0x0B]⟩,
   ⟨0x51, 2, .can, 4, 4, [0x0B]⟩, ⟨0x52, 2, .can, 0, 0, [0x0C]⟩, ⟨0x53, 2, .can, 0, 0, [0x0B]⟩]

/-- Direct actuator, diagnostics and Depot commands. -/
def opRows3 : List OpRow :=
  [⟨0x60, 1, .direct, 12, 12, [4, 5, 6]⟩, ⟨0x61, 1, .direct, 0, 0, [4, 5, 6]⟩, ⟨0x62, 2, .direct, 0, 0, [5]⟩,
   ⟨0x63, 2, .direct, 0, 0, [4]⟩, ⟨0x70, 1, .diag, 8, 8, []⟩, ⟨0x71, 2, .diag, 4, 4, []⟩, ⟨0x72, 1, .diag, 0, 0, []⟩,
   ⟨0x73, 2, .diag, 8, 8, []⟩, ⟨0xE0, 1, .depot, 8, 8, []⟩, ⟨0xE1, 1, .depot, 12, 240, []⟩, ⟨0xE2, 1, .depotLoad, 8, 8, []⟩,
   ⟨0xE3, 1, .depotLoad, 4, 4, []⟩, ⟨0xE4, 1, .depot, 64, 64, []⟩, ⟨0xE5, 1, .depot, 4, 4, []⟩, ⟨0xE6, 1, .depot, 16, 16, []⟩]

/-- The row of an opcode; none for a value that Table 5.3 does not list. -/
def opRow (op : Nat) : Option OpRow := (opRows1 ++ opRows2 ++ opRows3).find? fun r => r.op == op

/-! ### Requests as taken -/

/-- A request as the device reads it: its header, `LENGTH`, payload, the protocol version in force for it (0 without a session)
and the node it comes from (0 the host). -/
structure Task where
  hdr : ReqHdr
  len : Nat
  payload : List Byte
  ver : Nat
  src : Nat
  deriving DecidableEq, Repr

/-- `FLAGS` and `CHECK` of a host request. -/
def State.slotFlags (s : State) (n : Nat) : Nat := s.host.h2d.le (256 * n + 1) 1
def State.slotCheck (s : State) (n : Nat) : Nat := s.host.h2d.le (256 * n + 12) 4

/-- Reads a request from its slot, or as it was relayed. -/
def State.readReq (s : State) (r : Req) : Task :=
  match r.origin with
  | .host n =>
    let m := s.host.h2d
    let len := m.le (256 * n + 2) 2
    { hdr := { origin := .host n, opcode := m.le (256 * n) 1, seq := m.le (256 * n + 4) 4, object := m.le (256 * n + 8) 4 },
      len := len, payload := m.bytes (256 * n + 16) (min len 240), ver := s.host.proto, src := 0 }
  | .fabric node x =>
    { hdr := { origin := .fabric node x, opcode := r.opcode, seq := x, object := r.object }, len := r.payload.length,
      payload := r.payload, ver := r.ver, src := node }
  | .panel a =>
    { hdr := { origin := .panel a, opcode := 0xFFFF, seq := 0, object := 0 }, len := 0, payload := [], ver := 0, src := 0xFFFF }

/-! ### Steps 5–11 of Table 4.6 -/

/-- HELLO, PING and the diagnostics family need neither ready nor a session. -/
def OpRow.early (r : OpRow) : Bool := r.fam == .session || r.fam == .diag

/-- Step 9: the object exists and suits the opcode (R123, R127, R138, R261); a class that does not suit the opcode is refused here, before
the tests of steps 10 and 11 (log 65). -/
def State.objectOk (s : State) (t : Task) (r : OpRow) : Bool :=
  let o := t.hdr.object
  let c := objCls o
  if r.cls.isEmpty then o == sysIdent
  else if t.hdr.opcode == 0x13 && leAt t.payload 0 1 == 1 then
    (clsInstances c).any fun i => (grpOf (objId c i (objGrp o))).isSome && s.groupThere (objId c i (objGrp o))
  else
    (grpOf o).isSome && s.groupThere o && (r.cls == [0] || r.cls.contains c) &&
      !(r.fam == .direct && c == 4 && (objInst o ≥ 24 || s.cfgMember (objInst o)))

/-- Step 10: the command is served in the current mode (Table 5.18). -/
def State.servedNow (s : State) (f : Fam) : Bool :=
  if s.mn.phase == .romDepot then f == .session || f == .depotLoad
  else match s.mn.mode with
  | .shunting => f == .session || f == .diag
  | .platform => f != .depot && f != .depotLoad
  | .mainline => f != .depot && f != .depotLoad
  | .siding => f == .session || f == .diag || f == .objRead
  | .depot => f != .direct
  | _ => false

/-- Steps 5 to 11 up to the command's own tests: status and `DETAIL` of a refusal. -/
def State.refusal (s : State) (t : Task) : Option (Nat × Nat) :=
  let row := opRow t.hdr.opcode
  let early := match row with
    | some r => r.early
    | none => false
  if s.mn.mode == .bufferStop then some (stDenied, 0)
  else if !s.mn.ready && s.mn.phase != .romDepot && !early then
    some (if (row.map (·.fam)) == some .record then stBusyRecall else stBusy, 0)
  else if t.ver == 0 && !early then some (stBadVersion, 0)
  else match row with
  | none => some (stBadVersion, 0)
  | some r =>
    if r.ver > max 1 t.ver then some (stBadVersion, 0)
    else if !s.objectOk t r then some (stBadObject, 8)
    else if !s.servedNow r.fam then some (stNotInMode, 0)
    else if t.len < r.lmin || r.lmax < t.len then some (stRange, 2)
    else none

/-! ### Taking requests (R106, R107, R108) -/

/-- Data of a `MODE_SET` response (Table 5.4). -/
def State.modeData (s : State) (target count : Nat) : List Byte :=
  [by8 s.mn.mode.code, by8 target, by8 s.svcAttempts, 0#8] ++ leBytes 4 count

/-- Response data that go with a refusal, where the layout of the command states some (R128): `XFER_READ` and `XFER_WRITE` report with
`RANGE` that nothing was moved (Table 5.6); `MODE_SET` sends its bytes 4–11 with `DENIED`, `PERIOD_COUNT` `0xFFFF_FFFF` (Table 5.4; log 65);
`REC_UNLOCK`, `REC_PASSWORD` and `DEP_SVC_PW` send the attempts left with `DENIED` (Tables 5.8, 5.14). -/
def State.refusalData (s : State) (t : Task) (status : Nat) : List Byte :=
  let op := t.hdr.opcode
  if status == stRange && (op == 0x20 || op == 0x21) then List.replicate 8 0#8
  else if status != stDenied then []
  else if op == 0x02 then s.modeData (leAt t.payload 0 1) 0xFFFFFFFF
  else if op == 0x33 || op == 0x35 then [by8 (s.attempts (objInst t.hdr.object))]
  else if op == 0xE6 then [by8 s.svcAttempts]
  else []

/-- What becomes of a request before its command is executed. -/
inductive Verdict where
  | plain (status detail : Nat)      -- steps 1 and 2: the kept request stays
  | again (bytes : List Byte)        -- step 3
  | refuse (status detail : Nat)     -- steps 4–11
  | pass
  deriving DecidableEq, Repr

/-- Table 4.6 for the request at the head of the order; relayed requests are checked from step 5 on (R136). -/
def State.verdict (s : State) (t : Task) : Verdict :=
  let late := match s.refusal t with
    | some v => Verdict.refuse v.1 v.2
    | none => .pass
  match t.hdr.origin with
  | .fabric _ _ => late
  | .panel _ => .pass
  | .host n =>
    if t.len > 240 then .plain stRange 2
    else if mailboxCheck n t.hdr.seq (s.host.h2d.bytes (256 * n) 12) t.payload != s.slotCheck n then .plain stBadCheck 0
    else match s.host.kept.getD n none with
    | some k => if k.1 == t.hdr.seq then .again k.2 else if s.slotFlags n != 0 then .refuse stRange 1 else late
    | none => if s.slotFlags n != 0 then .refuse stRange 1 else late

/-- The descriptor that a request names, whatever its answer (R116, R118, R133, R143). -/
def Task.names (t : Task) : Option Nat :=
  let d := leAt t.payload 0 1
  if [0x20, 0x21, 0x22, 0xE2].contains t.hdr.opcode && !t.payload.isEmpty && d < 64 then some d else none

/-- A request names a buffer of the device's: the wait for its return begins afresh (R116). -/
def State.nameDesc (s : State) (d : Nat) : State :=
  if s.owner d == 2 then { s with host.idle := lset s.host.idle d 1 } else s

/-- A host request that passes step 2 is talk (R120), and the buffer it names is named (R116). -/
def State.talkOf (s : State) (t : Task) : State :=
  match t.hdr.origin with
  | .host _ => (match t.names with
    | none => s.talk
    | some d => s.talk.nameDesc d)
  | _ => s

/-- `SB` waits for a `Q-CMD` credit: a command that it has formed has no place yet (Table 2.2). -/
def State.sbWaits (s : State) : Bool := s.act.cmdWait.any fun w => w.2.prod == 1

/-- Mailbox service runs (R66); it stands still while `SB` waits for a `Q-CMD` credit (R44). -/
def State.serves (s : State) : Bool := s.mn.serving && s.mn.phase != .saving && !s.sbWaits

/-- The head request is answered when it does not pass; answers none when there is none, or when it passes. A panel action passes in a mode
that executes them, and is dropped in another (R304). -/
def State.settleOne (s : State) : Option State :=
  match s.host.reqs with
  | [] => none
  | r :: rest =>
    if !s.serves then none
    else
      let t := s.readReq r
      let s1 := { s with host.reqs := rest }
      match s.verdict t with
      | .pass => if t.hdr.opcode == 0xFFFF && !s.panelActs then some s1 else none
      | .plain st d =>
        some (s1.respondKeep false t.hdr st d (s1.refusalData t st))
      | .again b =>
        (match t.hdr.origin with
        | .host n => some ((s1.talkOf t).deliver n b)
        | _ => some s1)
      | .refuse st d => some ((s1.talkOf t).respond t.hdr st d (s1.refusalData t st))

/-- Requests that do not pass are answered in order until one passes; `n` bounds them. -/
def State.settleN (s : State) : Nat → State
  | 0 => s
  | n + 1 => match s.settleOne with
    | none => s
    | some t => State.settleN t n

/-- Every refused request at the head is answered, and ready responses of relayed requests go out. -/
def State.settle (s : State) : State := (s.settleN s.host.reqs.length).flushReplies

/-- The request to be executed next. -/
def State.front (s : State) : Option Task :=
  match s.host.reqs with
  | [] => none
  | r :: _ => if s.serves then some (s.readReq r) else none

/-- The head request is executed when it carries the opcode `op`. -/
def State.serve (op : Nat) (f : Task → State → State) (s : State) : State :=
  let s1 := s.settle
  match s1.front with
  | none => s1
  | some t =>
    if t.hdr.opcode == op then (f t (State.talkOf { s1 with host.reqs := s1.host.reqs.drop 1 } t)).settle else s1

/-! ### `DE` takes commands (R39, R44) -/

/-- DE_CMD_EXECUTE: `DE` reads and executes one `Q-CMD` entry (R39, R459); between tc and t0 only Guard's (R29). When its credit ends a wait
of `SB`'s, service goes on. -/
def execDeCmdExecute (mv : Fin 65536) (s : State) : Out :=
  if s.deOn && (!s.pastTc || !(s.act.qCmd.getD 0 []).isEmpty) then
    let t := (s.setVdrv mv.val).takeCmd
    .next (if s.sbWaits && !t.sbWaits then t.settle else t)
  else .next s

/-! ### Panel actions in the order of requests (R146, R308, R309) -/

/-- What `SB` does for a panel action; a mode that executes none drops it (R304). -/
def State.panelDo (s : State) (a : PanelAct) : State :=
  if !s.panelActs then s
  else match a with
  | .key k => s.panelFunc 0 (s.keyFunc k).1 (s.keyFunc k).2 1
  | .enc e n =>
    let o := pnObj (e + 1) 0x020
    match s.cf o Fd.enConf.FUNC with
    | 1 => s.panelFunc (e + 1) 1 (s.cf o Fd.enConf.ZONE) n
    | 2 => s.moveSel (n > 0) n.natAbs
    | _ => s

/-- The panel action at the head of the order is executed when it is of the kind asked for. -/
def State.servePanel (s : State) (mine : PanelAct → Bool) : State :=
  let s1 := s.settle
  match s1.host.reqs with
  | { origin := .panel a, .. } :: rest => if mine a then (State.panelDo { s1 with host.reqs := rest } a).settle else s1
  | _ => s1

/-- PANEL_ACTION: `SB` executes the function of a `KEY_DOWN` whose turn it is (R308). -/
def execPanelAction (s : State) : Out :=
  .next (s.servePanel fun a => match a with
    | .key _ => true
    | .enc _ _ => false)

/-- ENCODER_ACTION: `SB` executes an `ENC_STEPS` whose turn it is (R309). -/
def execEncoderAction (s : State) : Out :=
  .next (s.servePanel fun a => match a with
    | .key _ => false
    | .enc _ _ => true)

/-! ### Answers -/

/-- The request is answered `OK` with data. -/
def State.ok (s : State) (t : Task) (data : List Byte) : State := s.respond t.hdr stOk 0 data

/-- The request is refused with a status alone, unless its layout states data (R128). -/
def State.refuse (s : State) (t : Task) (status detail : Nat) : State := s.respond t.hdr status detail (s.refusalData t status)

/-- The lowest slot offset of a test that fails: the first byte found at fault (R104, R128). -/
def firstBad : List (Bool × Nat) → Option Nat
  | [] => none
  | (b, d) :: l => match b, firstBad l with
    | false, r => r
    | true, none => some d
    | true, some e => some (min d e)

/-- Reserved payload bytes are 0 (R14). -/
def resv (p : List Byte) (offs : List Nat) : List (Bool × Nat) := offs.map fun i => (p.getD i 0#8 != 0#8, 16 + i)

/-- `RANGE` at the first test that fails; the command otherwise. -/
def State.ranged (s : State) (t : Task) (l : List (Bool × Nat)) (f : State → State) : State :=
  match firstBad l with
  | some d => s.refuse t stRange d
  | none => f s

end Sys2Proof.Machine
end

