-- ==== Sys2Proof/Machine/Commands.lean ====
section
/-!
DEFINITION. Sys2Proof/Machine/Commands.lean: the commands of the session, object, record store, fabric, CAN, direct actuator and
diagnostics families (R129–R141), and CHECKVAL (R133).
-/
namespace Sys2Proof.Machine
open Sys2Proof

/-! ### Session (Table 5.4) -/

/-- Bytes 4–31 of a `HELLO` response (Table 4.7). -/
def State.helloData (s : State) (ver : Nat) : List Byte :=
  [by8 ver, by8 s.mn.protoMax, by8 s.mn.mode.code, by8 (b2n s.mn.profActive)] ++ leBytes 4 s.mn.fwId ++ leBytes 4 s.host.session ++
    leBytes 2 240 ++ leBytes 2 1024 ++ [8#8, 1#8] ++ leBytes 2 s.fb.node ++ leBytes 8 ownUid

/-- A new session: the other slots' kept requests are cleared and record unlocks end (R109, R135). -/
def State.newSession (s : State) (ver : Nat) : State :=
  { s with host.session := (s.host.session + 1) % 2 ^ 32, host.proto := ver, host.kept := List.replicate 8 none,
           host.linkLost := false, rs.unlockR := 0, rs.unlockW := 0 }

/-- Another slot than the request's is busy. -/
def State.otherBusy (s : State) (t : Task) : Bool :=
  match t.hdr.origin with
  | .host n => putBit s.host.busy n false != 0
  | _ => false

/-- `HELLO` (R109). -/
def cmdHello (t : Task) (s : State) : State :=
  let vmin := leAt t.payload 0 1
  let vmax := leAt t.payload 1 1
  s.ranged t ([(vmin == 0, 16), (decide (vmax < vmin), 17)] ++ resv t.payload [2, 3]) fun s =>
    let ver := min vmax s.mn.protoMax
    if s.otherBusy t then s.refuse t stBusy 0
    else if ver < max vmin 1 then s.respond t.hdr stBadVersion 0 (s.helloData 0)
    else
      let s1 := s.newSession ver
      s1.ok t (s1.helloData ver)

/-- `PING`. -/
def cmdPing (t : Task) (s : State) : State := s.ok t t.payload

/-- A guard zone is enabled. -/
def State.anyGuardZone (s : State) : Bool := (List.range 8).any fun z => s.cfb (gdObj (z + 1) 0x020) Fd.gzConf.G_ENABLE

/-- A `MODE_SET` that acts at a Changeover; of those accepted for one tc the last one counts (R129). -/
def State.modeAtCo (s : State) (t : Task) (m : Mode) : State :=
  let co := s.coDue
  State.ok { s with mn.modeNext := (s.mn.modeNext.filter fun x => x.2 != co) ++ [(m, co)] } t (s.modeData m.code co)

/-- A port armed by `ARM_WUF` has a wake group that fails R337 (R335). -/
def State.wakeArmedBad (s : State) : Bool :=
  (List.range 3).any fun p =>
    bitOf (s.cf (sysObj 0x030) Fd.power.ARM_WUF) p && canWakeBad fun f => s.cf (cnWakeObj p) f

/-- `MODE_SET` to Terminus or Halt (R81, R335, Table 1.6, Table 3.2). With several of their faults at once what `RANGE` refuses comes before
`DENIED` (log 68). -/
def State.modeStandby (s : State) (t : Task) (m : Mode) : State :=
  let o := sysObj 0x030
  if s.pw.rtcLost || !s.pw.vbkp then s.refuse t stNotInMode 0
  else if m == .halt && s.cf o Fd.power.ARM_WUF == 0 && s.cf o Fd.power.ARM_WUP == 0 then s.refuse t stRange 16
  else if m == .halt && s.wakeArmedBad then s.refuse t stRange 16
  else if s.cfb o Fd.power.ARM_RTC && s.cf o Fd.power.RTC_ALARM ≤ rtcSeconds s then s.refuse t stRange 16
  else if s.anyGuardZone && !s.cfb o Fd.power.GZ_STBY_OK then s.refuse t stDenied 0
  else s.modeAtCo t m

/-- `MODE_SET` to Depot with a password (R79). -/
def State.modeDepot (s : State) (t : Task) (pw : Nat) : State :=
  if s.svcAttempts == 0 then s.refuse t stDenied 0
  else if pw != s.svcPw then s.wrongSvc.refuse t stDenied 0
  else s.modeAtCo t .depot

/-- `MODE_SET` (R77, R81, R129, Table 3.6). For the mode that runs already `PERIOD_COUNT` is that of the Changeover at which a change
accepted now would act, and with `DENIED` it is `0xFFFF_FFFF` (log 65). -/
def cmdModeSet (t : Task) (s : State) : State :=
  let code := leAt t.payload 0 1
  let pw := leAt t.payload 4 8
  let target := Mode.ofCode code
  s.ranged t ((target.isNone || target == some .shunting || target == some .bufferStop, 16) :: resv t.payload [1, 2, 3] ++
      [(pw != 0 && target != some .depot, 20)]) fun s =>
    match target with
    | none => s.refuse t stRange 16
    | some m =>
      if m == s.mn.mode then s.ok t (s.modeData code s.coDue)
      else if s.mn.mode == .depot then
        (if m == .platform || m == .mainline then
          State.ok { s with mn.restartDue := some 0x02, mn.endMode := some m } t (s.modeData code 0xFFFFFFFF)
        else s.refuse t stNotInMode 0)
      else if m == .terminus || m == .halt then s.modeStandby t m
      else if m == .depot then s.modeDepot t pw
      else s.modeAtCo t m

/-- `RESTART_MAIN` (R130); one that is already due runs at its own Changeover. -/
def cmdRestartMain (t : Task) (s : State) : State :=
  s.ranged t [(leAt t.payload 0 4 != 0x4D545352, 16)] fun s =>
    State.ok { s with mn.restartAtCo := some (s.mn.restartAtCo.getD (0x02, s.coDue)) } t (leBytes 4 s.coDue)

/-! ### Objects (Table 5.5) -/

/-- `OBJ_GET` (R125). -/
def cmdObjGet (t : Task) (s : State) : State :=
  match grpOf t.hdr.object with
  | none => s.refuse t stBadObject 8
  | some g =>
    let ws := s.getWords t.hdr.object g
    s.ok t (leBytes 2 (4 * ws.length) ++ [0#8, 0#8] ++ bytesOfWords ws)

/-- The identifier of the profile group. -/
def profObj : Nat := 0x110000B0

/-- A write of the profile group: `PROF_STORED` goes to record 1 of region 0, and the response follows the commit byte (R152). -/
def State.profWrite (s : State) (t : Task) (ws : List Word) : State :=
  match ws with
  | [] => s.ok t [2#8, 0#8, 0#8, 0#8]
  | w :: rest =>
    match grpProfile.rangeFault [w] with
    | some b => s.refuse t stRange (20 + b)
    | none =>
      (s.noteWrite profObj t.src).waitRec t.hdr { region := 0, record := 1, data := leBytes 4 (b2n (bitOf w.toNat 2)) }
        (if rest.isEmpty then 0 else 4)

/-- The words of a write reach the group; the response names `TAKES`. -/
def State.setObj (s : State) (t : Task) (g : Grp) (ws : List Word) : State :=
  if t.hdr.object == profObj then s.profWrite t ws
  else
    let r := s.objWrite t.hdr.object g ws t.src
    if r.2.1 == stOk || r.2.1 == stPartial then r.1.respond t.hdr r.2.1 r.2.2.1 [by8 r.2.2.2, 0#8, 0#8, 0#8]
    else r.1.refuse t r.2.1 r.2.2.1

/-- `OBJ_SET` (R110). -/
def cmdObjSet (t : Task) (s : State) : State :=
  let n := leAt t.payload 0 2
  s.ranged t ([(n % 4 != 0 || decide (t.len < n + 4), 16)] ++ resv t.payload [2, 3]) fun s =>
    match grpOf t.hdr.object with
    | none => s.refuse t stBadObject 8
    | some g => s.setObj t g (wordsOf (t.payload.drop 4) (n / 4))

/-- `OBJ_DEFAULT` (R131). -/
def cmdObjDefault (t : Task) (s : State) : State :=
  match grpOf t.hdr.object with
  | none => s.refuse t stBadObject 8
  | some g => if g.hasRw then s.setObj t g g.dfltWords else s.ok t [0#8, 0#8, 0#8, 0#8]

/-- The entries that `OBJ_LIST` lists: field groups of an instance, or instances in use of a class. -/
def State.listOf (s : State) (o what : Nat) : List Nat :=
  if what == 0 then
    0 :: ((clsGroups (objCls o) (objInst o)).map (·.1)).filter fun g => s.groupThere (objId (objCls o) (objInst o) g)
  else (clsInstances (objCls o)).filter fun i => s.isInUse (objCls o) i

/-- `OBJ_LIST` (R131). -/
def cmdObjList (t : Task) (s : State) : State :=
  let what := leAt t.payload 0 1
  s.ranged t ((decide (1 < what), 16) :: resv t.payload [1]) fun s =>
    let l := s.listOf t.hdr.object what
    let sel := (l.drop (leAt t.payload 2 2)).take 116
    s.ok t (leBytes 2 l.length ++ leBytes 2 sel.length ++ sel.flatMap (leBytes 2))

/-! ### Window buffers named by requests (R116, R118, R133) -/

/-- A buffer is the device's and free for use. -/
def State.deviceBuf (s : State) (d : Nat) : Bool := s.host.wdescValid && s.owner d == 2

/-- `CHECKVAL` (R54, R133). An `APPEND` without room for its check value hands the buffer back unchanged, as R133 says of the other
`RANGE` refusals (log 65). -/
def cmdCheckval (t : Task) (s : State) : State :=
  let p := t.payload
  let d := leAt p 0 1
  let op := leAt p 2 1
  let fl := leAt p 3 1
  let n := leAt p 12 4
  s.ranged t ([(decide (63 < d), 16), (decide (3 < leAt p 1 1), 17), (decide (1 < op), 18), (decide (8 < fl), 19)] ++
      (((List.range 8).filter fun i => fl ≤ i).map fun i => (p.getD (4 + i) 0#8 != 0#8, 20 + i)) ++
      [(n == 0, 28)]) fun s =>
    if !s.deviceBuf d then s.refuse t stDenied 0
    else
      let c := (crcPreset (leAt p 1 1)).getD crc32c
      let w := c.width / 8
      let m := s.host.window
      let base := s.descBase d
      let size := s.descSize d
      if s.descUse d != 0 then (s.handToHost d).refuse t stRange 16
      else if size < n || (op == 0 && size < n + w) || (op == 1 && n < w) then (s.handToHost d).refuse t stRange 28
      else
        let k := if op == 0 then n else n - w
        let v := crcOf c (p.drop 4 |>.take fl |> (· ++ m.bytes base k))
        if op == 0 then
          let s1 := { s with host.window := m.writeBytes (base + n) (leBytes w v) }
          ((s1.setFill d (n + w) (s1.descLast d)).handToHost d).ok t (leBytes 4 v ++ leBytes 4 (n + w))
        else
          (s.handToHost d).respond t.hdr (if m.le (base + k) w == v then stOk else stBadCheck) 0 (leBytes 4 v ++ leBytes 4 k)

/-! ### Record store (Table 5.8, Table 14.2, R378) -/

/-- What Table 14.2 lets a command do with a record. Regions 8–15 have no row in it: no record number exists there (R377). -/
def recAllowed (op r k : Nat) : Bool :=
  if op == 0x30 then r != 0 || [0, 1, 5, 38].contains k
  else if op == 0x31 then r ≥ 8
  else r ≥ 8 || r == 1 || r == 2 || r == 3

/-- The tests that every command on a record meets: access, password, number. -/
def State.recTest (s : State) (t : Task) (f : State → State) : State :=
  let r := objInst t.hdr.object
  let k := leAt t.payload 0 2
  if !recAllowed t.hdr.opcode r k then s.refuse t stDenied 0
  else if !(if t.hdr.opcode == 0x30 then s.recReadable r else s.recWritable r) then s.refuse t stDenied 0
  else if s.recCount r ≤ k then s.refuse t stRange 16
  else f s

/-- `REC_READ` (R134). `OFFSET` plus `COUNT` past the record's end reports the field `OFFSET` (log 68). -/
def cmdRecRead (t : Task) (s : State) : State :=
  s.recTest t fun s =>
    let sel := s.recSel (objInst t.hdr.object) (leAt t.payload 0 2)
    let off := leAt t.payload 2 2
    let n := leAt t.payload 4 2
    s.ranged t (resv t.payload [6, 7] ++ [(n == 0 || decide (232 < n), 20), (decide (sel.data.length < off + n), 18)]) fun s =>
      s.ok t (leBytes 2 sel.data.length ++ [by8 sel.valid, 0#8] ++ (sel.data.drop off).take n)

/-- `REC_WRITE` (R134, R382). `OFFSET` plus `COUNT` past the record's end reports the field `OFFSET` (log 68). -/
def cmdRecWrite (t : Task) (s : State) : State :=
  s.recTest t fun s =>
    let r := objInst t.hdr.object
    let k := leAt t.payload 0 2
    let off := leAt t.payload 2 2
    let n := leAt t.payload 4 2
    s.ranged t (resv t.payload [6, 7] ++ [(n == 0 || decide (232 < n) || n + 8 != t.len, 20),
        (decide ((s.recData r k).length < off + n), 18)]) fun s =>
      s.waitCmdRec t.hdr { region := r, record := k, offset := off, whole := false, data := t.payload.drop 8 }

/-- `REC_STAT` (R378). -/
def cmdRecStat (t : Task) (s : State) : State :=
  let r := objInst t.hdr.object
  s.ok t (leBytes 2 (s.recCount r) ++ [by8 (s.locks r), by8 (s.attempts r)] ++ leBytes 4 (regionPlace r).2 ++
    leBytes 2 (s.rs.dups.filter fun d => d.1 == r).length ++ [0#8, 0#8])

/-- `REC_UNLOCK` (R135). -/
def cmdRecUnlock (t : Task) (s : State) : State :=
  let r := objInst t.hdr.object
  let wr := leAt t.payload 0 1 == 1
  s.ranged t ((decide (1 < leAt t.payload 0 1), 16) :: resv t.payload [1, 2, 3]) fun s =>
    if s.attempts r == 0 then s.refuse t stDenied 0
    else if leAt t.payload 4 8 != s.regionPw r wr then (s.wrongPw r wr).refuse t stDenied 0
    else
      let s1 := if wr then { s with rs.unlockW := putBit s.rs.unlockW r true } else { s with rs.unlockR := putBit s.rs.unlockR r true }
      s1.ok t [by8 (s1.attempts r)]

/-- `REC_LOCK` (R135). -/
def cmdRecLock (t : Task) (s : State) : State :=
  let r := objInst t.hdr.object
  State.ok { s with rs.unlockR := putBit s.rs.unlockR r false, rs.unlockW := putBit s.rs.unlockW r false } t []

/-- `REC_PASSWORD` (R396, R397). -/
def cmdRecPassword (t : Task) (s : State) : State :=
  let r := objInst t.hdr.object
  let wr := leAt t.payload 0 1 == 1
  s.ranged t ((decide (1 < leAt t.payload 0 1), 16) :: resv t.payload [1, 2, 3]) fun s =>
    if s.attempts r == 0 then s.refuse t stDenied 0
    else if leAt t.payload 4 8 != s.regionPw r wr then (s.wrongPw r wr).refuse t stDenied 0
    else
      s.waitCmdRec t.hdr { region := 0, record := 6 + r, offset := if wr then 8 else 0, whole := false,
                           data := leBytes 8 (leAt t.payload 12 8) }

/-- `REC_DEFAULT` (R134). -/
def cmdRecDefault (t : Task) (s : State) : State :=
  s.recTest t fun s =>
    let r := objInst t.hdr.object
    let k := leAt t.payload 0 2
    s.ranged t (resv t.payload [2, 3]) fun s =>
      s.waitCmdRec t.hdr { region := r, record := k, data := recDefault r k ((s.lens r).getD k 0), dflt := true }

/-! ### Fabric (Table 5.9) -/

/-- `NODE` and `TMO_MS`: a value within their ranges, and not this node's own address. -/
def State.nodeTests (s : State) (t : Task) : List (Bool × Nat) :=
  let node := leAt t.payload 0 2
  let tmo := leAt t.payload 2 2
  [(node == 0 || decide (4095 < node) || node == s.fb.node, 16), (decide (tmo < 10) || decide (5000 < tmo), 18)]

/-- `FAB_RELAY` (R136, R370). -/
def cmdFabRelay (t : Task) (s : State) : State :=
  let p := t.payload
  s.ranged t (s.nodeTests t ++ [((relayFamily (leAt p 4 1)).isNone, 20)] ++ resv p [5, 6, 7]) fun s =>
    let inner := p.drop 12
    s.startXact t.hdr (leAt p 0 2) (leAt p 2 2)
      ([p.getD 4 0#8, by8 s.host.proto] ++ leBytes 2 inner.length ++ (p.drop 8).take 4 ++ inner)

/-- `FAB_PING` (R371). -/
def cmdFabPing (t : Task) (s : State) : State :=
  s.ranged t (s.nodeTests t) fun s => s.startXact t.hdr (leAt t.payload 0 2) (leAt t.payload 2 2) []

/-- `FAB_REDISCOVER` (R375). -/
def cmdFabRediscover (t : Task) (s : State) : State :=
  State.ok { s with fb.rediscover := s.fb.rediscover ++ [s.coDue] } t (leBytes 4 s.coDue)

/-- `FAB_ROUTE` (R363). -/
def cmdFabRoute (t : Task) (s : State) : State :=
  let k := leAt t.payload 0 2
  s.ranged t ((decide (8191 < k), 16) :: resv t.payload [2, 3]) fun s =>
    let w := s.routeWords k
    s.ok t (leBytes 4 w.1 ++ leBytes 4 w.2 ++ List.replicate 8 0#8)

/-! ### CAN and Timetable (Table 5.10, R137) -/

/-- The port state that `CAN_RECOVER` reports: recovering from bus-off, or error active or passive by the error counters; for a
port that is off the layout names no code, and the byte is a free value. -/
def State.portCode (s : State) (p : Nat) : State × Nat :=
  let x := s.port p
  match x.st with
  | .busOff => (s, 2)
  | .off => (s.freeNext, Config.free s.freeCtr % 256)
  | .lowPower => (s.freeNext, Config.free s.freeCtr % 256)
  | _ => (s, if x.tec ≥ 128 || x.recv ≥ 128 then 1 else 0)

/-- `CAN_RECOVER`. -/
def cmdCanRecover (t : Task) (s : State) : State :=
  let p := objInst t.hdr.object
  let s1 := if (s.port p).st == .held then (s.canRecover p).modPort p fun x => { x with recovs := [] } else s
  let r := s1.portCode p
  r.1.ok t [by8 r.2, 0#8, 0#8, 0#8]

/-- `CAN_CANCEL` (R329). -/
def cmdCanCancel (t : Task) (s : State) : State :=
  let p := t.payload
  s.ranged t ([(decide (1 < leAt p 0 1), 16), (decide (31 < leAt p 1 1), 17)] ++ resv p [2, 3]) fun s =>
    let r := s.canCancel (objInst t.hdr.object) (leAt p 0 1 == 1) (leAt p 1 1)
    if r.2 then r.1.refuse t stDenied 0 else r.1.ok t []

/-- `TT_COMMIT` (R137, R343, R344). A pending matrix that no longer fits is refused with `RANGE`, `DETAIL` naming `OBJECT`, the one
field of the request that stands for it (log 65). -/
def cmdTtCommit (t : Task) (s : State) : State :=
  let p := objInst t.hdr.object
  match (s.port p).tt.pend with
  | none => s.refuse t stDenied 0
  | some m =>
    if mxFits m (s.canTim p) s.msJudged then
      (s.modPort p fun x => { x with tt.commit := x.tt.commit ++ [s.coDue] }).ok t [1#8, 0#8, 0#8, 0#8]
    else s.refuse t stRange 8

/-- `CAN_STATS_CLEAR` (R345). -/
def cmdCanStatsClear (t : Task) (s : State) : State := (s.canStatsClear (objInst t.hdr.object)).ok t []

/-! ### Direct actuator commands (Table 5.11, R138–R140) -/

/-- Guard carries the zone of a stage, or has taken the stage (R140). -/
def State.guardCarries (s : State) (st : Stage) : Bool :=
  s.guardHas st ||
    (List.range 8).any fun z => (s.gz z).carried && (List.range 3).any fun k => (s.gz z).stage k == some st

/-- The channel belongs to no gang (R261). -/
def State.unusedStage (s : State) : Stage → Bool
  | .valve ch => s.gang ch.val == 0
  | _ => false

/-- `CLAMPED`: a current limit in force reduces the command (R259, R275). -/
def State.clampedBy (s : State) (st : Stage) (v : F32) : Bool :=
  match st with
  | .valve ch => (s.setCurrent ch.val v).2
  | .fan n => fLt (s.fanCap n.val (s.fanF n.val)) v
  | .ao _ => false

/-- An `ACT_SET` that has passed its tests: the direct command replaces an earlier one and enters `Q-CMD` (R138, R139). -/
def State.directSet (s : State) (st : Stage) (v : F32) (secs : Nat) : State :=
  let d : Direct := { stage := st, value := v, endAt := if secs == 0 then none else some (s.now + secs * 1000000) }
  State.postCmd { s with act.direct := (s.act.direct.filter fun x => x.stage != st) ++ [d] } 1 { stage := st, act := .set v }

/-- An output that is a fan's `AO_LINK` (R293). -/
def State.linkedAo (s : State) : Stage → Bool
  | .ao n => (s.aoLink n.val).isSome
  | _ => false

/-- `ACT_SET`. -/
def cmdActSet (t : Task) (s : State) : State :=
  let v := wd (leAt t.payload 0 4)
  let hold := leAt t.payload 4 1
  let dur := leAt t.payload 8 4
  let target := Stage.of (objCls t.hdr.object) (objInst t.hdr.object)
  let refused := target.any fun st => !s.unusedStage st && !s.linkedAo st && !s.stageAccepts st v
  s.ranged t ([(fNotFinite v || refused, 16), (hold != 1 && hold != 2, 20)] ++ resv t.payload [5, 6, 7] ++
      [((hold == 2 && (dur == 0 || decide (86400 < dur))) || (hold == 1 && dur != 0), 24)]) fun s =>
    match target with
    | none => s.refuse t stBadObject 8
    | some st =>
      if s.unusedStage st || s.linkedAo st || s.guardCarries st then s.refuse t stDenied 0
      else (s.directSet st v dur).ok t [by8 (b2n (s.clampedBy st v)), 0#8, 0#8, 0#8]

/-- `ACT_RELEASE` (R139). -/
def cmdActRelease (t : Task) (s : State) : State :=
  match Stage.of (objCls t.hdr.object) (objInst t.hdr.object) with
  | none => s.refuse t stBadObject 8
  | some st => if s.unusedStage st then s.refuse t stDenied 0 else (s.endDirect st 0).ok t []

/-- `FAN_CLEAR` (R282): `DE` executes it out of `Q-CMD` (R16), and the response tells what it has done (log 29). -/
def cmdFanClear (t : Task) (s : State) : State :=
  let n := objInst t.hdr.object
  match Stage.of 5 n with
  | none => s.refuse t stBadObject 8
  | some st =>
    if s.guardCarries st then s.refuse t stDenied 0
    else State.postCmd { s with host.waiting := s.host.waiting ++ [{ hdr := t.hdr, kind := .clear n }] } 1 { stage := st, act := .clear }

/-- `VALVE_PROVE` (R262): `DE` executes it out of `Q-CMD` (R16), and it is answered when the stroke has been judged. -/
def cmdValveProve (t : Task) (s : State) : State :=
  let b := objInst t.hdr.object
  match Stage.of 4 b with
  | none => s.refuse t stBadObject 8
  | some st =>
    if s.unusedStage st || s.guardCarries st then s.refuse t stDenied 0
    else
      let w : Waiting := { hdr := t.hdr, kind := .prove b s.now }
      State.postCmd { s with host.waiting := s.host.waiting ++ [w], act.proves := s.act.proves ++ [{ gang := b, since := s.now }] } 1
        { stage := st, act := .prove }

/-! ### Diagnostics (Table 5.13, R141) -/

/-- The entries from a sequence number on: `FIRST_SEQ` and the entries; without entries `FIRST_SEQ` repeats `FROM_SEQ` (log 65). -/
def State.logFrom (s : State) (seq n : Nat) : Nat × List LogEntry :=
  match s.host.log with
  | [] => (seq, [])
  | e :: _ =>
    let k := (seq + 2 ^ 32 - e.seqno) % 2 ^ 32
    let from_ := if k ≥ 2 ^ 31 then 0 else k
    let l := (s.host.log.drop from_).take n
    (match l with
      | [] => seq
      | x :: _ => x.seqno, l)

/-- `EVT_READ`. -/
def cmdEvtRead (t : Task) (s : State) : State :=
  let n := leAt t.payload 4 1
  s.ranged t ((n == 0 || decide (11 < n), 20) :: resv t.payload [5, 6, 7]) fun s =>
    let r := s.logFrom (leAt t.payload 0 4) n
    s.ok t (leBytes 4 r.1 ++ leBytes 4 ((s.host.seqno + 2 ^ 32 - 1) % 2 ^ 32) ++ [by8 r.2.length, 0#8, 0#8, 0#8] ++
      r.2.flatMap fun e => e.bytesWith e.seqno)

/-- `EVT_FILTER`. -/
def cmdEvtFilter (t : Task) (s : State) : State :=
  let p := leAt t.payload 0 1
  s.ranged t ((decide (3 < p), 16) :: resv t.payload [1, 2, 3]) fun s => State.ok { s with host.minPri := p } t []

/-- `TIME_GET`. -/
def cmdTimeGet (t : Task) (s : State) : State :=
  s.ok t (leBytes 6 (rtcCount s) ++ [0#8, 0#8] ++ leBytes 8 (unsgn 64 s.fabTime) ++ leBytes 4 s.per.count)

/-- `TIME_SET`. -/
def cmdTimeSet (t : Task) (s : State) : State :=
  s.ranged t (resv t.payload [6, 7]) fun s =>
    if s.wallTaken then s.refuse t stDenied 0
    else
      let s1 := { s with rtc.base := leAt t.payload 0 6, rtc.at_ := s.now, rtc.valid := true }
      State.ok (if s1.isRoot then { s1 with fb.wall := some s1.wallHere } else s1) t []

end Sys2Proof.Machine
end

