-- ==== Sys2Proof/Machine/Streams.lean ====
section
/-!
DEFINITION. Sys2Proof/Machine/Streams.lean: the streams of Table 5.7 and the window transfers that move them (R118, R119,
R132, R215, R227, R343, R398, R399), and the Depot commands (R142–R144).
-/
namespace Sys2Proof.Machine
open Sys2Proof

/-! ### What a stream reads as -/

/-- The frame of the trend ring in the place where a frame of number `seq` was written (R215). -/
def State.trendAt (s : State) (seq : Nat) : List Byte :=
  let oldest := s.zs.frames + 1 - s.zs.trend.length
  let k := if oldest ≤ seq then seq else seq + 992 * cdiv (oldest - seq) 992
  s.zs.trend.getD (k - oldest) (List.replicate 528 0#8)

/-- `n` bytes of the trend stream from position `pos`. -/
def State.trendBytes (s : State) (first pos n : Nat) : List Byte :=
  let k := pos / 528
  let m := cdiv (pos + n) 528 - k
  (((List.range m).flatMap fun j => s.trendAt (first + k + j)).drop (pos % 528)).take n

/-- The writable words of a group in force: what Profile L fixes of the panel (R305), and in a fabric the period followed (R22). -/
def State.forceWords (s : State) (o : Nat) (g : Grp) : List Word :=
  let ws := s.profWords o (s.rwWords o g)
  if o == sysObj 0x010 && s.inFabric then
    lmod ws 0 fun w => wd (putBits w.toNat Fd.period.PERIOD_MS.hi Fd.period.PERIOD_MS.lo s.per.ms)
  else ws

/-- The configuration image: every persistent group with the values in force (Table 14.10). -/
def State.imageBytes (s : State) : List Byte :=
  let l := imageObjs.filter fun p => s.groupThere p.1
  leBytes 2 2 ++ [0#8, 0#8] ++ leBytes 4 l.length ++ leBytes 4 s.mn.fwId ++ [0#8, 0#8, 0#8, 0#8] ++
    l.flatMap fun p => entryBytes p.1 (s.forceWords p.1 p.2)

/-- One record of stream `0x06` (R399). -/
def State.regionEntry (s : State) (r k : Nat) : List Byte :=
  let sel := s.recSel r k
  let n := sel.data.length
  let data := if recAllowed 0x30 r k then sel.data else List.replicate n 0#8
  leBytes 2 n ++ [by8 sel.valid, 0#8] ++ padTo (4 * cdiv n 4) data

/-- The words of the value groups of every point. -/
def State.pointWords (s : State) : List Word :=
  (List.range 160).flatMap fun p => s.getWords (ptObj p 0x010) grpPtValue

/-- A stream as it stands when a read is taken, the trend ring apart. -/
def State.streamBytes (s : State) (stream sub : Nat) : List Byte :=
  match stream with
  | 0x01 => s.host.log.flatMap fun e => e.bytesWith e.seqno
  | 0x02 => s.imageBytes
  | 0x03 => if sub == 0xFFF then (List.range 32).flatMap s.modelBlock else s.modelBlock sub
  | 0x04 => s.routeStream
  | 0x05 => (s.port sub).tt.active.getD []
  | 0x06 => (List.range (s.recCount sub)).flatMap fun k => s.regionEntry sub k
  | 0x07 => Config.pointTable s.pointWords
  | 0x08 => s.planBuffer
  | _ => []

/-! ### What a written stream does -/

/-- One entry of a written image: object, data and the bytes that follow; none when its form is wrong. -/
def imageEntry (l : List Byte) : Option (Nat × List Byte × List Byte) :=
  let n := leAt l 4 2
  if l.length < 8 + n || n % 4 != 0 || n < 4 || 232 < n || leAt l 6 2 != 0 then none
  else some (leAt l 0 4, (l.drop 8).take n, l.drop (8 + n))

/-- The entries of an image, each checked as `OBJ_SET` checks it and accepted for the next Changeover; none when one is
refused or the count disagrees. Entries of groups outside the image are checked and change nothing. -/
def State.imageEntries (s : State) : Nat → List Byte → Option State
  | 0, l => if l.isEmpty then some s else none
  | n + 1, l =>
    match imageEntry l with
    | none => none
    | some (o, d, rest) =>
      match grpOf o with
      | none => none
      | some g =>
        if !s.groupThere o then none
        else
          let ws := s.completeWords o ((wordsOf d (d.length / 4)).take g.words)
          match s.writeCheck o g ws with
          | some _ => none
          | none =>
            let s1 := if storedGroup (objCls o) (objGrp o) g then s.acceptWrite o g (s.keptWords o g ws) 0 true else s
            s1.imageEntries n rest

/-- A written configuration image (R398). -/
def State.writeImage (s : State) (l : List Byte) : Option State :=
  if l.length < 16 || leAt l 0 2 != 2 || leAt l 2 2 != 0 || leAt l 12 4 != 0 || l.length < leAt l 4 4 then none
  else s.imageEntries (leAt l 4 4) (l.drop 16)

/-- Written model blocks, for the next Changeover (R227). -/
def State.writeModels (s : State) (sub : Nat) (l : List Byte) : Option State :=
  let zs := if sub == 0xFFF then List.range 32 else [sub]
  let blk (k : Nat) : List Byte := (l.drop (704 * k)).take 704
  if l.length != 704 * zs.length then none
  else if (List.range zs.length).all fun k => s.modelBlockOk (zs.getD k 0) (blk k) then
    some { s with pr.blocks := s.pr.blocks ++ (List.range zs.length).map fun k => (zs.getD k 0, blk k, s.coDue) }
  else none

/-- A written matrix becomes the pending one (R343). -/
def State.writeMatrix (s : State) (p : Nat) (l : List Byte) : Option State :=
  if mxFormOk l && mxFits l (s.canTim p) s.msJudged then
    some (s.modPort p fun x => { x with tt.pend := some l })
  else none

/-- The contents of a user region: one write per record, in record order (R399). -/
def State.writeRegion (s : State) (r : Nat) (l : List Byte) : Option State :=
  let n := s.recLen r
  let size := 4 + 4 * cdiv n 4
  let ks := List.range (s.recCount r)
  if l.length != size * ks.length || ks.any fun k => leAt l (size * k) 2 != n then none
  else some (ks.foldl (fun (t : State) k =>
    t.postRec 0 { region := r, record := k, data := bytesAt l (size * k + 4) n, cmd := true }) s)

/-- The effect of a whole written stream; none when its content is refused. -/
def State.writeStream (s : State) (stream sub : Nat) (l : List Byte) : Option State :=
  match stream with
  | 0x02 => s.writeImage l
  | 0x03 => s.writeModels sub l
  | 0x05 => s.writeMatrix sub l
  | 0x06 => s.writeRegion sub l
  | _ => none

/-! ### Starting a transfer -/

/-- `SUB` as Table 5.7 lists it. -/
def subOk (stream sub : Nat) : Bool :=
  match stream with
  | 0x03 => sub < 32 || sub == 0xFFF
  | 0x05 => sub < 3
  | 0x06 => sub < 32
  | _ => sub == 0

/-- The stream has the direction asked for (Table 5.7). -/
def dirOk (stream : Nat) (read : Bool) : Bool := stream ≤ 8 && (read || [0x02, 0x03, 0x05, 0x06].contains stream)

/-- The passwords that guard a stream (R396), and the regions that a command may not write (Table 14.2). -/
def State.streamOpen (s : State) (stream sub : Nat) (read : Bool) : Bool :=
  let pw (r : Nat) : Bool := if read then s.recReadable r else s.recWritable r
  match stream with
  | 0x02 => pw 1
  | 0x03 => pw 2
  | 0x06 => pw sub && (read || sub ≥ 8)
  | _ => true

/-- The transfer takes its buffer, which is locked (R118). -/
def State.beginXfer (s : State) (x : Xfer) : State :=
  { s.setOwner x.desc 3 with host.xfers := s.host.xfers ++ [x] }

/-- The buffer that a transfer names: the device's, with `USE` 0, and in no other transfer. -/
def State.xferBuf (s : State) (d : Nat) : Bool :=
  s.deviceBuf d && s.descUse d == 0 && !s.host.xfers.any fun x => x.desc == d

/-- `XFER_READ` and `XFER_WRITE` (R132). -/
def cmdXfer (read : Bool) (t : Task) (s : State) : State :=
  let p := t.payload
  let d := leAt p 0 1
  let st := leAt p 1 1
  let sub := leAt p 2 2
  let off := leAt p 4 4
  let total := leAt p 8 4
  s.ranged t [(decide (63 < d), 16), (!dirOk st read, 17), (!subOk st sub, 18), (!read && off != 0, 20),
      (total == 0 || decide (16777216 < total), 24)] fun s =>
    if !s.streamOpen st sub read || !s.xferBuf d then s.refuse t stDenied 0
    else
      let x : Xfer := { hdr := t.hdr, desc := d, stream := st, sub := sub, toHost := read, total := total, since := s.now }
      if !read then s.beginXfer x
      else if st == 0 then
        let n := 528 * s.zs.trend.length
        s.beginXfer { x with total := min total (n - off), off := off, first := s.zs.frames + 1 - s.zs.trend.length }
      else
        let l := ((s.streamBytes st sub).drop off).take total
        s.beginXfer { x with total := l.length, data := l }

/-! ### Chunks (R118) -/

/-- A transfer is replaced by its next state. -/
def State.putXfer (s : State) (x : Xfer) : State :=
  { s with host.xfers := s.host.xfers.map fun y => if y.desc == x.desc then x else y }

/-- The device writes a chunk and hands the buffer to the host; the response comes with the last. -/
def State.sendChunk (s : State) (x : Xfer) : State :=
  let d := x.desc
  let rest := x.total - x.moved
  let n := min (s.descSize d) rest
  let last := rest ≤ s.descSize d
  let b := if x.stream == 0 then s.trendBytes x.first (x.off + x.moved) n else x.data.take n
  let s1 := { s with host.window := s.host.window.writeBytes (s.descBase d) b }
  let s2 := (s1.setFill d n last).handToHost d
  let s3 := s2.putXfer { x with moved := x.moved + n, chunks := x.chunks + 1, data := x.data.drop n, waitsHost := true, since := s.now }
  if last then s3.endXfer d stOk else s3

/-- The end of a bank load: the bank is written and checked (R73, R143). -/
def State.endLoad (s : State) (x : Xfer) : State :=
  let b := x.stream - 0x100
  let r := (s.writeFlash b x.data).bankLoaded b
  let s1 := { r.1 with host.xfers := r.1.host.xfers.filter fun y => y.desc != x.desc }
  s1.respond x.hdr (if r.2 == 5 then stBadCheck else stOk) 0
    (leBytes 4 (imgVersion (s1.flash b)) ++ [by8 r.2, 0#8, 0#8, 0#8])

/-- The device consumes a chunk and hands the buffer back; after the last the content takes effect as a whole. Of a `FILL` that a later
resize has left above the buffer size the device takes what the buffer holds (R114; log 65). -/
def State.takeChunk (s : State) (x : Xfer) : State :=
  let d := x.desc
  let n := min (s.descFill d) (s.descSize d)
  let last := s.descLast d
  let y : Xfer := { x with moved := x.moved + n, chunks := x.chunks + 1, waitsHost := true, since := s.now,
                           data := x.data ++ s.host.window.bytes (s.descBase d) n }
  let s1 := (((s.setFill d 0 last).handToHost d)).putXfer y
  if n == 0 && !last then s1.endXferAt d stRange (y.atFault true)
  else if !last then s1
  else if y.moved != y.total then s1.endXferAt d stRange (y.atFault true)
  else if y.stream ≥ 0x100 then s1.endLoad y
  else match s1.writeStream y.stream y.sub y.data with
  | none => s1.endXferAt d stRange (y.atFault false)
  | some t => t.endXfer d stOk

/-! ### Depot (Table 5.14) -/

/-- `BLOCK`, `OFFSET` and `COUNT` of a register access (R142). -/
def regTests (p : List Byte) : List (Bool × Nat) :=
  let off := leAt p 2 2
  let n := leAt p 4 2
  let size := blockSize (leAt p 0 1)
  resv p [1] ++ [(size.isNone, 16), (off % 4 != 0, 18), (n == 0 || decide (58 < n), 20), (decide (size.getD 0 < off + 4 * n), 18)] ++
    resv p [6, 7]

/-- `DEP_REG_READ`. -/
def cmdDepRegRead (t : Task) (s : State) : State :=
  let p := t.payload
  s.ranged t (regTests p) fun s =>
    s.ok t ((List.range (leAt p 4 2)).flatMap fun k => leBytes 4 (s.blockRead (leAt p 0 1) (leAt p 2 2 + 4 * k)))

/-- The byte of a word that sets a reserved bit, or begins a field out of its range. -/
def wordFault (b off v : Nat) : Option Nat :=
  let r := v - (v &&& blockBits b off)
  match (List.range 4).find? fun k => bits r (8 * k + 7) (8 * k) != 0 with
  | some k => some k
  | none => if blockRangeBad b off v then some 0 else none

/-- `DEP_REG_WRITE`. -/
def cmdDepRegWrite (t : Task) (s : State) : State :=
  let p := t.payload
  let b := leAt p 0 1
  let off := leAt p 2 2
  let n := (t.len - 8) / 4
  let ws := (List.range n).map fun k => leAt p (8 + 4 * k) 4
  s.ranged t ([((t.len - 8) % 4 != 0 || leAt p 4 2 != n, 20)] ++ regTests p) fun s =>
    match (List.range n).findSome? fun k => (wordFault b (off + 4 * k) (ws.getD k 0)).map fun j => 24 + 4 * k + j with
    | some d => s.refuse t stRange d
    | none =>
      let r := s.blockWrites b off ws
      if r.2 then r.1.refuse t stDenied 0 else r.1.ok t []

/-- `DEP_LOAD` (R73, R143): the target bank is `EMPTY` while the load runs. -/
def cmdDepLoad (t : Task) (s : State) : State :=
  let p := t.payload
  let d := leAt p 0 1
  let b := leAt p 1 1
  let total := leAt p 4 4
  s.ranged t ([(decide (63 < d), 16), (decide (1 < b), 17)] ++ resv p [2, 3] ++ [(decide (total < 512) || decide (4194304 < total), 20)]) fun s =>
    if (s.mn.phase == .run && b == s.mn.bankRun) || s.host.xfers.any (fun x => x.stream == 0x100 + b) || !s.xferBuf d then
      s.refuse t stDenied 0
    else
      (s.setBank b 0).beginXfer { hdr := t.hdr, desc := d, stream := 0x100 + b, sub := 0, toHost := false, total := total, since := s.now }

/-- `DEP_SWITCH` (R73, R143). -/
def cmdDepSwitch (t : Task) (s : State) : State :=
  let b := leAt t.payload 0 1
  s.ranged t ((decide (1 < b), 16) :: resv t.payload [1, 2, 3]) fun s =>
    if s.bankState b != 1 then s.refuse t stDenied 0
    else if !s.imageOk b then s.refuse t stBadCheck 0
    else
      let s1 := s.setBankBytes fun d => (d.set b 2#8).set 2 0#8
      State.ok { s1 with mn.restartDue := some 0x21 } t []

/-- `DEP_KEY1` (R144): record 3 and then record 4 as 0 are written; the response follows both (R391). -/
def cmdDepKey1 (t : Task) (s : State) : State :=
  let x := beNat (t.payload.take 32)
  let y := beNat (t.payload.drop 32)
  if s.key1.isSome || s.pendRecs.any (fun e => e.region == 0 && e.record == 3) then s.refuse t stDenied 0
  else if !onP256 (x, y) then s.refuse t stRange 16
  else
    (s.postRec 0 { region := 0, record := 3, data := t.payload, cmd := true }).waitCmdRec t.hdr { region := 0, record := 4, data := leBytes 4 0 }

/-- `DEP_KEY0_OFF` (R144). -/
def cmdDepKey0Off (t : Task) (s : State) : State :=
  s.ranged t [(leAt t.payload 0 4 != 0x46464F4B, 16)] fun s =>
    if s.key1.isNone then s.refuse t stDenied 0
    else s.waitCmdRec t.hdr { region := 0, record := 4, data := leBytes 4 1 }

/-- `DEP_SVC_PW` (R144, R79). -/
def cmdDepSvcPw (t : Task) (s : State) : State :=
  if s.svcAttempts == 0 then s.refuse t stDenied 0
  else if leAt t.payload 0 8 != s.svcPw then s.wrongSvc.refuse t stDenied 0
  else s.waitCmdRec t.hdr { region := 0, record := 2, data := leBytes 8 (leAt t.payload 8 8) }

end Sys2Proof.Machine
end

