-- ==== Sys2Proof/Machine/Boot.lean ====
section
/-!
DEFINITION. Sys2Proof/Machine/Boot.lean: the start of the main domain (Tables 3.3 and 3.9): bank selection (R72), image check
and load (R65, R71, R74), self-test (R69, R36), recall (R386) with the recalled configuration (R257, R390), and ready (R65, R75).
-/
namespace Sys2Proof.Machine
open Sys2Proof

/-! ### Bank selection (R72, R75) -/

/-- Boot-ROM Depot: no bank holds a valid image (R75). After a restart `DE` holds its stages at their last commands (R85, log 67). Under
a latched Buffer Stop the start ends in Buffer Stop (R428). -/
def State.romDepot (s : State) : State :=
  let s1 := { s with mn.phase := .romDepot, mn.fwId := 0, mn.serving := true, mn.startCause := 0x30 }
  (s1.setMode (if s1.th.bufStop.isSome then .bufferStop else .depot)).settle

/-- Record 0 of region 0 as the boot ROM judges it (R389). -/
def State.bootSel (s : State) : RecSel :=
  let l := s.lens 0
  judgeNew s.rs.cells (recAddr l 0 0) (l.getD 0 0) (recDefault 0 0 (l.getD 0 0))

/-- A bank's state as the boot ROM reads it. -/
def State.bootBank (s : State) (b : Nat) : Nat := leAt s.bootSel.data b 1

/-- The boot ROM writes record 0 under R382, without the write list (R389). -/
def State.setBoot (s : State) (f : List Byte → List Byte) : State := s.landAt 0 0 (s.copyPlace s.bootSel 0 0 false (f s.bootSel.data))

/-- A bank takes a state by the boot ROM. -/
def State.setBootBank (s : State) (b st : Nat) : State := s.setBoot fun d => d.set b (by8 st)

/-- The image check of a candidate begins. -/
def State.candidate (s : State) (step b : Nat) : State :=
  { s with mn.phase := .imageCheck, mn.bankStep := step, mn.bankSel := b }

/-- The first `STANDBY` bank from `b` on. -/
def State.pickStandby (s : State) (b : Nat) : State :=
  if b == 0 && s.bootBank 0 == 4 then s.candidate 2 0
  else if b ≤ 1 && s.bootBank 1 == 4 then s.candidate 2 1
  else s.romDepot

/-- The `ACTIVE` bank, or the `STANDBY` ones. -/
def State.pickActive (s : State) : State :=
  if s.bootBank 0 == 3 then s.candidate 1 0
  else if s.bootBank 1 == 3 then s.candidate 1 1
  else s.pickStandby 0

/-- A bank is marked `REJECTED`, with its event. -/
def State.rejectBank (s : State) (b : Nat) : State := (s.setBootBank b 5).sbEvent evImageRejected 0 b

/-- Bank selection: a `TRIAL` bank first, for three starts. -/
def State.pickBank (s : State) : State :=
  match (List.range 2).find? fun b => s.bootBank b == 2 with
  | none => s.pickActive
  | some b =>
    let n := leAt s.bootSel.data 2 1 + 1
    let s1 := s.setBoot fun d => d.set 2 (by8 (min 255 n))
    if n ≤ 3 then s1.candidate 0 b else (s1.rejectBank b).pickActive

/-- The candidate fails its check, or cannot be read (R17): the next one is tried. -/
def State.bankFails (s : State) : State :=
  match s.mn.bankStep with
  | 0 => (s.rejectBank s.mn.bankSel).pickActive
  | 1 => s.pickStandby 0
  | _ => s.pickStandby (s.mn.bankSel + 1)

/-- The candidate is booted: a `STANDBY` bank becomes `ACTIVE`, and the `ACTIVE` one that failed `REJECTED`. -/
def State.bankBoots (s : State) : State :=
  if s.mn.bankStep ≤ 1 then s
  else
    let b := s.mn.bankSel
    let s1 := if s.bootBank (1 - b) == 3 then s.rejectBank (1 - b) else s
    s1.setBootBank b 3

/-- BOOT_ROM_START: the boot ROM fixes the profile (R4, R5) and selects a bank. -/
def execBootRomStart (s : State) : Out :=
  if s.mn.phase != .held || s.mn.restartDue.isSome || s.pw.rstLow || s.pw.coreLost || !s.vsupOk then .next s
  else
    let s1 := { s with mn.profActive := s.profNow, mn.profSrc := s.st.profL, mn.fwId := 0 }
    .next s1.pickBank

/-- IMAGE_CHECK_DONE: the check of the selected image ends; `ded` when the boot ROM met a double-bit error. -/
def execImageCheckDone (ded : Bool) (s : State) : Out :=
  if s.mn.phase != .imageCheck then .next s
  else if !ded && s.imageOk s.mn.bankSel then .next { s with mn.phase := .loading }
  else .next s.bankFails

/-- `DE` is loaded at a cold start, where it runs no microcode yet, and when the image carries other microcode (R74). -/
def State.loadDe (s : State) : State :=
  let id := imgDeId (s.flash s.mn.bankSel)
  if s.mn.deId == some id then s
  else
    let s1 := if s.mn.deRun then State.deStop { s with mn.deRun := false } else s
    State.critFollow { s1 with mn.deId := some id, mn.deRun := s1.mn.drvLocked }

/-- IMAGES_LOADED: the engine images are loaded from flash, and `DE` when needed. -/
def execImagesLoaded (ded : Bool) (s : State) : Out :=
  if s.mn.phase != .loading then .next s
  else if ded then .next s.bankFails
  else
    let m := s.flash s.mn.bankSel
    let s1 := s.bankBoots.loadDe
    .next { s1 with mn.phase := .selfTest, mn.bankRun := s.mn.bankSel, mn.fwId := imgVersion m, mn.protoMax := imgProto m }

/-! ### Self-test (R36, R69) -/

/-- Changes one zone core. -/
def State.modCore (s : State) (c : Nat) (f : ZCore → ZCore) : State := { s with per.cores := lmod s.per.cores c f }
def State.core (s : State) (c : Nat) : ZCore := s.per.cores.getD c {}

/-- A zone core fails its self-test: it is reset and tested again, three times at most. -/
def State.coreFails (s : State) (c : Nat) : State :=
  let n := (s.core c).fails + 1
  (s.modCore c fun x => { x with online := false, testing := n < 3, fails := n }).sbEvent evSelftestFail 0 (0x10 + c)

/-- A core goes offline: logged once for the absence. -/
def State.coreOffEvent (s : State) (c cause : Nat) : State :=
  if (s.core c).offLogged then s
  else (s.modCore c fun x => { x with offLogged := true }).sbEvent evCoreOffline 0 (cause * 256 + c)

/-- Blocks of the main-domain self-test (Table 5.19). -/
def selfTestBlock (b : Nat) : Bool := b ≤ 0x0B || (0x10 ≤ b && b ≤ 0x13)

/-- One block that failed. -/
def State.blockFails (s : State) (b : Nat) : State :=
  if !selfTestBlock b then s
  else if 0x10 ≤ b then (s.coreFails (b - 0x10)).coreOffEvent (b - 0x10) 2
  else State.sbEvent { s with mn.selfTestBad := true } evSelftestFail 0 b

/-- SELFTEST_DONE: failing blocks are logged, the firmware logs its start, and mailbox service begins (R66). -/
def execSelftestDone (badBlocks : List Nat) (s : State) : Out :=
  if s.mn.phase != .selfTest then .next s
  else
    let s1 := badBlocks.foldl State.blockFails s
    let s2 := State.sbEvent { s1 with mn.phase := .recall, mn.serving := true } evMainStart 0 s1.mn.startCause
    let s3 := if s2.pw.vsupLossToLog then
        State.sbEvent (State.sbEvent { s2 with pw.vsupLossToLog := false } evSupplyLost 0 0) evSupplyBack 0 0
      else s2
    .next s3.settle

/-- CORE_SELFTEST_DONE: a core that is being tested passes and is online and idle, or fails (R36). A core that passes before
ready starts with the others (R69). -/
def execCoreSelftestDone (c : Fin 4) (pass : Bool) (s : State) : Out :=
  if !(s.core c.val).testing || !s.sbAlive then .next s
  else if pass then
    .next (s.modCore c.val fun x =>
      { x with online := true, testing := false, whole := !s.mn.ready, returned := s.mn.ready, offLogged := false,
               progress := s.now })
  else .next (s.coreFails c.val)

/-! ### The recalled configuration (R257, R390, R398, R407) -/

/-- The words that the store holds for a persistent group, with whether its header names the group; none at default. `CRIT_LOWER` has
its one home in record 9 of region 7 (R398, R407). -/
def State.storedWords (s : State) (o : Nat) (g : Grp) : Option (List Word × Bool) :=
  let crit := s.recSel 7 9
  if objCls o == 0x10 then
    let sel := s.recSel 7 (objInst o)
    if sel.valid ≥ 8 then none else some (wordsOf sel.data (min g.words (sel.data.length / 4)), true)
  else
    let home : Option (List Word × Bool) := match region1Objs.findIdx? fun p => p.1 == o with
      | none => none
      | some k =>
        let sel := s.recSel 1 k
        if sel.valid ≥ 8 then none
        else some (wordsOf (sel.data.drop 8) (min g.words (leAt sel.data 4 2 / 4)), leAt sel.data 0 4 == o)
    if objCls o != 0x0F then home
    else if crit.valid < 8 then
      some (((home.map (·.1)).getD [wd (g.dfltWord 0)]).take 1 ++ wordsOf crit.data 1, (home.map (·.2)).getD true)
    else home.map fun w => (w.1.take 1, w.2)

/-- Every recalled group in force as the store holds it. -/
def State.loadWords (s : State) : State :=
  imageObjs.foldl (fun (t : State) p => match s.storedWords p.1 p.2 with
    | some w => t.setWords p.1 p.2 0 w.1
    | none => t) { s with cfg := [] }

/-- The checks of `OBJ_SET` on a recalled group, without passwords, and for valve channels and groups without those of R257. What was
stored in native operation is kept in Profile L, minutes being rounded (R8), but for an address above 255 (R375, R390). -/
def State.recallBad (t0 : State) (o : Nat) (g : Grp) (w : List Word × Bool) : Bool :=
  let t : State := { t0 with mn.profActive := t0.mn.profActive && objCls o == 0x0D }
  let n := w.1.length
  let i := objInst o
  let cross : Chk := match objCls o, objGrp o with
    | 0x0E, _ => none
    | 0x04, 0x020 =>
      if i < 24 then (if t.cfgMember i then some (stRange, 20)
        else firstChk [t.chkGang n i, badAt n Fd.vConf.F_DITHER_HZ (t.ditherBad (i / 6))])
      else badAt n Fd.gConf.PWM_HZ (t.ditherBad (i - 0x100))
    | _, _ => t.crossCheck t o w.1
  !w.2 || (g.rangeFault w.1).isSome || cross.isSome

/-- The groups that are refused, ascending. -/
def State.recallRefused (s t : State) : List Nat :=
  (imageObjs.filter fun p => match s.storedWords p.1 p.2 with
    | some w => t.recallBad p.1 p.2 w
    | none => false).map (·.1)

/-- A refused group takes its defaults. -/
def State.groupDefault (t : State) (o : Nat) : State := { t with cfg := t.cfg.filter fun e => e.1 / 64 != o }

/-- Valve groups that fail the checks of R257, judged in ascending order: a group sees those before it as accepted. -/
def State.badGroups (t : State) : List Nat :=
  (List.range 4).foldl (fun (bad : List Nat) g =>
    if (t.chkSums 0 g Fd.vConf.I_FS Fd.vConf.I_FS Fd.vConf.L_MH fun h => h > g || bad.contains h).isSome then bad ++ [g] else bad) []

/-- The recalled configuration in force: refused groups at their defaults, failing valve groups held off. -/
def State.loadConfig (s : State) : State :=
  let t := s.loadWords
  let u := (s.recallRefused t).foldl State.groupDefault t
  let bad := u.badGroups
  let v := (List.range 4).foldl (fun (x : State) g => x.modGrp g fun y => { y with config := bad.contains g }) u
  { v with per.ms := v.cf (sysObj 0x010) Fd.period.PERIOD_MS }

/-- The events of refused configuration (R257, R390). -/
def State.refusalEvents (s : State) : State :=
  let s1 := (s.recallRefused s.loadWords).foldl (fun (t : State) o => t.sbEvent evRecConfigRefused 0 o) s
  (List.range 4).foldl (fun (t : State) g => if (t.vgrp g).config then t.raise prDE evValveFault (0x100 + g) 6 else t) s1

/-! ### Other recalled records -/

/-- Models of region 2 (R226, R227). -/
def State.recallModels (s : State) : State :=
  (List.range 32).foldl (fun (t : State) z =>
    let sel := s.recSel 2 z
    t.modMdl z fun _ => if sel.valid ≥ 8 then {} else { modelOf {} sel.data with recalledDflt := false }) s

/-- Fan signatures of region 3 (R277). -/
def State.recallSigs (s : State) : State :=
  (List.range 12).foldl (fun (t : State) n =>
    let sel := s.recSel 3 n
    if sel.valid ≥ 8 then t
    else t.modFan n fun y => { y with sig := (List.range 8).map fun k => (wd (leAt sel.data (4 * k) 4), leAt sel.data (32 + k) 1) }) s

/-- The stored matrix of a port, and whether it is accepted (R343, R398). -/
def State.storedMatrix (s : State) (p : Nat) : Option (List Byte × Bool) :=
  let sel := s.recSel 1 (region1Objs.length + p)
  if sel.valid ≥ 8 then none
  else
    let m := bytesAt sel.data 8 (leAt sel.data 4 2)
    some (m, leAt sel.data 0 4 == ttRecObj p && mxFormOk m && mxFits m (s.canTim p) s.periodMs)

/-- Active matrices at a start. -/
def State.recallMatrices (s : State) : State :=
  (List.range 3).foldl (fun (t : State) p => match s.storedMatrix p with
    | some (m, true) => t.modPort p fun x => { x with tt.active := some m }
    | _ => t) s

/-- System records: the save log and the last address. -/
def State.recallSystem (s : State) : State :=
  let d := s.recData 0 38
  { s with pw.saveCount := sat 16 (leAt d 0 4), pw.saveLastUs := leAt d 4 2, rs.saveDropped := leAt d 6 2,
           fb.lastHeld := leAt (s.recData 0 5) 0 4 % 4096 }

/-- A loop rebuilt from the output that `DE` holds: it goes on from there (R86, R208). -/
def State.loopFromStage (s : State) (k : Nat) : State :=
  let z := s.cf (lpObj k 0x020) Fd.loopConf.ZONE
  match (s.loopInput k).bind (s.inputStage z) with
  | none => s.modLoop k fun _ => {}
  | some st => s.modLoop k fun _ => { ({} : Loop) with st := .hold, out := s.inForce st }

/-- The blocks of the preserved area that read with an uncorrectable error, rebuilt: loops from the stages, models and hot values from
their records, the others at their defaults. Which blocks an error has hit is a free value (R86, log 64). -/
def State.rebuild (s : State) : State :=
  if !s.mn.ded || s.mn.cold then s
  else
    let bad (k : Nat) : Bool := bitOf (Config.free s.freeCtr) k
    let s1 := { s.freeNext with mn.ded := false, mn.blockPer := (List.range 7).map fun k => if bad k then 0 else s.mn.blockPer.getD k 0 }
    let s2 := if bad 0 then { s1 with se.pts := List.replicate 160 { byStart := true } } else s1
    let s3 := if bad 1 then { s2 with zs.zn := s2.zs.zn.map fun x => { ({} : Zone) with pres := x.pres } } else s2
    let s4 := if bad 2 then (List.range 64).foldl State.loopFromStage s3 else s3
    let s5 := if bad 3 then { s4 with zs.zn := s4.zs.zn.map fun x => { x with pres := { since := s4.now, occMark := s4.now } } } else s4
    let s6 := if bad 4 then { s5 with pr.warm := List.replicate 32 {} } else s5
    let s7 := if bad 5 then { s6 with rs.hot := hotOf (s6.recData 4 0) } else s6
    if bad 6 then s7.recallModels else s7

/-- The ports follow the mode: those that may be powered join the bus, the others leave it (R314). -/
def State.portsFollow (s : State) : State :=
  (List.range 3).foldl (fun (t : State) p =>
    if t.canPower p then (if (t.port p).st == .off then t.canOn p else t)
    else if (t.port p).st == .off then t else t.canOff p) s

/-- RECALL: recall has read and judged both copies of every record in `us` µs; the ports run one-shot until ready. Models,
signatures and hot values are recalled at a cold start, and after a restart what of the preserved area does not read is rebuilt (R86). -/
def execRecall (us : Nat) (s : State) : Out :=
  if s.mn.phase != .recall then .next s
  else
    let s1 := (s.recallAll us).loadConfig.recallSystem.recallMatrices.recallLog
    let s2 := if s1.mn.cold then State.recallSigs (State.recallModels { s1 with rs.hot := hotOf (s1.recData 4 0) }) else s1
    let s3 := if s2.mn.cold then allStages.foldl State.retake s2 else s2
    .next s3.rebuild.portsFollow.settle

/-! ### The zone-to-core map (R35–R37) -/

/-- The core may run zones by `CORE_ENABLE`. -/
def State.coreEnabled (s : State) (c : Nat) : Bool := bitOf (s.cf (sysObj 0x010) Fd.period.CORE_ENABLE) c

/-- A core that has returned carries zones after a whole period online. -/
def ZCore.proven (x : ZCore) : Bool := x.online && (!x.returned || x.whole)

/-- The cores that carry zones in the next map: in Platform `ZC0`, or the lowest-numbered core that is online (R36). -/
def State.capable (s : State) : List Nat :=
  if s.mn.mode == .platform then
    (if (s.core 0).proven then [0] else ([1, 2, 3].filter fun c => (s.core c).online).take 1)
  else (List.range 4).filter fun c => s.coreEnabled c && (s.core c).proven

/-- Zones stay with their core, or go home; the others go to the core that carries the fewest (R35). -/
def remap (cap : List Nat) (old : List (Option Nat)) : List (Option Nat) :=
  let first := (List.range 32).map fun z =>
    if cap.contains (z / 8) then some (z / 8)
    else match old.getD z none with
      | some c => if cap.contains c then some c else none
      | none => none
  let load (m : List (Option Nat)) (c : Nat) : Nat := (m.filter fun x => x == some c).length
  (List.range 32).foldl (fun (m : List (Option Nat)) z =>
    if (m.getD z none).isSome then m
    else lset m z (cap.foldl (fun (b : Option Nat) c => match b with
      | none => some c
      | some k => if load m c < load m k then some c else b) none)) first

/-- The map takes effect, with the events of returning cores and of an empty map (R35, R37). -/
def State.takeMap (s : State) : State :=
  let cap := s.capable
  let m := remap cap s.per.zmap
  let back := cap.filter fun c => (s.core c).returned
  let s1 := { s with per.zmap := m }
  let s2 := back.foldl (fun (t : State) c =>
    (t.modCore c fun x => { x with returned := false, offLogged := false }).sbEvent evCoreOnline 0 c) s1
  if !cap.isEmpty then { s2 with per.emptyAt := none, per.emptyLogged := false }
  else
    let s3 := { s2 with per.emptyAt := s2.per.emptyAt.or (some s2.now), gd.ctlDue := false }
    if s3.per.emptyLogged then s3 else State.sbEvent { s3 with per.emptyLogged := true } evNoZoneCore 0 (s3.per.count % 65536)

/-! ### Ready (R65, R75) -/

/-- Schedules whose stored entries Profile L rounds are logged (R8). -/
def State.roundedEvents (s : State) : State :=
  if !s.mn.profActive then s
  else (List.range 96).foldl (fun (t : State) i =>
    let o := schObj i
    let ms := if i < 32 then (List.range (t.cf o Fd.sched.N_ENT)).map fun j => t.cf o (Fd.sched.MINUTE0.at_ j)
      else (List.range (t.cf o Fd.exday.N_ENT)).map fun j => t.cf o (Fd.exday.MINUTE0.at_ j)
    let n := (ms.filter fun m => m % 15 != 0).length
    if n == 0 then t else t.sbEvent evSchedRounded i n) s

/-! ### What `SB` does with events that it takes -/

/-- A model that does not fit the configuration in force is reset, the others are judged (R225, R226). -/
def State.readyModel (s : State) (z : Nat) : State :=
  let m := s.mdl z
  if m.recalledDflt then s.resetModel prPE 5 z 2 0
  else if m.hMs != s.hMs then s.resetModel prPE 5 z 1 0
  else if m.na != s.mc z Fd.mdConf.N_A then s.resetModel prPE 5 z 4 0
  else (s.dropUnused z).qualify prPE z

/-- Every model in turn; `SB` takes the events as they come. -/
def State.readyModels (s : State) : State :=
  (List.range 32).foldl (fun (t : State) z => (t.readyModel z).takeEvts State.evtHook 16) s

/-- The counters of a start (Table 14.8). Fault restarts that never came to ready are counted with the one that did,
and so are assertions of the comparator before it. -/
def State.readyCounts (s : State) : State :=
  let s1 := if s.mn.cold then s.count 0 else s
  let s2 := (List.range s1.mn.restartsDue).foldl (fun (t : State) _ => t.count 1) { s1 with mn.restartsDue := 0 }
  let s3 := if s2.th.bufFlag then State.count { s2 with th.bufFlag := false } 2 else s2
  (List.range s3.act.critDue).foldl (fun (t : State) _ => t.count 6) { s3 with act.critDue := 0 }

/-- The start came from standby, so no power-fail save preceded it. -/
def fromStandby (cause : Nat) : Bool := cause == 0x04 || cause == 0x05 || (0x10 ≤ cause && cause ≤ 0x1A)

/-- The events that a start logs at ready. -/
def State.readyEvents (s : State) : State :=
  let saved := bitOf (leAt (s.recData 4 0) 2 1) 0
  let s1 := if s.st.unstable != 0 then s.sbEvent evStrapUnstable 0 s.st.unstable else s
  let s2 := if s1.mn.cold && !saved then s1.raise prRec evRecHotStale 0 0 else s1
  let s3 := if saved && s2.rs.saveDropped != 0 && !fromStandby s2.mn.startCause then
      s2.raise prRec evRecSaveDropped 0 s2.rs.saveDropped
    else s2
  let bad := (List.range 3).filter fun p => match s3.storedMatrix p with
    | some (_, false) => true
    | _ => false
  (bad.foldl (fun (t : State) p => t.sbEvent evRecConfigRefused 0 (ttRecObj p)) s3).refusalEvents.roundedEvents

/-- The mode in which Shunting ends (R75, R428); a self-test failure goes before a low `SVC_N` (R69, log 67). -/
def State.startMode (s : State) : State :=
  let end_ := s.mn.endMode
  let s1 := { s with mn.endMode := none }
  let cause := if s1.mn.sidingCause != 0 then s1.mn.sidingCause else if s1.mn.selfTestBad then 2 else 0
  if s1.th.bufStop.isSome then s1.bufferSb
  else if cause != 0 then s1.enterSiding cause
  else match end_ with
  | some m => s1.setMode m
  | none =>
    if !s1.st.svcN then (s1.setMode .depot).safeOutside
    else s1.setMode (if s1.cf (sysObj 0x030) Fd.power.BOOT_MODE == 3 then .platform else .mainline)

/-- What runs from ready on, and again from the end of Siding: ports, fabric, Timetables and the map. -/
def State.startEngines (s : State) : State :=
  let s1 := s.portsFollow.fabReady
  let s2 := (List.range 3).foldl State.ttEnable s1
  if s2.zonesRun then s2.takeMap else s2

/-- Entries that waited for the store log's number enter it. -/
def State.flushLog (s : State) : State :=
  let l := s.rs.logHeld
  l.foldl State.toStoreLog { s with rs.logHeld := [], rs.logDone := 0 }

/-- The start is a restart of the main domain (Tables 3.8 and 3.9): by `RST_N`, by command, after a fault, or after a save whose supply
came back; one before ready of a cold start is one too. -/
def State.isRestart (s : State) : Bool :=
  s.mn.startCause == 0x01 || s.mn.startCause == 0x02 || s.mn.startCause == 0x03 || s.mn.startCause == 0x20 || s.mn.startCause == 0x21

/-- READY: the recalled configuration is applied, the device is ready, and Shunting ends; a fan that Guard has taken in the Shunting of a
cold start starts then (Table 16.4). The first period is a rejoin period
after a restart (R87). -/
def execReady (s : State) : Out :=
  if s.mn.phase != .applying then .next s
  else
    let ms := s.periodMs
    let s0 := { s with mn.phase := .run, mn.ready := true, mn.readyAt := s.now, host.talkAt := s.now,
                       per.rejoin := s.isRestart, per.lenUs := ms * 1000 }
    let s1 := s0.flushLog.countLives
    let s2 := s1.aosEnable.readyEvents.readyModels.readyCounts
    let s3 := s2.postRec 0 { region := 4, record := 0, data := s2.hotBytes false }
    let s4 := s3.startMode.panelStart.startEngines
    let s5 := { s4 with mn.cold := false }
    .next (if s4.mn.cold then (List.finRange 12).foldl (fun (t : State) n => t.retake (.fan n)) s5 else s5).settle

end Sys2Proof.Machine
end

