-- ==== Sys2Proof/Machine/Period.lean ====
section
/-!
DEFINITION. Sys2Proof/Machine/Period.lean: the zone period (R21–R25), zone cores (R36, R37), the Changeover (R26–R30, R33–R35),
the snapshot (R28, R117), trial images (R74) and the end of a thermal Siding (R419).
-/
namespace Sys2Proof.Machine
open Sys2Proof

/-! ### Events that `SB` takes (R150) -/

/-- `SB`'s firmware runs and takes events. -/
def State.sbTakes (s : State) : Bool :=
  match s.mn.phase with
  | .recall => true
  | .applying => true
  | .run => true
  | _ => false

/-- EVT_TAKE: `SB` takes one entry from `Q-EVT` into the log (R150, R460); from tc to the next t0 the drain alone reads (R29). -/
def execEvtTake (s : State) : Out := if s.sbTakes && !s.pastTc then .next (s.takeEvt State.evtHook) else .next s

/-- A producer whose credits have returned sends its held events and then its overflow event (R45). -/
def State.sendAll (s : State) : State :=
  s.sendProds.panelDrain

/-- EVT_HELD_SEND: one producer sends; the peripheral event merger takes the panel's change buffer with it (R300). -/
def execEvtHeldSend (p : Fin 12) (s : State) : Out :=
  let s1 := (s.sendHeld p.val 8).sendOverflow p.val
  .next (if p.val == prPeri then s1.panelDrain else s1)

/-! ### The start of a period (R21, R23) -/

/-- Per-period marks of a zone at t0: a poisoned item counted for the period that has ended (R42). -/
def Zone.newPeriod (x : Zone) : Zone :=
  { x with computed := false, planBad := false, entries := x.entries.map fun e => (e.1, { e.2 with poisoned := false }),
           inputs := x.inputs.map fun i => { i with byPlan := false } }

/-- Once-per-period marks are cleared; the store log's entries since ready count in the first period. -/
def State.clearMarks (s : State) : State :=
  { s with zs.zn := s.zs.zn.map Zone.newPeriod, act.valves := s.act.valves.map fun v => { v with deferLog := false },
           act.fans := s.act.fans.map fun f => { f with waitLog := false }, pn.encs := s.pn.encs.map fun e => { e with errLog := false },
           rs.logDone := if s.per.started then 0 else s.rs.logDone, qst := s.qst.map fun q => { q with underLogged := false },
           host.idle := s.host.idle.map fun k => if k == 0 then 0 else 2 }

/-- A converted record is still to be written back: its copy is of version 1 yet, and no write of it is on its way, whose content is
newer (R388, R392). -/
def State.toConvert (s : State) (e : RecEntry) : Bool :=
  let same (x : RecEntry) : Bool := x.region == e.region && x.record == e.record
  (s.recSel e.region e.record).v1 &&
    !((s.rs.queue ++ s.rs.waiting).any (fun q => same q.val) || s.rs.wlist.any same || s.rs.cur.any same)

/-- Record writes that wait for a later period: those repeated after a poisoned entry (R42), and in the first period the
converted records (R388). -/
def State.repost (s : State) : State :=
  let s1 := s.rs.again.foldl (fun (t : State) e => t.postRec e.prod e.val) { s with rs.again := [] }
  (s1.rs.toMigrate.filter s1.toConvert).foldl (fun (t : State) e => t.postRec 0 e) { s1 with rs.toMigrate := [] }

/-- A solve starts in Mainline at positive multiples of `PLAN_EVERY`, never in a rejoin period (R218, R88). -/
def State.solvePeriod (s : State) : Bool :=
  s.mn.mode == .mainline && !s.per.rejoin && s.per.count != 0 && s.per.count % s.planEvery == 0

/-- The staleness test of every point at t0 (R174). -/
def State.staleSweep (s : State) : State :=
  if !s.staleTested then s
  else (List.range 160).foldl (fun (t : State) p =>
    let t1 := t.testStale 0 p
    if (t1.prods.getD (prSE 0) {}).held.isEmpty then t1 else t1.letEvtsGo) s

/-- A period begins at `t0`. -/
def State.beginPeriod (s : State) (t0 : Nat) (rejoin : Bool) : State :=
  let s1 := (s.advTo t0).clearMarks
  let on := s1.zonesRun
  let sk := if (s1.inFabric || s1.fb.refTaken) && s1.fb.timed then max (-32767) (min 32767 (s1.skewAt t0)) else 0
  let per : Period :=
    { s1.per with running := true, rejoin := rejoin, inCo := false, instantDone := false, t0 := t0,
                  t0Fab := (t0 : Int) + s1.fb.offset,
                  lenUs := s1.periodLen t0 rejoin, count := if s1.per.started then (s1.per.count + 1) % 2 ^ 32 else s1.per.count,
                  started := true, coreActive := 0, skew := sk,
                  undone := if on then (List.range 32).filter fun z => s1.zoneOn z else [],
                  cores := (List.range 4).map fun c =>
                    { s1.core c with whole := (s1.core c).online && (s1.mn.mode == .platform || s1.coreEnabled c) } }
  let s2 := { s1 with per := per, pr.told := { plans := s1.pr.plans, nSteps := s1.pr.nSteps, nBlocks := s1.pr.nBlocks, hMs := s1.pr.hMs } }
  let s3 := s2.staleSweep.crossOut.ctrlCheck.latchBounds.noteOutdoor
  let s4 := if s3.solvePeriod then s3.solveStart else s3
  s4.seqPeriodStart.repost

/-- Periods run: in Platform, Mainline and Depot. -/
def State.periodsRun (s : State) : Bool := s.mn.phase == .run && (s.zonesRun || s.mn.mode == .depot)

/-- PERIOD_START: t0. The first period starts at ready, or, at a node that is not alone, at the first fabric-aligned instant
after it has taken up fabric time (R68). -/
def execPeriodStart (s : State) : Out :=
  if !s.periodsRun then .next s
  else if s.per.running then
    (if s.per.inCo then .next (s.beginPeriod (s.per.t0 + s.per.lenUs) false) else .next s)
  else if s.per.rejoin || !s.fb.heardAny || !s.jnOn then .next (s.beginPeriod s.mn.readyAt s.per.rejoin)
  else if s.fb.timed then .next (s.beginPeriod (s.nextAligned (max s.now s.mn.readyAt)) false)
  else .next s

/-! ### Zone work (R23, R186) -/

/-- One computation of a zone (Table 7.1). -/
def State.computeZone (s : State) (z : Nat) : State :=
  let c := s.coreOf z
  let dt := match (s.zone z).lastAt with
    | none => secF s.periodUs
    | some t => secF (s.now - t)
  let s1 := (List.range 4).foldl (fun (t : State) i => t.judgeProof z i) (s.takeTemp z)
  let s2 := ((s1.presence z dt).stateBand z).runLoops z dt
  let s3 := if (List.range 4).any fun i => (s2.inp z i).unproven then s2.addStep z else s2.identify z
  let s4 := (List.range 4).foldl (fun (t : State) i => t.zoneCommand z i) s3
  let sp := match s4.planItem z with
    | some it => it.sp
    | none => fNaN
  let s5 := s4.modZone z fun x =>
    { x with planSp := sp, computed := true, core := c, lastPer := s4.per.count, lastAt := some s4.now, first := false,
                         inputs := x.inputs.map fun i => { i with bComp := i.b } }
  let s6 := s5.modZone z fun x => { x with words := s5.zoneWords z }
  { s6 with per.undone := s6.per.undone.filter (· != z) }

/-- The zones of a core that still wait, ascending. -/
def State.coreUndone (s : State) (c : Nat) : List Nat := s.per.undone.filter fun z => s.per.zmap.getD z none == some c

/-- A core computes its zones in ascending order, at most `n` of them when it hangs. -/
def State.coreZones (s : State) (c : Nat) (n : Option Nat) : List Nat :=
  if !(s.core c).online then []
  else match n with
    | none => s.coreUndone c
    | some k => (s.coreUndone c).take k

/-- The zones that a core computes. -/
def State.coreDue (s : State) (hung : List (Fin 4 × Nat)) (c : Nat) : List Nat :=
  s.coreZones c ((hung.find? fun h => h.1.val == c).map (·.2))

/-- `CORE_ACTIVE`: the cores that run zones in the period. -/
def State.coresDue (s : State) (hung : List (Fin 4 × Nat)) : Nat := maskOf 4 fun c => !(s.coreDue hung c).isEmpty

/-- The zones that are computed, in ascending order. -/
def State.zonesDue (s : State) (hung : List (Fin 4 × Nat)) : List Nat :=
  let l := (List.range 4).flatMap (s.coreDue hung)
  (List.range 32).filter l.contains

/-- Every enabled guard zone's zone has been computed in this period, which begins the control pattern (R404). -/
def State.guardsComputed (s : State) : Bool :=
  s.gd.zones.all fun g => !g.enabled || (s.zone (bits (g.cfg.getD 0 0) 7 0)).computed

/-- ZONE_INSTANT: a solve that still runs is stopped (R25), and each online core computes its zones; a core in `hung` stops
after the number of zones given with it. A core's 10 ms run from its last zone, or from now where work falls due while it had none
(R36). -/
def execZoneInstant (hung : List (Fin 4 × Nat)) (s : State) : Out :=
  if !s.zonesRun || !s.per.running || s.per.inCo || s.per.instantDone then .next s
  else
    let s1 := s.advTo s.zoneInstantAt
    if s1.now ≥ s1.tc then .next s1.solveStop
    else
      let s2 := { s1.solveStop with per.instantDone := true, per.coreActive := s1.coresDue hung }
      let s3 := (s2.zonesDue hung).foldl State.computeZone s2
      let s4 := (List.range 4).foldl (fun (t : State) c => t.modCore c fun x =>
        let waited := (s2.coreDue hung c).isEmpty && ((s2.coreUndone c).isEmpty || !(s2.zs.qPnt.getD c []).isEmpty)
        if !x.online || waited then x else { x with progress := t.now }) s3
      .next { s4 with gd.ctlDue := s4.gd.ctlDue || (s4.guardsComputed && s4.per.emptyAt.isNone) }

/-! ### Zone cores (R36, R37) -/

/-- CORE_WATCHDOG_EXPIRY: a core with work due or items waiting posts no progress for 10 ms: it goes offline and is reset and
tested. -/
def execCoreWatchdogExpiry (c : Fin 4) (s : State) : Out :=
  let x := s.core c.val
  let work := s.per.instantDone && !(s.coreUndone c.val).isEmpty
  if s.mn.phase != .run || !x.online || !(work || !(s.zs.qPnt.getD c.val []).isEmpty) then .next s
  else
    let s1 := s.advTo (x.progress + 10000)
    let s2 := s1.modCore c.val fun y => { y with online := false, testing := true, whole := false, returned := false }
    .next ({ s2 with per.coreActive := putBit s2.per.coreActive c.val false }.coreOffEvent c.val 1)

/-- NO_ZONE_CORE_TIMEOUT: 10 s after the map became empty no core has come online: a fault restart. -/
def execNoZoneCoreTimeout (s : State) : Out :=
  match s.per.emptyAt with
  | none => .next s
  | some t =>
    let some_ := (List.range 4).any fun c => (s.core c).online && (s.mn.mode == .platform || s.coreEnabled c)
    if s.mn.phase != .run || some_ then .next s else .next ((s.advTo (t + 10000000)).faultRestart)

/-! ### The drain (R27) -/

/-- `DE` accepts the waiting commands. -/
def State.takeCmds (s : State) : Nat → State
  | 0 => s
  | n + 1 => if (s.act.qCmd.map List.length).sum == 0 then s else State.takeCmds s.takeCmd n

/-- `SB` empties `Q-EVT`; producers send what they held before tc, and `SB` empties it again. What they have held since tc enters
`Q-EVT` when the drain is over (R29). -/
def State.drainEvts (s : State) : Nat → State
  | 0 => s.takeEvts State.evtHook 512
  | n + 1 => State.drainEvts ((s.takeEvts State.evtHook 512).sendAll) n

/-- Every `Q-PNT` ring is emptied, with what waits for it. -/
def State.absorbRings (s : State) : State :=
  (List.range 4).foldl (fun (t : State) r => t.absorbAll r (64 + t.zs.pntWait.length + 64)) s

/-- `n` entries of `Q-SMP` at most are processed; an engine that waits goes on when the rings have given its credits back (R44). -/
def State.drainSmps (s : State) : Nat → State
  | 0 => s
  | n + 1 =>
    if (s.se.qSmp.map List.length).sum == 0 then s
    else State.drainSmps ((if s.seWaits 0 then s.absorbRings else s).takeSmp 0) n

/-- The queues drain downstream (Table 1.9, step 3). -/
def State.drain (s : State) : State :=
  let s1 := s.drainSmps 96
  let s2 := s1.absorbRings
  let s3 := if s2.deOn then s2.takeCmds (128 + s2.act.cmdWait.length) else s2
  let s4 := (s3.drainEvts 3).freeLate.sendProds
  s4.takeRecs (64 + s4.rs.waiting.length)

/-- Total occupancy of queue `q` (R48). -/
def State.occupancy (s : State) (q : Nat) : Nat :=
  match q with
  | 0 => (s.se.qSmp.map List.length).sum
  | 1 => (s.zs.qPnt.map List.length).sum
  | 2 => (s.act.qCmd.map List.length).sum
  | 3 => (s.qEvt.map List.length).sum
  | 4 => s.rs.queue.length
  | _ => if q < 8 then (s.port (q - 5)).qFabi.length else (s.port (q - 8)).qFabo.length

/-- `OCCUPANCY` of every queue as this Changeover's drain leaves it (R48, log 62). -/
def State.noteOcc (s : State) : State := (List.range 11).foldl (fun (t : State) q => t.modQ q fun x => { x with occ := s.occupancy q }) s

/-- The preserved blocks updated in the period take its number: the point table and the hot values in every period, zone and loop
states, presence estimates and models where zones run, the plan buffer after a solve (R86, R227). -/
def State.markBlocks (s : State) : State :=
  let l := s.mn.blockPer
  let put (k : Nat) (c : Bool) : Nat := if c then s.per.count else l.getD k 0
  { s with mn.blockPer := [put 0 true, put 1 s.zonesRun, put 2 s.zonesRun, put 3 s.zonesRun,
                           put 4 (s.per.count != 0 && s.pr.lastSolve == s.per.count), put 5 true, put 6 s.zonesRun] }

/-! ### Missed zones, proof inputs and the snapshot (R24, R212, R28) -/

/-- Zones not computed in the period are counted, with one event (R24, R37). -/
def State.countMissed (s : State) : State :=
  let n := if s.zonesRun then s.per.undone.length else 0
  let s1 := { s with per.undone := [], per.overruns := sat 16 (s.per.overruns + n) }
  if n == 0 then s1 else s1.sbEvent evZoneOverrun 0 n

/-- The command in force at each input's stage at the end of the period, and whether it is non-zero (R212). -/
def State.noteOn (s : State) : State :=
  (List.range 32).foldl (fun (t : State) z =>
    if !t.zoneOn z then t
    else (List.range 4).foldl (fun (u : State) i =>
      let on := match u.inputStage z i with
        | none => false
        | some (.fan n) => !fEq (u.fanTgt n.val) fZero
        | some st => !fEq (u.inForce st) fZero
      let v := match u.inputStage z i with | none => fZero | some st => u.inForce st
      u.modInp z i fun x => { x with wasOn := on, endVal := v }) t) s

/-- The snapshot (Table 4.10). -/
def State.snapshot (s : State) : List Byte :=
  leBytes 4 s.per.count ++ leBytes 8 (unsgn 64 s.per.t0Fab) ++ [by8 s.mn.mode.code, 32#8, 64#8, 0#8] ++
    leBytes 2 s.host.snapSkipped ++ List.replicate 14 0#8 ++ (List.range 32).flatMap fun z => (s.snapOf z).flatMap wordBytes

/-- The snapshot buffers: descriptors with `USE` 1. -/
def State.snapBufs (s : State) : List Nat :=
  if !s.host.wdescValid then [] else (List.range 64).filter fun d => s.owner d != 0 && s.descUse d == 1

/-- The snapshot goes into the buffer that is the device's and was not written last (R28, R117). The number written last outlives a
release of the buffer and a rebuild of the table (log 67); a buffer that a resize has left smaller than `USE` 1 needs takes no snapshot
(R114; log 65). -/
def State.publishSnap (s : State) : State :=
  let all := s.snapBufs
  let mine := all.filter fun d => s.owner d == 2 && s.descSizeU d ≥ 8
  match mine with
  | [] =>
    if all.isEmpty then s
    else
      let s1 := { s with host.snapSkipped := sat 16 (s.host.snapSkipped + 1) }
      s1.sbEvent evSnapSkipped 0 s1.host.snapSkipped
  | a :: r =>
    let d := if s.host.snapLast == some a then r.head?.getD a else a
    let s1 := { s with host.window := s.host.window.writeBytes (s.descBase d) s.snapshot, host.snapLast := some d }
    (s1.setFill d 2080 (s1.descLast d)).handToHost d

/-- Step 5: the status words of every zone, the snapshot and the trend frame. -/
def State.stepFive (s : State) : State :=
  let s1 := (List.range 32).foldl (fun (t : State) z => t.modZone z fun x => { x with snap := t.wordsNow z }) s
  s1.publishSnap.trendFrame

/-! ### Changes that take effect (R33–R35, R125) -/

/-- The period of the root, or the node's own; one that breaks R161 or R338 is a conflict (R361). -/
def State.takePeriod (s : State) : State :=
  let own := s.cf (sysObj 0x010) Fd.period.PERIOD_MS
  match s.fb.rootPeriod with
  | none => { s with per.ms := own, fb.conflict := false }
  | some want =>
    if want == s.per.ms then { s with fb.conflict := false }
    else if Fd.period.PERIOD_MS.accepts want && !s.periodBad want then { s with per.ms := want, fb.conflict := false }
    else if s.fb.conflict then s
    else State.raise { s with fb.conflict := true } prJN evPeriodConflict 0 want

/-- Models identified for another step are reset (R219). -/
def State.stepChange (s : State) (old : Nat) : State :=
  if s.hMs == old then s
  else (List.range 32).foldl (fun (t : State) z =>
    if (t.mdl z).hMs == t.hMs then t
    else (t.modMdl z fun m => { m with acc := {}, due := none }).resetModel prPE 5 z 1 0) s

/-- Model blocks that were written take effect and are judged (R225, R227), before the changes of this Changeover that can reset them
(R219, R226). -/
def State.takeBlocks (s : State) : State :=
  let due := s.pr.blocks.filter fun b => b.2.2 ≤ s.per.count
  due.foldl (fun (t : State) b => (t.modMdl b.1 fun m => modelOf m b.2.1).qualify prPE b.1)
    { s with pr.blocks := s.pr.blocks.filter fun b => s.per.count < b.2.2 }

/-- `CORE_ENABLE` takes effect: cores that it clears go offline, cores that it sets again return (R35, R36). -/
def State.takeEnables (s : State) (was : Nat) : State :=
  (List.range 4).foldl (fun (t : State) c =>
    let a := bitOf was c
    let b := t.coreEnabled c
    if a && !b then
      let t1 := t.modCore c fun x => { x with whole := false }
      if (t.core c).online && t.mn.mode == .mainline then
        ({ t1 with per.coreActive := putBit t1.per.coreActive c false }.coreOffEvent c 0)
      else t1
    else if !a && b && t.mn.mode != .platform then t.modCore c fun x => { x with returned := true, whole := false, offLogged := false }
    else t) s

/-- Mainline is entered: the enabled cores come online at once, without proof (Table 3.6). One that is back from its watchdog's self-test
returns as in any mode: it has still to prove itself for a whole period (R35). -/
def State.coresJoin (s : State) : State :=
  (List.range 4).foldl (fun (t : State) c =>
    if t.coreEnabled c then t.modCore c fun x => { x with offLogged := x.offLogged && !x.online } else t) s

/-- `PE` stops with a mode change, and transfers of what it serves end (R237, R119). -/
def State.peOff (s : State) : State := s.peStop.cancelXfers fun x => x.stream == 0x03 || x.stream == 0x08

/-- A mode accepted for this Changeover (Table 3.6), but for the standby modes. -/
def State.modeStep (s : State) (m : Mode) : State :=
  match m with
  | .platform => (s.setMode .platform).peOff
  | .mainline => (s.setMode .mainline).coresJoin
  | .siding => s.enterSiding 1
  | .depot =>
    let s1 := (s.setMode .depot).peOff.safeOutside
    State.portsFollow { s1 with gd.ctlDue := false, per.undone := [] }
  | _ => s

/-- The mode that this Changeover brings. -/
def State.modeDue (s : State) : Option Mode :=
  ((s.mn.modeNext.filter fun x => x.2 ≤ s.per.count).getLast?).map (·.1)

/-- Routes, addresses and time masters (R34, R355, R359). -/
def State.fabricStep (s : State) : State :=
  let s1 := ({ s with fb.routes := s.fb.shadow }.addrChange).mastersChange
  s1.rediscover.endUnreached

/-- Matrices that were committed become active, and go into their records (R344, R398). -/
def State.matrixStep (s : State) : State :=
  (List.range 3).foldl (fun (t : State) p =>
    let t1 := if (t.port p).tt.commit.any (· ≤ t.per.count) then
        let u := (t.modPort p fun x => { x with tt.commit := x.tt.commit.filter fun c => t.per.count < c }).ttCommit p
        match (u.port p).tt.active with
        | some m => u.postRec 0 { region := 1, record := region1Objs.length + p, data := leBytes 4 (ttRecObj p) ++ leBytes 2 m.length ++ [0#8, 0#8] ++ m }
        | none => u
      else t
    t1.ttEnable p) s

/-- The RTC follows the root's wall time when it differs by more than 2 ms (R362). -/
def State.wallStep (s : State) : State :=
  match s.fb.wall with
  | none => s
  | some w =>
    let want : Int := w + (s.now : Int) + s.fb.offset
    if !s.wallTaken || want < 0 || (want - s.rtcUs).natAbs ≤ 2000 then s
    else { s with rtc.base := want.toNat * 32768 / 1000000 % 2 ^ 48, rtc.at_ := s.now, rtc.valid := true }

/-- A request that is not yet taken names the buffer. -/
def State.named (s : State) (d : Nat) : Bool :=
  s.host.xfers.any (fun x => x.desc == d) || s.host.reqs.any fun r => (s.readReq r).names == some d

/-- Buffers left with the device for a whole period return to the host (R116). -/
def State.returnBufs (s : State) : State :=
  (List.range 64).foldl (fun (t : State) d =>
    if t.host.idle.getD d 0 == 2 && t.host.wdescValid && t.owner d == 2 && t.descUse d == 0 && !t.named d then
      (t.handToHost d).sbEvent evBufferReturned 0 d
    else t) s

/-- A period of a trial image in Platform or Mainline is complete (R74). -/
def State.trialStep (s : State) : State :=
  if s.bankState s.mn.bankRun == 2 then { s with mn.trialPeriods := if s.zonesRun then s.mn.trialPeriods + 1 else 0 } else s

/-- Step 6: configuration, mode, map, routes, matrices. -/
def State.stepSix (s : State) : State :=
  let en := s.cf (sysObj 0x010) Fd.period.CORE_ENABLE
  let h := s.hMs
  let s1 := (s.modelsBoundary.boundaryAges.takeBlocks).applyPending s.per.count
  let s2 := s1.takePeriod.stepChange h
  let s3 := match s2.modeDue with
    | some m => State.modeStep { s2 with mn.modeNext := s2.mn.modeNext.filter fun x => s2.per.count < x.2 } m
    | none => s2
  if s3.mn.mode == .siding then s3
  else
    let s4 := s3.takeEnables en
    let s5 := if s4.zonesRun then s4.takeMap else s4
    s5.fabricStep.matrixStep.wallStep

/-- What ends the period: triggers, CAN counts, buffers, the store log. -/
def State.periodEnd (s : State) : State :=
  (s.returnBufs.seqPeriodEnd.canPeriodEnd).sendAll.lastLog

/-- The end of the Changeover: a restart or standby entry that was accepted for it (R82, R85). -/
def State.coEnd (s : State) (stby : Option Mode) : State :=
  match stby with
  | some m => s.standbyEnter (m == .halt)
  | none => match s.mn.restartAtCo with
    | some (c, co) => if co ≤ s.per.count then { s with mn.restartAtCo := none, mn.restartDue := some c } else s
    | none => s

/-- A standby mode is due. -/
def State.standbyDue (s : State) : Option Mode :=
  match s.modeDue with
  | some .terminus => some .terminus
  | some .halt => some .halt
  | _ => none

/-- CHANGEOVER: the steps of Table 1.9, lasting `us` µs. -/
def execChangeover (us : Nat) (s : State) : Out :=
  if !s.per.running || s.per.inCo || s.mn.phase != .run then .next s
  else
    let s1 := (s.advTo s.tc).solveStop
    let s2 := State.drain { s1 with per.inCo := true }
    let s3 := s2.noteOcc.noteOn.countMissed.trialStep.stepFive.markBlocks
    let stby := s3.standbyDue
    let s4 := s3.stepSix
    if s4.mn.mode == .siding then .next s4.returnBufs
    else
      let d := min 2000 us
      let s5 := { s4.periodEnd with per.coLast := d, per.coMax := max s4.per.coMax d }
      .next ((s5.advTo (s1.now + d)).coEnd stby)

/-! ### Trial images (R74) -/

/-- TRIAL_ACCEPT: 100 periods are complete: the bank becomes `ACTIVE`, the bank that was, `STANDBY`. -/
def execTrialAccept (s : State) : Out :=
  let b := s.mn.bankRun
  if s.mn.phase != .run || s.mn.trialPeriods < 100 || s.bankState b != 2 then .next s
  else
    let s1 := s.setBankBytes fun d =>
      let d1 := if leAt d (1 - b) 1 == 3 then d.set (1 - b) 4#8 else d
      (d1.set b 3#8).set 2 0#8
    .next (State.count ({ s1 with mn.trialPeriods := 0 }.sbEvent evTrialAccepted 0 b) 3)

/-! ### The end of a thermal Siding (R419) -/

/-- When every limit group has been cool for 60 s. -/
def State.coolSince (s : State) : Option Nat :=
  s.th.lims.foldl (fun (a : Option Nat) l => match a, l.coolAt with
    | some x, some y => some (max x y)
    | _, _ => none) (some 0)

/-- SIDING_EXIT: the mode that Siding left is entered again, with a rejoin period. -/
def execSidingExit (s : State) : Out :=
  match s.coolSince with
  | none => .next s
  | some t =>
    if s.mn.phase != .run || s.mn.mode != .siding || s.mn.sidingCause != 4 then .next s
    else
      let s1 := s.advTo (t + 60000000)
      let m := s1.th.sidingFrom
      let s2 := State.setMode { s1 with mn.sidingCause := 0, mn.readyAt := s1.now, per.running := false, per.rejoin := true,
                                        per.emptyAt := none } m
      .next (s2.sbEvent evSidingExit 0 m.code).startEngines

end Sys2Proof.Machine
end

