-- ==== Sys2Proof/Machine/Mailbox.lean ====
section
/-!
DEFINITION. Sys2Proof/Machine/Mailbox.lean: the mailbox requests (Table 5.3). The row of an opcode executes the request at the
head of the order when it carries that opcode and passes Table 4.6; otherwise nothing but the answers to refused requests happens.
-/
namespace Sys2Proof.Machine
open Sys2Proof

/-- `PING` (R127). -/
def execPing (s : State) : Out := .next (s.serve 0x00 cmdPing)

/-- `HELLO` (R109). -/
def execHello (s : State) : Out := .next (s.serve 0x01 cmdHello)

/-- `MODE_SET` (R129). -/
def execModeSet (s : State) : Out := .next (s.serve 0x02 cmdModeSet)

/-- `RESTART_MAIN` (R130). -/
def execRestartMain (s : State) : Out := .next (s.serve 0x03 cmdRestartMain)

/-- `OBJ_GET` (R125). -/
def execObjGet (s : State) : Out := .next (s.serve 0x10 cmdObjGet)

/-- `OBJ_SET` (R125, R110). -/
def execObjSet (s : State) : Out := .next (s.serve 0x11 cmdObjSet)

/-- `OBJ_DEFAULT` (R125). -/
def execObjDefault (s : State) : Out := .next (s.serve 0x12 cmdObjDefault)

/-- `OBJ_LIST` (R131). -/
def execObjList (s : State) : Out := .next (s.serve 0x13 cmdObjList)

/-- `XFER_READ` (R132). -/
def execXferRead (s : State) : Out := .next (s.serve 0x20 (cmdXfer true))

/-- `XFER_WRITE` (R132). -/
def execXferWrite (s : State) : Out := .next (s.serve 0x21 (cmdXfer false))

/-- `CHECKVAL` (R54, R133). -/
def execCheckval (s : State) : Out := .next (s.serve 0x22 cmdCheckval)

/-- `REC_READ` (R134). -/
def execRecRead (s : State) : Out := .next (s.serve 0x30 cmdRecRead)

/-- `REC_WRITE` (R134, R391). -/
def execRecWrite (s : State) : Out := .next (s.serve 0x31 cmdRecWrite)

/-- `REC_STAT` (R134). -/
def execRecStat (s : State) : Out := .next (s.serve 0x32 cmdRecStat)

/-- `REC_UNLOCK` (R135). -/
def execRecUnlock (s : State) : Out := .next (s.serve 0x33 cmdRecUnlock)

/-- `REC_LOCK` (R135). -/
def execRecLock (s : State) : Out := .next (s.serve 0x34 cmdRecLock)

/-- `REC_PASSWORD` (R135, R396). -/
def execRecPassword (s : State) : Out := .next (s.serve 0x35 cmdRecPassword)

/-- `REC_DEFAULT` (R134). -/
def execRecDefault (s : State) : Out := .next (s.serve 0x36 cmdRecDefault)

/-- `FAB_RELAY` (R136). -/
def execFabRelay (s : State) : Out := .next (s.serve 0x40 cmdFabRelay)

/-- `FAB_PING` (R371). -/
def execFabPing (s : State) : Out := .next (s.serve 0x41 cmdFabPing)

/-- `FAB_REDISCOVER` (R375). -/
def execFabRediscover (s : State) : Out := .next (s.serve 0x42 cmdFabRediscover)

/-- `FAB_ROUTE` (R363). -/
def execFabRoute (s : State) : Out := .next (s.serve 0x43 cmdFabRoute)

/-- `CAN_RECOVER` (R137). -/
def execCanRecover (s : State) : Out := .next (s.serve 0x50 cmdCanRecover)

/-- `CAN_CANCEL` (R137, R329). -/
def execCanCancel (s : State) : Out := .next (s.serve 0x51 cmdCanCancel)

/-- `TT_COMMIT` (R137, R343, R344). -/
def execTtCommit (s : State) : Out := .next (s.serve 0x52 cmdTtCommit)

/-- `CAN_STATS_CLEAR` (R345). -/
def execCanStatsClear (s : State) : Out := .next (s.serve 0x53 cmdCanStatsClear)

/-- `ACT_SET` (R138). -/
def execActSet (s : State) : Out := .next (s.serve 0x60 cmdActSet)

/-- `ACT_RELEASE` (R139). -/
def execActRelease (s : State) : Out := .next (s.serve 0x61 cmdActRelease)

/-- `FAN_CLEAR` (R140, R282). -/
def execFanClear (s : State) : Out := .next (s.serve 0x62 cmdFanClear)

/-- `VALVE_PROVE` (R140, R147, R262). -/
def execValveProve (s : State) : Out := .next (s.serve 0x63 cmdValveProve)

/-- `EVT_READ` (R141). -/
def execEvtRead (s : State) : Out := .next (s.serve 0x70 cmdEvtRead)

/-- `EVT_FILTER` (R141). -/
def execEvtFilter (s : State) : Out := .next (s.serve 0x71 cmdEvtFilter)

/-- `TIME_GET` (R127, Table 5.13). -/
def execTimeGet (s : State) : Out := .next (s.serve 0x72 cmdTimeGet)

/-- `TIME_SET` (R141). -/
def execTimeSet (s : State) : Out := .next (s.serve 0x73 cmdTimeSet)

/-- `DEP_REG_READ` (R142). -/
def execDepRegRead (s : State) : Out := .next (s.serve 0xE0 cmdDepRegRead)

/-- `DEP_REG_WRITE` (R142). -/
def execDepRegWrite (s : State) : Out := .next (s.serve 0xE1 cmdDepRegWrite)

/-- `DEP_LOAD` (R143). -/
def execDepLoad (s : State) : Out := .next (s.serve 0xE2 cmdDepLoad)

/-- `DEP_SWITCH` (R143). -/
def execDepSwitch (s : State) : Out := .next (s.serve 0xE3 cmdDepSwitch)

/-- `DEP_KEY1` (R144). -/
def execDepKey1 (s : State) : Out := .next (s.serve 0xE4 cmdDepKey1)

/-- `DEP_KEY0_OFF` (R144). -/
def execDepKey0Off (s : State) : Out := .next (s.serve 0xE5 cmdDepKey0Off)

/-- `DEP_SVC_PW` (R144). -/
def execDepSvcPw (s : State) : Out := .next (s.serve 0xE6 cmdDepSvcPw)

end Sys2Proof.Machine
end

