-- ==== Sys2Proof/Machine/HostRows.lean ====
section
/-!
DEFINITION. Sys2Proof/Machine/HostRows.lean: what the host does over the SPI target (R95–R115), the moments of window transfers
(R118, R119) and of a silent host (R120), and the end of a direct command's duration (R139).
-/
namespace Sys2Proof.Machine
open Sys2Proof

/-! ### Transactions (R95–R100) -/

/-- A `CHECKVAL` that a doorbell of this transaction brings while another is what `SB` executes is answered `BUSY` (R54); `was` is the state
before the transaction. The one that runs is the request at the head of the order (log 8). -/
def State.checkBusy (s was : State) : State :=
  match s.front with
  | none => s
  | some k =>
    let fresh (r : Req) : Bool := match r.origin with | .host n => !bitOf was.host.busy n | _ => false
    if k.hdr.opcode != 0x22 then s
    else (s.host.reqs.drop 1).foldl (fun (t : State) r =>
      let q := t.readReq r
      if fresh r && q.hdr.opcode == 0x22 && t.verdict q == .pass then
        (State.talkOf { t with host.reqs := t.host.reqs.erase r } q).refuse q stBusy 0
      else t) s

/-- A transaction acts while the SPI target answers (R62, R100). -/
def State.hostTx (s : State) (f : State → State) : State := if s.spiAlive then ((f s).settle).checkBusy s else s

/-- A read; one that ends before its address is complete has no effect (R98). -/
def spiReadTx (addr : Option (Fin 16777216)) (n : Nat) (s : State) : State :=
  match addr with
  | none => s
  | some a => spiReadOp a.val n s

/-- A write. -/
def spiWriteTx (addr : Option (Fin 16777216)) (data : List Byte) (s : State) : State :=
  match addr with
  | none => s
  | some a => spiWriteOp a.val data s

/-- `READ` (R95, R97). -/
def execSpiRead (addr : Option (Fin 16777216)) (n : Nat) (s : State) : Out := .next (s.hostTx (spiReadTx addr n))

/-- `QREAD` differs in its lanes alone. -/
def execSpiQread (addr : Option (Fin 16777216)) (n : Nat) (s : State) : Out := .next (s.hostTx (spiReadTx addr n))

/-- `WRITE` (R99). -/
def execSpiWrite (addr : Option (Fin 16777216)) (data : List Byte) (s : State) : Out := .next (s.hostTx (spiWriteTx addr data))

/-- `QWRITE` differs in its lanes alone. -/
def execSpiQwrite (addr : Option (Fin 16777216)) (data : List Byte) (s : State) : Out := .next (s.hostTx (spiWriteTx addr data))

/-- The instruction bytes of Table 4.1. -/
def spiInstructions : List Nat := [0x1A, 0x1E, 0x2A, 0x2E]

/-- A transaction with another instruction byte is ignored and reported (R96, R461), also when it ends before three address bytes have
passed: it has no address to complete (log 65). -/
def execSpiUnknownInstruction (code : Byte) (s : State) : Out :=
  .next (s.hostTx fun s => if spiInstructions.contains code.toNat then s else errReport [(0x04, 0)] s)

/-- A transaction cut by the 10 ms limit: what it carried takes effect, and cause 0x03 follows at the first byte that it did
not carry, unless an earlier byte was at fault (R98, R461). What a read captures is the state before it, `ERR_INFO` among it (R99). -/
def cutTx (next : Nat) (f : State → State) (s : State) : State :=
  let s1 := { f { s with host.errCause := 0 } with host.lastRead := (f s).host.lastRead }
  if s1.host.errCause == 0 then errReport [(0x03, next)] s1 else errFlag 0x03 s1

/-- `HOST_CS_N` low for more than 10 ms. -/
def execSpiCsTimeout (part : SpiPart) (s : State) : Out :=
  .next (s.hostTx fun s =>
    match part with
    | .noAddress => errReport [(0x03, 0)] s
    | .read a n => cutTx (a.val + n) (spiReadOp a.val n) s
    | .write a data => cutTx (a.val + data.length) (spiWriteOp a.val data) s)

/-- Bytes written into a host-to-device slot from offset `off` on (R105). -/
def execSlotWrite (slot : Fin 8) (off : Fin 256) (data : List Byte) (s : State) : Out :=
  .next (s.hostTx (spiWriteOp (0x1000 + 256 * slot.val + off.val) data))

/-! ### Registers (Table 4.3) -/

/-- `H2D_DB` (R105, R106). -/
def execH2dDb (v : Word) (s : State) : Out := .next (s.hostTx (wrH2dDb v.toNat))

/-- `STATUS` (R13). -/
def execStatusW1c (v : Word) (s : State) : Out := .next (s.hostTx (wrStatus v.toNat))

/-- The doorbell status register (R102). -/
def execDbStatusW1c (v : Word) (s : State) : Out := .next (s.hostTx (wrDb v.toNat))

/-- `IRQ_MASK` (R102). -/
def execIrqMaskWrite (v : Word) (s : State) : Out := .next (s.hostTx (wrIrqMask v.toNat))

/-- `HANDOVER_LO` or `HANDOVER_HI` (R113). -/
def execHandoverW1c (hi : Bool) (v : Word) (s : State) : Out := .next (s.hostTx (wrHandover hi v.toNat))

/-- `WDESC_BASE` and `WDESC_VALID` (R111). -/
def execWdescWrite (v : Word) (s : State) : Out := .next (s.hostTx (wrWdesc v.toNat))

/-- A register write from the first byte of register `reg` on; a cut one leaves the register unchanged (R99). -/
def execRegWrite (reg : Fin 16) (data : List Byte) (s : State) : Out := .next (s.hostTx (spiWriteOp (4 * reg.val) data))

/-! ### Descriptors (R115) -/

/-- A whole descriptor word written by the host; without a table the address is a window byte that the host may not write. -/
def hostDesc (d k v : Nat) (s : State) : State :=
  if !s.host.wdescValid then errReport [(0x05, 0x10000 + s.descAt d + 4 * k)] s
  else match descWrite d k v s with
  | some t => t
  | none => descRefuse d k s

/-- Word 0 of a descriptor. -/
def descWord0 (owner sizeU baseU : Nat) : Nat := owner * 2 ^ 30 + sizeU * 2 ^ 16 + baseU

/-- `OWNER` `HOST` is written over a `FREE` descriptor. -/
def execDescClaim (d : Fin 64) (sizeU : Fin 256) (baseU : Fin 1024) (s : State) : Out :=
  .next (s.hostTx (hostDesc d.val 0 (descWord0 1 sizeU.val baseU.val)))

/-- A buffer of the host's is resized or moved. -/
def execDescResize (d : Fin 64) (sizeU : Fin 256) (baseU : Fin 1024) (s : State) : Out :=
  .next (s.hostTx (hostDesc d.val 0 (descWord0 1 sizeU.val baseU.val)))

/-- A buffer of the host's is handed to the device, its place unchanged. -/
def execDescHandToDevice (d : Fin 64) (s : State) : Out :=
  .next (s.hostTx fun s => hostDesc d.val 0 (descWord0 2 (s.descSizeU d.val) (s.descBaseU d.val)) s)

/-- A buffer of the host's is released. -/
def execDescRelease (d : Fin 64) (s : State) : Out := .next (s.hostTx (hostDesc d.val 0 0))

/-- Word 1 of a descriptor. -/
def execDescWord1Write (d : Fin 64) (v : Word) (s : State) : Out := .next (s.hostTx (hostDesc d.val 1 v.toNat))

/-! ### Moments -/

/-- The host has not talked for `LINK_TMO_S` (R120). -/
def execLinkLost (s : State) : Out :=
  let tmo := s.cf (sysObj 0x040) Fd.hostlink.LINK_TMO_S
  if !s.mn.ready || tmo == 0 || s.host.linkLost then .next s
  else
    let s1 := s.advTo (s.host.talkAt + tmo * 1000000)
    let n := sat 16 (s1.host.linkLosses + 1)
    .next (State.sbEvent { s1 with host.linkLost := true, host.linkLosses := n } evLinkLost 0 n)

/-- The transfer through a descriptor. -/
def State.xferOf (s : State) (d : Nat) : Option Xfer := s.host.xfers.find? fun x => x.desc == d

/-- The device is done with a chunk (R118). -/
def execXferChunkDone (d : Fin 64) (s : State) : Out :=
  match s.xferOf d.val with
  | none => .next s
  | some x => .next (if x.waitsHost then s else if x.toHost then s.sendChunk x else s.takeChunk x)

/-- The host has held a chunk longer than `XFER_TMO_MS` (R119). -/
def execXferTimeout (d : Fin 64) (s : State) : Out :=
  match s.xferOf d.val with
  | none => .next s
  | some x =>
    if !x.waitsHost then .next s
    else .next ((s.advTo (x.since + s.cf (sysObj 0x040) Fd.hostlink.XFER_TMO_MS * 1000)).endXfer d.val stTimeout)

/-- `DURATION` of a direct command runs out (R139). -/
def execDirectDurationExpiry (st : Stage) (s : State) : Out :=
  match s.act.direct.find? fun d => d.stage == st with
  | none => .next s
  | some d => match d.endAt with
    | none => .next s
    | some t => .next ((s.advTo t).endDirect st 1)

end Sys2Proof.Machine
end

