-- ==== Sys2Proof/Machine/Dispatch.lean ====
section
/-!
DEFINITION. Sys2Proof/Machine/Dispatch.lean: one arm per command.
-/
namespace Sys2Proof.Machine
open Sys2Proof

def exec (i : Instr) (s : State) : Host.Outcome State Fault Refusal :=
  match i with
  | .vsupValid strapHigh => Sys2Proof.Machine.execVsupValid strapHigh s
  | .critComparatorArm => Sys2Proof.Machine.execCritComparatorArm s
  | .drvPllLock => Sys2Proof.Machine.execDrvPllLock s
  | .guardRelease => Sys2Proof.Machine.execGuardRelease s
  | .bootRomStart => Sys2Proof.Machine.execBootRomStart s
  | .guardReady => Sys2Proof.Machine.execGuardReady s
  | .imageCheckDone ded => Sys2Proof.Machine.execImageCheckDone ded s
  | .imagesLoaded ded => Sys2Proof.Machine.execImagesLoaded ded s
  | .selftestDone badBlocks => Sys2Proof.Machine.execSelftestDone badBlocks s
  | .coreSelftestDone core pass => Sys2Proof.Machine.execCoreSelftestDone core pass s
  | .recall us => Sys2Proof.Machine.execRecall us s
  | .ready => Sys2Proof.Machine.execReady s
  | .vsupLost => Sys2Proof.Machine.execVsupLost s
  | .vdrvLost => Sys2Proof.Machine.execVdrvLost s
  | .vdrvBack => Sys2Proof.Machine.execVdrvBack s
  | .vdrvOv mv => Sys2Proof.Machine.execVdrvOv mv s
  | .vdrvOvRelease => Sys2Proof.Machine.execVdrvOvRelease s
  | .vioLost => Sys2Proof.Machine.execVioLost s
  | .vioBack => Sys2Proof.Machine.execVioBack s
  | .vbkpLost => Sys2Proof.Machine.execVbkpLost s
  | .vbkpBack => Sys2Proof.Machine.execVbkpBack s
  | .rstNAssert => Sys2Proof.Machine.execRstNAssert s
  | .rstNRelease strapHigh => Sys2Proof.Machine.execRstNRelease strapHigh s
  | .clockLost d => Sys2Proof.Machine.execClockLost d s
  | .clockBack d => Sys2Proof.Machine.execClockBack d s
  | .memDed memory => Sys2Proof.Machine.execMemDed memory s
  | .guardLockstepMismatch => Sys2Proof.Machine.execGuardLockstepMismatch s
  | .guardReset => Sys2Proof.Machine.execGuardReset s
  | .mainRestart => Sys2Proof.Machine.execMainRestart s
  | .trialAccept => Sys2Proof.Machine.execTrialAccept s
  | .periodStart => Sys2Proof.Machine.execPeriodStart s
  | .planSolveDone us => Sys2Proof.Machine.execPlanSolveDone us s
  | .zoneInstant hung => Sys2Proof.Machine.execZoneInstant hung s
  | .pntAbsorb core => Sys2Proof.Machine.execPntAbsorb core s
  | .changeover us => Sys2Proof.Machine.execChangeover us s
  | .coreWatchdogExpiry core => Sys2Proof.Machine.execCoreWatchdogExpiry core s
  | .noZoneCoreTimeout => Sys2Proof.Machine.execNoZoneCoreTimeout s
  | .deCmdExecute mv => Sys2Proof.Machine.execDeCmdExecute mv s
  | .evtTake => Sys2Proof.Machine.execEvtTake s
  | .evtHeldSend producer => Sys2Proof.Machine.execEvtHeldSend producer s
  | .deResultForward => Sys2Proof.Machine.execDeResultForward s
  | .saveArm => Sys2Proof.Machine.execSaveArm s
  | .saveNotArmed mv => Sys2Proof.Machine.execSaveNotArmed mv s
  | .powerFailSave us => Sys2Proof.Machine.execPowerFailSave us s
  | .vsupRecovered => Sys2Proof.Machine.execVsupRecovered s
  | .wakeNLow => Sys2Proof.Machine.execWakeNLow s
  | .rtcAlarm => Sys2Proof.Machine.execRtcAlarm s
  | .wakePattern port dom1 rcs dom2 => Sys2Proof.Machine.execWakePattern port dom1 rcs dom2 s
  | .selectiveWakeFrame port r => Sys2Proof.Machine.execSelectiveWakeFrame port r s
  | .spiRead addr n => Sys2Proof.Machine.execSpiRead addr n s
  | .spiQread addr n => Sys2Proof.Machine.execSpiQread addr n s
  | .spiWrite addr data => Sys2Proof.Machine.execSpiWrite addr data s
  | .spiQwrite addr data => Sys2Proof.Machine.execSpiQwrite addr data s
  | .spiUnknownInstruction code => Sys2Proof.Machine.execSpiUnknownInstruction code s
  | .spiCsTimeout part => Sys2Proof.Machine.execSpiCsTimeout part s
  | .slotWrite slot off data => Sys2Proof.Machine.execSlotWrite slot off data s
  | .h2dDb v => Sys2Proof.Machine.execH2dDb v s
  | .statusW1c v => Sys2Proof.Machine.execStatusW1c v s
  | .dbStatusW1c v => Sys2Proof.Machine.execDbStatusW1c v s
  | .irqMaskWrite v => Sys2Proof.Machine.execIrqMaskWrite v s
  | .handoverW1c hi v => Sys2Proof.Machine.execHandoverW1c hi v s
  | .wdescWrite v => Sys2Proof.Machine.execWdescWrite v s
  | .descClaim d sizeU baseU => Sys2Proof.Machine.execDescClaim d sizeU baseU s
  | .descResize d sizeU baseU => Sys2Proof.Machine.execDescResize d sizeU baseU s
  | .descHandToDevice d => Sys2Proof.Machine.execDescHandToDevice d s
  | .descRelease d => Sys2Proof.Machine.execDescRelease d s
  | .descWord1Write d v => Sys2Proof.Machine.execDescWord1Write d v s
  | .regWrite reg data => Sys2Proof.Machine.execRegWrite reg data s
  | .linkLost => Sys2Proof.Machine.execLinkLost s
  | .xferChunkDone d => Sys2Proof.Machine.execXferChunkDone d s
  | .xferTimeout d => Sys2Proof.Machine.execXferTimeout d s
  | .ping => Sys2Proof.Machine.execPing s
  | .hello => Sys2Proof.Machine.execHello s
  | .modeSet => Sys2Proof.Machine.execModeSet s
  | .restartMain => Sys2Proof.Machine.execRestartMain s
  | .objGet => Sys2Proof.Machine.execObjGet s
  | .objSet => Sys2Proof.Machine.execObjSet s
  | .objDefault => Sys2Proof.Machine.execObjDefault s
  | .objList => Sys2Proof.Machine.execObjList s
  | .xferRead => Sys2Proof.Machine.execXferRead s
  | .xferWrite => Sys2Proof.Machine.execXferWrite s
  | .checkval => Sys2Proof.Machine.execCheckval s
  | .recRead => Sys2Proof.Machine.execRecRead s
  | .recWrite => Sys2Proof.Machine.execRecWrite s
  | .recStat => Sys2Proof.Machine.execRecStat s
  | .recUnlock => Sys2Proof.Machine.execRecUnlock s
  | .recLock => Sys2Proof.Machine.execRecLock s
  | .recPassword => Sys2Proof.Machine.execRecPassword s
  | .recDefault => Sys2Proof.Machine.execRecDefault s
  | .fabRelay => Sys2Proof.Machine.execFabRelay s
  | .fabPing => Sys2Proof.Machine.execFabPing s
  | .fabRediscover => Sys2Proof.Machine.execFabRediscover s
  | .fabRoute => Sys2Proof.Machine.execFabRoute s
  | .canRecover => Sys2Proof.Machine.execCanRecover s
  | .canCancel => Sys2Proof.Machine.execCanCancel s
  | .ttCommit => Sys2Proof.Machine.execTtCommit s
  | .canStatsClear => Sys2Proof.Machine.execCanStatsClear s
  | .actSet => Sys2Proof.Machine.execActSet s
  | .actRelease => Sys2Proof.Machine.execActRelease s
  | .fanClear => Sys2Proof.Machine.execFanClear s
  | .valveProve => Sys2Proof.Machine.execValveProve s
  | .evtRead => Sys2Proof.Machine.execEvtRead s
  | .evtFilter => Sys2Proof.Machine.execEvtFilter s
  | .timeGet => Sys2Proof.Machine.execTimeGet s
  | .timeSet => Sys2Proof.Machine.execTimeSet s
  | .depRegRead => Sys2Proof.Machine.execDepRegRead s
  | .depRegWrite => Sys2Proof.Machine.execDepRegWrite s
  | .depLoad => Sys2Proof.Machine.execDepLoad s
  | .depSwitch => Sys2Proof.Machine.execDepSwitch s
  | .depKey1 => Sys2Proof.Machine.execDepKey1 s
  | .depKey0Off => Sys2Proof.Machine.execDepKey0Off s
  | .depSvcPw => Sys2Proof.Machine.execDepSvcPw s
  | .crcStart => Sys2Proof.Machine.execCrcStart s
  | .crcData8 b => Sys2Proof.Machine.execCrcData8 b s
  | .crcData32 v => Sys2Proof.Machine.execCrcData32 v s
  | .directDurationExpiry st => Sys2Proof.Machine.execDirectDurationExpiry st s
  | .overrideExpiry z => Sys2Proof.Machine.execOverrideExpiry z s
  | .seqStepStart sd => Sys2Proof.Machine.execSeqStepStart sd s
  | .sdOutput sd code => Sys2Proof.Machine.execSdOutput sd code s
  | .sdCalibration sd offsetOk gainOk => Sys2Proof.Machine.execSdCalibration sd offsetOk gainOk s
  | .seqTrigger sd => Sys2Proof.Machine.execSeqTrigger sd s
  | .capConversion ratio => Sys2Proof.Machine.execCapConversion ratio s
  | .i2cPoll bus r => Sys2Proof.Machine.execI2cPoll bus r s
  | .i2cPollAbort bus sda => Sys2Proof.Machine.execI2cPollAbort bus sda s
  | .diChange input r => Sys2Proof.Machine.execDiChange input r s
  | .sampleProcess k => Sys2Proof.Machine.execSampleProcess k s
  | .pointStale p => Sys2Proof.Machine.execPointStale p s
  | .sarTrigger pair point r => Sys2Proof.Machine.execSarTrigger pair point r s
  | .sarBurstDone pair sum => Sys2Proof.Machine.execSarBurstDone pair sum s
  | .doorWindowExpiry z => Sys2Proof.Machine.execDoorWindowExpiry z s
  | .vacantHoldExpiry z => Sys2Proof.Machine.execVacantHoldExpiry z s
  | .loopPvFail k => Sys2Proof.Machine.execLoopPvFail k s
  | .currentLoopStep ch mv => Sys2Proof.Machine.execCurrentLoopStep ch mv s
  | .pullinEnd ch => Sys2Proof.Machine.execPullinEnd ch s
  | .peakEnd ch => Sys2Proof.Machine.execPeakEnd ch s
  | .decayEnd ch => Sys2Proof.Machine.execDecayEnd ch s
  | .deferredStrokeStart g mv => Sys2Proof.Machine.execDeferredStrokeStart g mv s
  | .regErr ch back => Sys2Proof.Machine.execRegErr ch back s
  | .proofReport => Sys2Proof.Machine.execProofReport s
  | .lsOcp ch => Sys2Proof.Machine.execLsOcp ch s
  | .openLoad ch => Sys2Proof.Machine.execOpenLoad ch s
  | .openLoadRetry ch mv => Sys2Proof.Machine.execOpenLoadRetry ch mv s
  | .hsOcp g => Sys2Proof.Machine.execHsOcp g s
  | .hsOcpRestart g mv => Sys2Proof.Machine.execHsOcpRestart g mv s
  | .clampLimit ch mw => Sys2Proof.Machine.execClampLimit ch mw s
  | .fire => Sys2Proof.Machine.execFire s
  | .abort => Sys2Proof.Machine.execAbort s
  | .pulseEnd => Sys2Proof.Machine.execPulseEnd s
  | .fanStart => Sys2Proof.Machine.execFanStart s
  | .kickEnd n => Sys2Proof.Machine.execKickEnd n s
  | .fanSpeedSample n => Sys2Proof.Machine.execFanSpeedSample n s
  | .lfPeriod n => Sys2Proof.Machine.execLfPeriod n s
  | .fanLockedRotor n => Sys2Proof.Machine.execFanLockedRotor n s
  | .fanNoEdge n => Sys2Proof.Machine.execFanNoEdge n s
  | .fanSpinupEnd n => Sys2Proof.Machine.execFanSpinupEnd n s
  | .fanRetry n => Sys2Proof.Machine.execFanRetry n s
  | .fanBackoffReset n => Sys2Proof.Machine.execFanBackoffReset n s
  | .fanFault n => Sys2Proof.Machine.execFanFault n s
  | .fanTachJudge n => Sys2Proof.Machine.execFanTachJudge n s
  | .fanOpenLoadEnd n => Sys2Proof.Machine.execFanOpenLoadEnd n s
  | .fanOcp n => Sys2Proof.Machine.execFanOcp n s
  | .fanOcpRestart n => Sys2Proof.Machine.execFanOcpRestart n s
  | .fanCtrlFail n => Sys2Proof.Machine.execFanCtrlFail n s
  | .fanForceEnd n => Sys2Proof.Machine.execFanForceEnd n s
  | .critTrip => Sys2Proof.Machine.execCritTrip s
  | .critClear => Sys2Proof.Machine.execCritClear s
  | .aoSlewStep n mv => Sys2Proof.Machine.execAoSlewStep n mv s
  | .aoFault n mv => Sys2Proof.Machine.execAoFault n mv s
  | .aoFaultClear n mv => Sys2Proof.Machine.execAoFaultClear n mv s
  | .keyScan raw => Sys2Proof.Machine.execKeyScan raw s
  | .keyStuck k => Sys2Proof.Machine.execKeyStuck k s
  | .panelAction => Sys2Proof.Machine.execPanelAction s
  | .encTransition e l us => Sys2Proof.Machine.execEncTransition e l us s
  | .encVelocity e => Sys2Proof.Machine.execEncVelocity e s
  | .encSteps e => Sys2Proof.Machine.execEncSteps e s
  | .encoderAction => Sys2Proof.Machine.execEncoderAction s
  | .canRxFrame port f ago ramErr => Sys2Proof.Machine.execCanRxFrame port f ago ramErr s
  | .canTxStart port ramErr => Sys2Proof.Machine.execCanTxStart port ramErr s
  | .canTxDone port r => Sys2Proof.Machine.execCanTxDone port r s
  | .canBusOff port => Sys2Proof.Machine.execCanBusOff port s
  | .canRecovered port => Sys2Proof.Machine.execCanRecovered port s
  | .canTxdTimeout port => Sys2Proof.Machine.execCanTxdTimeout port s
  | .segmentAloneSend a => Sys2Proof.Machine.execSegmentAloneSend a s
  | .ttCycleStart a => Sys2Proof.Machine.execTtCycleStart a s
  | .ttRefMiss port => Sys2Proof.Machine.execTtRefMiss port s
  | .ttWindowStart port ramErr => Sys2Proof.Machine.execTtWindowStart port ramErr s
  | .send port => Sys2Proof.Machine.execSend port s
  | .rawAbort port => Sys2Proof.Machine.execRawAbort port s
  | .pop port => Sys2Proof.Machine.execPop port s
  | .fabiTake port => Sys2Proof.Machine.execFabiTake port s
  | .claimRepeat => Sys2Proof.Machine.execClaimRepeat s
  | .addrAssign => Sys2Proof.Machine.execAddrAssign s
  | .heartbeatSend => Sys2Proof.Machine.execHeartbeatSend s
  | .nbrLost port node => Sys2Proof.Machine.execNbrLost port node s
  | .rootLost => Sys2Proof.Machine.execRootLost s
  | .routeAdvSend port => Sys2Proof.Machine.execRouteAdvSend port s
  | .routeWithdraw index => Sys2Proof.Machine.execRouteWithdraw index s
  | .relayRetry node seqn => Sys2Proof.Machine.execRelayRetry node seqn s
  | .relayTimeout node seqn => Sys2Proof.Machine.execRelayTimeout node seqn s
  | .bsSubSend => Sys2Proof.Machine.execBsSubSend s
  | .subscriptionLapse node => Sys2Proof.Machine.execSubscriptionLapse node s
  | .boundarySend => Sys2Proof.Machine.execBoundarySend s
  | .refEventSend port => Sys2Proof.Machine.execRefEventSend port s
  | .recEntryTake => Sys2Proof.Machine.execRecEntryTake s
  | .recCopyDone => Sys2Proof.Machine.execRecCopyDone s
  | .counterHour main => Sys2Proof.Machine.execCounterHour main s
  | .hbToggle => Sys2Proof.Machine.execHbToggle s
  | .hbExpiry => Sys2Proof.Machine.execHbExpiry s
  | .guardCfgRead => Sys2Proof.Machine.execGuardCfgRead s
  | .guardSample z uv t0 t8 => Sys2Proof.Machine.execGuardSample z uv t0 t8 s
  | .guardTempReport z => Sys2Proof.Machine.execGuardTempReport z s
  | .dieSensorSample n r => Sys2Proof.Machine.execDieSensorSample n r s
  | .dieSensorTimeout n => Sys2Proof.Machine.execDieSensorTimeout n s
  | .throttleEval g => Sys2Proof.Machine.execThrottleEval g s
  | .thermalEstimate clampMw aoMw => Sys2Proof.Machine.execThermalEstimate clampMw aoMw s
  | .thermalSiding g => Sys2Proof.Machine.execThermalSiding g s
  | .sidingExit => Sys2Proof.Machine.execSidingExit s
  | .sidingHeartbeat => Sys2Proof.Machine.execSidingHeartbeat s
  | .bufferStop n => Sys2Proof.Machine.execBufferStop n s
  | .tachEdge n => Sys2Proof.Machine.execTachEdge n s
  | .canRxError port lec inc8 => Sys2Proof.Machine.execCanRxError port lec inc8 s
  | .busIntegration port => Sys2Proof.Machine.execBusIntegration port s
  | .partialTransactionDiscard src seqn => Sys2Proof.Machine.execPartialTransactionDiscard src seqn s
  | .proveStrokeReturn ch => Sys2Proof.Machine.execProveStrokeReturn ch s
  | .proveDeferTimeout ch => Sys2Proof.Machine.execProveDeferTimeout ch s

end Sys2Proof.Machine
end

