-- ==== Sys2Proof/Machine/Pins.lean ====
section
/-!
DEFINITION. Sys2Proof/Machine/Pins.lean: what the balls do in a state of the machine (R435, R438, Table 16.4).
-/
namespace Sys2Proof.Machine
open Sys2Proof

/-- The balls of Table 16.4, row by row. `inputs` are the field and panel inputs, `RST_N`, the straps and `TEST_EN`; `xtal` is `XIN`
and `XOUT`; `vbkp` is `WAKE_N`, `XT32IN` and `XT32OUT`. -/
inductive Ball where
  | ai (n : Fin 48)
  | ci
  | vch (n : Fin 24)
  | vhs (g : Fin 4)
  | fan (n : Fin 12)
  | ao (n : Fin 16)
  | can (p : Fin 3)
  | hostIo
  | svcTx
  | hostIrqN
  | kso (o : Fin 8)
  | sns
  | sysShdnN
  | inputs
  | xtal
  | vbkp
  deriving DecidableEq, Repr

/-- What a ball does: the entries of Table 16.4. `bias` carries Guard's bias alone; `used` is under the control of its unit: configured,
commanded, scanned, polled or driven in reads; `offBus` is powered without being on the bus; `pulled` and `noPull` tell an input's pull. -/
inductive BallState where
  | highZ | off | disabled | unpowered | released | noPull | inactive
  | offBus | lowPower | low | bias | used | pulled | oscillating | active
  deriving DecidableEq, Repr

/-- The front end, the sensor buses and the panel work: Platform, Mainline and Depot. -/
def State.fieldMode (s : State) : Bool :=
  s.vsupOk && (s.mn.mode == .platform || s.mn.mode == .mainline || s.mn.mode == .depot)

/-- A guard input carries bias while `VSUP` is valid: an enabled guard zone names it with a bias, as Guard has applied it since it first
became ready (R410), or `CTSEL` selects `AI0`, whatever the configuration holds (R287, R411). -/
def State.aiBias (s : State) (i : Nat) : Bool :=
  s.vsupOk && ((i == 0 && s.st.ctsel) || s.gd.biasOn && s.gd.zones.any fun g =>
    g.enabled && g.cf Fd.gzConf.G_INPUT == i && g.cf Fd.gzConf.G_BIAS != 0)

/-- The gang that drives a valve channel switches its stage. -/
def State.vchOn (s : State) (ch : Nat) : Bool :=
  s.powered && (s.gangBase ch).any fun b => (s.vlv b).st != .off && (s.vlv b).st != .defer

/-- A fan's stage is on, by `DE` or by its override line. -/
def State.fanBall (s : State) (n : Nat) : Bool := s.powered && s.fanOn n

/-- A scan output is pulled low for `SETTLE_US` when its turn in the scan under way has come, and high-impedance otherwise; outputs beyond
`N_KSO` always are (R297, R298). -/
def State.ksoLow (s : State) (o : Nat) : Bool :=
  let settle := s.pnCf Fd.pnConf.SETTLE_US
  s.panelOn && s.pnCf Fd.pnConf.ENABLE == 1 && o < s.pnCf Fd.pnConf.N_KSO &&
    s.pn.scanAt.any fun t => let from_ := t + o * (settle + 2); decide (from_ ≤ s.now) && decide (s.now < from_ + settle)

/-- The state of a ball (Table 16.4). -/
def State.ball (s : State) : Ball → BallState
  | .ai n => if s.fieldMode then .used else if n.val < 8 && s.aiBias n.val then .bias else .highZ
  | .ci => if s.fieldMode then .used else .highZ
  | .vch n => if s.vchOn n.val then .used else .off
  | .vhs g => if s.hsOn g.val then .used else .off
  | .fan n => if s.fanBall n.val then .used else .off
  | .ao n => if s.vsupOk && (s.ao n.val).enabled then .used else .disabled
  | .can p => match (s.port p.val).st with
    | .off => if s.vsupOk && s.mn.mode == .shunting then .offBus else .unpowered
    | .lowPower => .lowPower
    | _ => .used
  | .hostIo => if s.spiAlive then .used else .highZ
  | .svcTx => if s.spiAlive then .used else .highZ
  | .hostIrqN => if s.irqLow then .low else .released
  | .kso o => if s.ksoLow o.val then .low else .highZ
  | .sns => if s.fieldMode && s.seqRuns then .used else .released
  | .sysShdnN => if s.shdnLow then .low else .released
  | .inputs => if s.vsupOk then .pulled else .noPull
  | .xtal => if s.vsupOk then .oscillating else .off
  | .vbkp => if s.pw.vsup || s.pw.vbkp then .active else .inactive

end Sys2Proof.Machine
end

