-- ==== Sys2Proof/Safety.lean ====
section
/-!
DEFINITION. Sys2Proof/Safety.lean: the terms in which claims about the block are stated: what it means that a command completes,
which parts the state falls into and that a command leaves all but some of them unchanged, that every addressed memory is in its
canonical form, that every table has its length, that an event was logged or raised, that the power stages are off, and a safe run.
-/
namespace Sys2Proof
open Machine

/-! ### Completion -/

/-- The command completes with a next state of which `P` holds. -/
def Completes (c : Instr) (s : State) (P : State → Prop) : Prop := ∃ t, exec c s = .next t ∧ P t

/-- The command starts the part with `TEST_EN` sampled high, the state that the manual does not describe (R441): the supply comes
without the standby latch, or a wake in standby samples the pins while `VSUP` is valid. -/
def StartsInTest (c : Instr) (s : State) : Prop :=
  (∃ l, c = .vsupValid l ∧ s.pw.vsup = false ∧ s.pw.latch = false ∧ strapAt l 10 = true) ∨
  ((c = .wakeNLow ∨ c = .rtcAlarm ∨ (∃ p a b d, c = .wakePattern p a b d) ∨ ∃ p r, c = .selectiveWakeFrame p r) ∧
    s.pw.latch = true ∧ s.pw.vsup = true ∧ strapAt s.st.pins 10 = true)

/-- A safe step: the block neither faults nor refuses. -/
def SafeStep (s : State) : Prop := ∃ t, step s = .next t

/-- A safe run: `k` steps, none of which stops the block. -/
def SafeRun : Nat → State → Prop
  | 0, _ => True
  | k + 1, s => ∃ t, step s = .next t ∧ SafeRun k t

/-! ### The parts of the state -/

/-- The parts of the state that frames name: each field of `State` alone, but for the host link (its event log and doorbells, its
addressed buffers, the rest), the record store (its cells, the rest), the main domain (its mode, the rest), thermal management
(the Buffer Stop latch, the rest), and `Q-EVT` with its producers and the queue statistics, which are one part. -/
inductive Part where
  | now | supply | rtc | mode | main | per | events | log | link | buffers | crc | cells | recs | band | sense | zones | act
  | predict | panel | cans | fabric | guard | thermal | bufStop | straps | cfg | cfgPend | flash | pending | free
  deriving DecidableEq, Repr

/-- A part has the same value in both states. -/
def Part.same (s t : State) : Part → Prop
  | .now => t.now = s.now
  | .supply => t.pw = s.pw
  | .rtc => t.rtc = s.rtc
  | .mode => t.mn.mode = s.mn.mode ∧ t.mn.lastMode = s.mn.lastMode
  | .main => { t.mn with mode := .shunting, lastMode := .shunting } = { s.mn with mode := .shunting, lastMode := .shunting }
  | .per => t.per = s.per
  | .events => t.qEvt = s.qEvt ∧ t.prods = s.prods ∧ t.qst = s.qst
  | .log => t.host.log = s.host.log ∧ t.host.seqno = s.host.seqno ∧ t.host.db = s.host.db
  | .link => { t.host with log := [], seqno := 0, db := 0, h2d := [], d2h := [], window := [] } =
      { s.host with log := [], seqno := 0, db := 0, h2d := [], d2h := [], window := [] }
  | .buffers => t.host.h2d = s.host.h2d ∧ t.host.d2h = s.host.d2h ∧ t.host.window = s.host.window
  | .crc => t.crc = s.crc
  | .cells => t.rs.cells = s.rs.cells
  | .recs => { t.rs with cells := [] } = { s.rs with cells := [] }
  | .band => t.band = s.band
  | .sense => t.se = s.se
  | .zones => t.zs = s.zs
  | .act => t.act = s.act
  | .predict => t.pr = s.pr
  | .panel => t.pn = s.pn
  | .cans => t.cans = s.cans
  | .fabric => t.fb = s.fb
  | .guard => t.gd = s.gd
  | .thermal => { t.th with bufStop := none } = { s.th with bufStop := none }
  | .bufStop => t.th.bufStop = s.th.bufStop
  | .straps => t.st = s.st
  | .cfg => t.cfg = s.cfg
  | .cfgPend => t.cfgPend = s.cfgPend
  | .flash => t.flashA = s.flashA ∧ t.flashB = s.flashB
  | .pending => t.pending = s.pending
  | .free => t.freeCtr = s.freeCtr

/-- Every part outside `W` is unchanged from `s` to `t`. -/
structure SameOutside (W : List Part) (s t : State) : Prop where
  /-- A part that is not listed has the same value in both states. -/
  same : ∀ p : Part, p ∉ W → p.same s t

/-- The frame of a command: when it answers a next state, that differs from the state before in the parts `W` alone. -/
def Frame (W : List Part) (c : Instr) : Prop := ∀ s t : State, exec c s = .next t → SameOutside W s t

/-- The parts that a command may change: its frame is that it leaves every other part as it is. A row of the host or of the mailbox
lists the parts that answering the requests at the head of the order may change as well. -/
def writesOf : Instr → List Part
  | .tachEdge .. => [.act]
  | .pop .. | .busIntegration .. => [.cans]
  | .crcStart .. | .crcData8 .. | .crcData32 .. => [.crc]
  | .guardRelease .. | .guardLockstepMismatch .. => [.guard]
  | .sarTrigger .. => [.sense]
  | .saveArm .. => [.supply]
  | .clampLimit .. => [.events, .act]
  | .canTxStart .. | .canBusOff .. | .canTxdTimeout .. | .send .. | .rawAbort .. | .canRxError .. => [.events, .cans]
  | .evtHeldSend .. => [.events, .panel]
  | .recEntryTake .. => [.events, .recs]
  | .deResultForward .. | .seqStepStart .. | .seqTrigger .. => [.events, .sense]
  | .kickEnd .. | .lfPeriod .. | .fanBackoffReset .. => [.now, .act]
  | .routeWithdraw .. | .subscriptionLapse .. | .partialTransactionDiscard .. => [.now, .fabric]
  | .encVelocity .. => [.now, .panel]
  | .doorWindowExpiry .. => [.now, .zones]
  | .boundarySend .. => [.events, .cans, .fabric]
  | .decayEnd .. | .regErr .. | .fanStart .. | .fanOcp .. | .critClear .. => [.events, .sense, .act]
  | .critComparatorArm .. => [.now, .act, .thermal]
  | .segmentAloneSend .. | .ttCycleStart .. | .ttWindowStart .. => [.now, .events, .cans]
  | .nbrLost .. | .rootLost .. => [.now, .events, .fabric]
  | .guardTempReport .. => [.now, .events, .guard]
  | .keyScan .. | .keyStuck .. | .encTransition .. | .encSteps .. => [.now, .events, .panel]
  | .counterHour .. => [.now, .events, .recs]
  | .sdOutput .. | .sdCalibration .. | .capConversion .. | .i2cPoll .. | .i2cPollAbort .. | .diChange .. =>
    [.now, .events, .sense]
  | .thermalEstimate .. => [.now, .events, .thermal]
  | .vacantHoldExpiry .. | .loopPvFail .. => [.now, .events, .zones]
  | .sarBurstDone .. => [.now, .sense, .act]
  | .pntAbsorb .. => [.per, .events, .zones]
  | .vdrvOvRelease .. => [.supply, .events, .sense]
  | .rstNRelease .. => [.supply, .main, .straps]
  | .currentLoopStep .. => [.supply, .sense, .act]
  | .fanCtrlFail .. | .fanForceEnd .. => [.events, .log, .recs, .act]
  | .critTrip .. => [.events, .recs, .sense, .act]
  | .lsOcp .. | .openLoad .. | .hsOcp .. | .fire .. | .abort .. => [.events, .sense, .act, .free]
  | .drvPllLock .. => [.main, .events, .sense, .act]
  | .ttRefMiss .. | .claimRepeat .. | .heartbeatSend .. | .routeAdvSend .. | .bsSubSend .. | .refEventSend .. =>
    [.now, .events, .cans, .fabric]
  | .addrAssign .. => [.now, .events, .recs, .fabric]
  | .proofReport .. | .fanSpeedSample .. | .fanLockedRotor .. | .fanNoEdge .. | .fanRetry .. | .fanFault ..
  | .fanTachJudge .. | .fanOpenLoadEnd .. | .fanOcpRestart .. | .aoSlewStep .. | .aoFault .. | .aoFaultClear .. =>
    [.now, .events, .sense, .act]
  | .coreSelftestDone .. => [.per, .events, .log, .recs]
  | .pointStale .. => [.per, .events, .sense, .zones]
  | .vioLost .. | .vioBack .. => [.supply, .events, .log, .recs]
  | .deferredStrokeStart .. => [.supply, .events, .sense, .act]
  | .evtTake .. => [.events, .log, .link, .recs, .guard]
  | .trialAccept .. => [.main, .events, .log, .cells, .recs]
  | .dieSensorSample .. | .dieSensorTimeout .. => [.now, .events, .band, .sense, .thermal]
  | .sidingHeartbeat .. => [.now, .events, .cans, .fabric, .thermal]
  | .linkLost .. => [.now, .events, .log, .link, .recs]
  | .directDurationExpiry .. => [.now, .events, .log, .recs, .act]
  | .overrideExpiry .. => [.now, .events, .log, .recs, .zones]
  | .pullinEnd .. | .peakEnd .. | .pulseEnd .. | .fanSpinupEnd .. => [.now, .events, .sense, .act, .free]
  | .throttleEval .. => [.now, .events, .sense, .act, .thermal]
  | .proveDeferTimeout .. => [.now, .log, .link, .buffers, .act]
  | .relayTimeout .. => [.now, .log, .link, .buffers, .fabric]
  | .coreWatchdogExpiry .. => [.now, .per, .events, .log, .recs]
  | .saveNotArmed .. => [.now, .supply, .events, .log, .recs]
  | .openLoadRetry .. | .hsOcpRestart .. => [.now, .supply, .events, .sense, .act]
  | .sampleProcess .. => [.per, .events, .sense, .zones, .predict]
  | .vdrvOv .. => [.supply, .events, .sense, .act, .free]
  | .vbkpBack .. => [.supply, .rtc, .events, .log, .recs]
  | .guardReady .. | .guardReset .. => [.events, .log, .link, .sense, .act, .guard]
  | .xferTimeout .. => [.now, .events, .log, .link, .buffers, .recs]
  | .recCopyDone .. => [.now, .log, .link, .buffers, .cells, .recs]
  | .vdrvBack .. => [.supply, .events, .log, .recs, .sense, .act]
  | .spiRead .. | .spiQread .. | .spiWrite .. | .spiQwrite .. | .spiUnknownInstruction .. | .spiCsTimeout .. | .slotWrite ..
  | .h2dDb .. | .statusW1c .. | .dbStatusW1c .. | .irqMaskWrite .. | .handoverW1c .. | .wdescWrite .. | .descClaim ..
  | .descResize .. | .descHandToDevice .. | .descRelease .. | .descWord1Write .. | .regWrite .. | .ping .. | .hello ..
  | .objList .. | .checkval .. | .recRead .. | .recWrite .. | .recStat .. | .recUnlock .. | .recLock .. | .recPassword ..
  | .recDefault .. | .fabRelay .. | .fabPing .. | .fabRediscover .. | .fabRoute .. | .canCancel .. | .ttCommit ..
  | .canStatsClear .. | .evtRead .. | .evtFilter .. | .timeGet .. | .depRegRead .. | .depKey1 .. | .depKey0Off .. =>
    [.events, .log, .link, .buffers, .recs, .cans, .fabric]
  | .canTxDone .. => [.events, .log, .link, .buffers, .recs, .cans, .free]
  | .relayRetry .. => [.now, .events, .log, .link, .buffers, .cans, .fabric]
  | .canRecovered .. => [.now, .events, .log, .link, .buffers, .recs, .cans]
  | .guardCfgRead .. | .guardSample .. => [.now, .events, .log, .link, .sense, .act, .guard]
  | .planSolveDone .. => [.now, .per, .events, .zones, .act, .predict, .free]
  | .vdrvLost .. => [.supply, .events, .log, .recs, .sense, .act, .free]
  | .depLoad .. => [.events, .log, .link, .buffers, .cells, .recs, .cans, .fabric]
  | .objGet .. | .xferRead .. | .xferWrite .. | .actSet .. | .actRelease .. | .fanClear .. | .valveProve .. =>
    [.events, .log, .link, .buffers, .recs, .act, .cans, .fabric]
  | .canRecover .. | .canRxFrame .. => [.events, .log, .link, .buffers, .recs, .cans, .fabric, .free]
  | .modeSet .. | .restartMain .. | .depSvcPw .. => [.main, .events, .log, .link, .buffers, .recs, .cans, .fabric]
  | .proveStrokeReturn .. => [.now, .events, .log, .link, .buffers, .sense, .act, .free]
  | .hbToggle .. => [.now, .events, .log, .link, .sense, .act, .guard, .free]
  | .timeSet .. => [.rtc, .events, .log, .link, .buffers, .recs, .cans, .fabric]
  | .selectiveWakeFrame .. => [.supply, .mode, .main, .recs, .zones, .cans, .straps, .cfg]
  | .vbkpLost .. => [.supply, .rtc, .events, .log, .recs, .cans, .thermal, .cfg]
  | .panelAction .. | .encoderAction .. => [.events, .log, .link, .buffers, .recs, .zones, .panel, .cans, .fabric]
  | .depSwitch .. => [.main, .events, .log, .link, .buffers, .cells, .recs, .cans, .fabric]
  | .rtcAlarm .. => [.now, .supply, .mode, .main, .recs, .zones, .cans, .straps, .cfg]
  | .fabiTake .. => [.per, .events, .log, .link, .buffers, .predict, .cans, .fabric, .free]
  | .wakePattern .. => [.supply, .mode, .main, .recs, .zones, .cans, .straps, .cfg, .free]
  | .vsupValid .. => [.supply, .rtc, .mode, .main, .recs, .zones, .cans, .straps, .cfg]
  | .zoneInstant .. => [.now, .per, .events, .log, .recs, .zones, .act, .predict, .guard, .free]
  | .selftestDone .. => [.supply, .main, .per, .events, .log, .link, .buffers, .recs, .cans, .fabric]
  | .wakeNLow .. => [.supply, .mode, .main, .events, .log, .recs, .zones, .cans, .straps, .cfg]
  | .depRegWrite .. => [.events, .log, .link, .buffers, .crc, .recs, .sense, .act, .cans, .fabric, .free]
  | .deCmdExecute .. => [.supply, .events, .log, .link, .buffers, .recs, .sense, .act, .cans, .fabric, .free]
  | .bootRomStart .. | .imageCheckDone .. =>
    [.mode, .main, .events, .log, .link, .buffers, .crc, .cells, .recs, .predict, .cans, .fabric]
  | .periodStart .. => [.now, .per, .events, .log, .link, .recs, .sense, .zones, .act, .predict, .panel, .guard]
  | .imagesLoaded .. =>
    [.mode, .main, .events, .log, .link, .buffers, .crc, .cells, .recs, .sense, .act, .predict, .cans, .fabric]
  | .sidingExit .. => [.now, .mode, .main, .per, .events, .log, .link, .buffers, .crc, .recs, .predict, .cans, .fabric, .guard]
  | .powerFailSave .. =>
    [.now, .supply, .main, .per, .log, .link, .buffers, .cells, .recs, .sense, .zones, .act, .predict, .guard]
  | .recall .. =>
    [.supply, .main, .per, .events, .log, .link, .buffers, .recs, .sense, .zones, .act, .predict, .cans, .fabric, .cfg, .free]
  | .thermalSiding .. =>
    [.now, .mode, .main, .per, .events, .log, .link, .buffers, .crc, .recs, .sense, .zones, .act, .predict, .cans, .fabric,
     .guard, .thermal]
  | .objSet .. | .objDefault .. =>
    [.now, .per, .events, .log, .link, .buffers, .cells, .recs, .sense, .zones, .act, .predict, .panel, .cans, .fabric, .cfg,
     .cfgPend, .free]
  | .bufferStop .. =>
    [.mode, .main, .per, .events, .log, .link, .buffers, .crc, .recs, .sense, .zones, .act, .predict, .cans, .fabric, .guard,
     .thermal, .bufStop, .free]
  | .xferChunkDone .. =>
    [.now, .per, .events, .log, .link, .buffers, .cells, .recs, .sense, .zones, .act, .predict, .panel, .cans, .fabric, .cfg,
     .cfgPend, .flash, .free]
  | .ready .. =>
    [.mode, .main, .per, .events, .log, .link, .buffers, .crc, .recs, .sense, .zones, .act, .predict, .panel, .cans, .fabric,
     .guard, .thermal, .cfg, .free]
  | .rstNAssert .. | .clockLost .. | .clockBack .. | .memDed .. | .mainRestart .. | .noZoneCoreTimeout .. | .vsupRecovered ..
  | .hbExpiry .. =>
    [.now, .supply, .mode, .main, .per, .events, .log, .link, .buffers, .crc, .cells, .recs, .sense, .zones, .act, .predict,
     .panel, .cans, .fabric, .guard, .cfgPend]
  | .vsupLost .. | .changeover .. =>
    [.now, .supply, .rtc, .mode, .main, .per, .events, .log, .link, .buffers, .crc, .cells, .recs, .band, .sense, .zones, .act,
     .predict, .panel, .cans, .fabric, .guard, .thermal, .bufStop, .straps, .cfg, .cfgPend, .flash, .free]

/-! ### The tables of the state -/

/-- Every table of the state has the length that the spec gives it: the rings and producers of `Q-EVT`, the eleven queues, the
slots and descriptors, the stages, the sensor resources, points, zones, loops, models, encoders, ports, guard zones, die sensors,
limit groups and zone cores. -/
abbrev Shape (s : State) : Prop :=
  (s.qEvt.length = 4 ∧ s.prods.length = 12 ∧ s.qst.length = 11 ∧ s.host.kept.length = 8 ∧ s.host.idle.length = 64) ∧
  (s.act.qCmd.length = 4 ∧ s.act.valves.length = 24 ∧ s.act.groups.length = 4 ∧ s.act.fans.length = 12 ∧ s.act.aos.length = 16) ∧
  (s.se.qSmp.length = 4 ∧ s.se.mods.length = 4 ∧ s.se.i2c.length = 4 ∧ s.se.di.length = 16 ∧ s.se.pts.length = 160 ∧
    s.se.sar.length = 6 ∧ s.se.i2cErr.length = 4 ∧ s.se.i2cTx.length = 4) ∧
  (s.zs.zn.length = 32 ∧ s.zs.lp.length = 64 ∧ s.zs.qPnt.length = 4 ∧ s.pr.models.length = 32 ∧ s.pr.plans.length = 32 ∧
    s.pn.encs.length = 4 ∧ s.cans.length = 3) ∧
  (s.gd.zones.length = 8 ∧ s.gd.seqs.length = 10 ∧ s.th.dies.length = 9 ∧ s.th.lims.length = 6 ∧ s.per.cores.length = 4 ∧
    s.per.zmap.length = 32)

/-! ### Events -/

/-- The newest entry of the host event log is this event (R150). -/
def Logged (t : State) (code inst arg : Nat) : Prop :=
  ∃ e, t.host.log.getLast? = some e ∧ e.code = code ∧ e.inst = inst ∧ e.arg = arg ∧ e.pri = evPri code

/-- The producer has raised this event as its latest: it is the newest entry of its `Q-EVT` ring, or of the crossing towards it while
that stands still, or of the events that the producer holds back, for want of a credit or from tc to the Changeover, or it has been
counted as lost (R18, R29, R45). -/
def Raised (s t : State) (prod code inst arg : Nat) : Prop :=
  let e := mkEvt prod code inst arg
  let p := t.prods.getD prod {}
  (t.qEvt.getD e.pri []).getLast? = some e ∨ p.cross.getLast? = some e ∨ p.held.getLast? = some e ∨ p.late.getLast? = some e ∨
    (s.prods.getD prod {}).lost < p.lost

/-- What the supply and clock monitors report: logged while `SB` runs, and raised towards `Q-EVT` while the main domain is held
(log 13). -/
def Reported (s t : State) (code inst arg : Nat) : Prop :=
  (s.sbAlive = true → Logged t code inst arg) ∧ (s.mn.phase = .held → Raised s t prPeri code inst arg)

/-- The producer's command is its latest: the newest entry of its `Q-CMD` ring, or the newest of those that wait for a credit
(R44). -/
def Posted (t : State) (prod : Nat) (v : CmdVal) : Prop :=
  (t.act.qCmd.getD (cmdRing prod) []).getLast? = some { val := v, prod := prod } ∨
    t.act.cmdWait.getLast? = some (cmdRing prod, { val := v, prod := prod })

/-! ### Mailbox requests -/

/-- The SPI target answers (R100), no request waits in the order, and no response of a relayed request is ready. -/
structure HostQuiet (s : State) : Prop where
  /-- The SPI target answers. -/
  alive : s.spiAlive = true
  /-- The order of execution is empty. -/
  none_ : s.host.reqs = []
  /-- No response of a relayed request is ready. -/
  quiet : s.host.replies = []

/-- The host's request in slot `n` is the only one in the order, is served, passes Table 4.6 as the request `k`, and carries the
opcode `op`; no relayed request waits for its response. -/
structure Due (s : State) (op n : Nat) (k : Task) : Prop where
  /-- The slot exists. -/
  slot : n < 8
  /-- It is the only request in the order of execution. -/
  only : s.host.reqs = [{ origin := .host n }]
  /-- No response of a relayed request is ready. -/
  quiet : s.host.replies = []
  /-- Mailbox service runs (R66). -/
  serves : s.serves = true
  /-- What the slot holds. -/
  task : k = s.readReq { origin := .host n }
  /-- The request passes every check before its command (Table 4.6). -/
  pass : s.verdict k = .pass
  /-- It carries the opcode. -/
  op : k.hdr.opcode = op

/-- The state in which a host request is executed: it has left the order, and the host has talked (R120). -/
def Taken (s : State) : State := State.talk { s with host.reqs := [] }

/-- The request of slot `n` is answered: the response with status word and data stands in its device-to-host slot, the doorbell bit
is set, the slot is free, and the response is kept for repeated requests (R104, R105, R107). -/
def Answered (t : State) (n : Nat) (h : ReqHdr) (status detail : Nat) (data : List Byte) : Prop :=
  let b := responseBytes n h (leBytes 1 status ++ [0#8] ++ leBytes 2 detail ++ data)
  t.host.d2h.bytes (256 * n) b.length = b ∧ bitOf t.host.db n = true ∧ bitOf t.host.busy n = false ∧
    t.host.kept.getD n none = some (h.seq, b)

/-- The request of slot `n` has no response yet: its slot stays busy and the device-to-host slots stand (R105). -/
def Unanswered (s t : State) (n : Nat) : Prop :=
  t.host.busy = s.host.busy ∧ t.host.d2h = s.host.d2h ∧ bitOf t.host.db n = bitOf s.host.db n

/-- A violation is reported: `DB_ERR` is set, and `ERR_INFO` holds the cause and the address (R461). -/
def Violation (t : State) (cause addr : Nat) : Prop :=
  bitOf t.host.db 12 = true ∧ t.host.errCause = cause ∧ t.host.errAddr = addr % 2 ^ 24

/-- The buffer of descriptor `d` lies outside the descriptor table (R111). -/
abbrev ClearOfTable (s : State) (d : Nat) : Prop :=
  s.descBase d + s.descSize d ≤ s.host.wdescBase * 512 ∨ s.host.wdescBase * 512 + 512 ≤ s.descBase d

/-- The bytes of a payload at these offsets are 0, as R14 asks of reserved ones. -/
abbrev Zeros (p : List Byte) (offs : List Nat) : Prop := ∀ i, i ∈ offs → p.getD i 0#8 = 0#8

/-- The record write of a command is the newest of the host's: it waits in `Q-REC`, or for a credit (R44, R383). -/
def Entered (t : State) (e : RecEntry) : Prop :=
  t.rs.queue.getLast? = some { val := e, prod := 0 } ∨ t.rs.waiting.getLast? = some { val := e, prod := 0 }

/-! ### Stages -/

/-- No fan's supply is on. -/
def FansOff (t : State) : Prop := ∀ n, n < 12 → (t.fan n).onAt = none ∧ (t.fan n).stageOn = false

/-- No gang is in pull-in, regulates or waits: each is off, or its current decays (R247). -/
def GangsOff (t : State) : Prop :=
  ∀ b, b < 24 → t.drvGang b ≠ 0 → t.isMember b = false → (t.vlv b).st = .off ∨ (t.vlv b).st = .decay

/-! ### Addressed memories -/

/-- Every addressed memory is in its canonical form: addresses rise and no cell holds the value an unlisted byte reads as. -/
abbrev MemOk (s : State) : Prop :=
  s.host.h2d.wf = true ∧ s.host.d2h.wf = true ∧ s.host.window.wf = true ∧ s.rs.cells.wf = true ∧
    s.flashA.wf = true ∧ s.flashB.wf = true

end Sys2Proof
end

