-- ==== Sys2Proof/Certificates/Slice0/Obligations.lean ====
section
/-!
DEFINITION. Sys2Proof/Certificates/Slice0/Obligations.lean: the statements for the provers, family by family. `Completes c s P`
(Safety) says that command `c` answers a next state in state `s`, and that `P` holds of it.
-/
open Sys2Proof Sys2Proof.Machine

/-- What reset leaves: Right after reset the mode is Shunting and the mode before it Terminus, READY is 0, IRQ_MASK is
0x08FF, PERIOD_COUNT and OVERRUNS are 0 and CORE_ACTIVE is 0b1111, the raw check-value unit holds its reset
parameters, the stages are off, every queue, record cell and addressed memory is empty, and no command waits. The
supplies that log 4 chooses are not part of the statement. (spec/03_power_modes.md Table 3.7, spec/04_host_link.md
Table 4.3, spec/01_architecture.md Table 1.7, spec/02_queues_checks.md Table 2.9, R41, R58, log 4, log 3) -/
def Obligations.ResetLeavesTheStatedValues : Prop :=
  State.reset.mn.mode = .shunting ∧ State.reset.mn.lastMode = .terminus ∧ State.reset.mn.ready = false ∧
    State.reset.host.irqMask = 0x08FF ∧ State.reset.host.proto = 0 ∧ State.reset.per.count = 0 ∧ State.reset.per.overruns = 0 ∧
    State.reset.per.coreActive = 0b1111 ∧ State.reset.crc.width = 32 ∧ State.reset.crc.poly = 0x04C11DB7 ∧
    State.reset.crc.init = 0xFFFFFFFF ∧ State.reset.crc.xorout = 0xFFFFFFFF ∧ State.reset.cfg = [] ∧ State.reset.pending = [] ∧
    (∀ q ∈ State.reset.qEvt, q = []) ∧ (∀ q ∈ State.reset.act.qCmd, q = []) ∧ (∀ q ∈ State.reset.se.qSmp, q = []) ∧
    (∀ q ∈ State.reset.zs.qPnt, q = []) ∧ State.reset.rs.queue = [] ∧ (∀ p ∈ State.reset.cans, p.qFabi = [] ∧ p.qFabo = []) ∧
    State.reset.se.cross = [] ∧ State.reset.rs.cells = [] ∧ State.reset.host.h2d = [] ∧ State.reset.host.d2h = [] ∧
    State.reset.host.window = [] ∧ State.reset.flashA = [] ∧ State.reset.flashB = [] ∧
    (∀ n, n < 12 → (State.reset.fan n).onAt = none) ∧ (∀ b, b < 24 → (State.reset.vlv b).st = .off)

/-- A step runs the command at the front of the queue: For every command and state, a step of the state with the command
at the front of its queue is the command's meaning on the state with the rest of the queue. On an empty queue a step
lets one microsecond of model time pass and changes nothing else, which is the model's choice (log 1). (the block's
queue: step takes the command at the front, log 1) -/
def Obligations.StepRunsTheFrontCommand : Prop :=
  (∀ (c : Instr) (rest : List Instr) (s : State), step { s with pending := c :: rest } = exec c { s with pending := rest }) ∧
  (∀ s : State, s.pending = [] → step s = .next { s with now := s.now + 1 })

/-- VSUP_VALID begins a cold start, stays in standby, or meets the undescribed test state: When VSUP becomes valid with
the standby latch clear and TEST_EN sampled low, VSUP_VALID completes: VSUP is valid, the main domain is held in reset
at a cold start in Shunting, the mode before it is the last mode, the cause is that of a kept wake or 0, record cells
and flash stand, and every strap takes the majority of its eight samples: on a tie the three CT straps and SVC_N read
high, CTSEL, the NA straps and PROF_L low, and a tied strap is marked unstable. With the standby latch set, VSUP is
valid, the pins stand as given for a later wake, and nothing else changes. With TEST_EN sampled high the model stops,
since the spec does not describe that state (log 51). (R61, R65, R439, R441, R84) -/
def Obligations.ColdStartBeginsAtVsupValid : Prop :=
  (∀ (l : List Nat) (s : State), s.pw.vsup = false → s.pw.latch = false → strapCount l 10 ≤ 4 →
    Completes (.vsupValid l) s fun t =>
      t.pw.vsup = true ∧ t.mn.phase = .held ∧ t.mn.cold = true ∧ t.mn.mode = .shunting ∧ t.mn.lastMode = s.mn.mode ∧
      t.mn.startCause = s.pw.wakeKept.getD 0 ∧ t.pw.wakeKept = none ∧
      (∀ k, k < 3 → bitOf t.st.ct k = decide (4 ≤ strapCount l k)) ∧ t.st.ctsel = decide (5 ≤ strapCount l 3) ∧
      (∀ k, k < 4 → bitOf t.st.na k = decide (5 ≤ strapCount l (4 + k))) ∧
      t.st.svcN = decide (4 ≤ strapCount l 8) ∧ t.st.profL = decide (5 ≤ strapCount l 9) ∧
      (∀ k, k < 11 → bitOf t.st.unstable k = decide (strapCount l k = 4)) ∧ t.st.sampledAt = false ∧
      t.rs.cells = s.rs.cells ∧ t.flashA = s.flashA ∧ t.flashB = s.flashB) ∧
  (∀ (l : List Nat) (s : State), s.pw.vsup = false → s.pw.latch = true →
    exec (.vsupValid l) s = .next { s with pw.vsup := true, st.pins := l }) ∧
  (∀ (l : List Nat) (s : State), s.pw.vsup = false → s.pw.latch = false → 5 ≤ strapCount l 10 →
    exec (.vsupValid l) s = .fault .productionTest)

/-- What the loss and the return of VDRV, VIO and VBKP do: VDRV_LOST switches every power stage off, and no valve,
high-side or fan ball drives; an overvoltage above 40 V does so but for fan stages that a fed override line forces.
VDRV_BACK leaves valves, every fan without an override line, and every analog output but those that a fan under an
override line owns as they are, since they resume at the next command; a fan that its override line forces is driven
full on at once. VDRV_OV_RELEASE clears the overvoltage and leaves every stage as it is; the fans deliver their
results. VIO_LOST and VIO_BACK change the supply flag alone. VBKP_LOST with VSUP valid changes the flag alone, and
with VSUP absent loses the time, the standby latch and a kept wake; VBKP_BACK sets the flag, and with VSUP absent the
time starts at 0. The loss and the return of VDRV and VIO, and of VBKP with VSUP valid, are reported; VDRV_OV is
raised by DE while DE runs. (R62, R63, R57, R19, R284, spec/03_power_modes.md Table 3.2, log 13) -/
def Obligations.SupplyLossAndReturn : Prop :=
  (∀ s : State, Shape s → s.pw.vdrv = true → Completes .vdrvLost s fun t =>
    t.pw.vdrv = false ∧ FansOff t ∧ GangsOff t ∧ (∀ n, t.ball (.vch n) = .off) ∧ (∀ g, t.ball (.vhs g) = .off) ∧
    (∀ n, t.ball (.fan n) = .off) ∧ Reported s t evSupplyLost 0 1) ∧
  (∀ s : State, Shape s → s.pw.vdrv = false → Completes .vdrvBack s fun t =>
    t.pw.vdrv = true ∧ t.act.valves = s.act.valves ∧ (∀ n, n < 12 → (s.fan n).line = false → t.fan n = s.fan n) ∧
    (∀ k, k < 16 → (∀ n, n < 12 → (s.fan n).line = true → s.fanDrive n = 3 → s.cf (fanObj n 0x020) Fd.fConf.AO_LINK ≠ k) →
      t.ao k = s.ao k) ∧
    (s.vsupOk = true → s.th.bufStop = none → ∀ n, n < 12 → (s.fan n).line = true →
      (t.fan n).onAt.isSome = true ∧ (t.fan n).stageOn = true ∧ (t.fan n).pulseEnd = none ∧ (t.fan n).d = fOne) ∧
    Reported s t evSupplyBack 0 1 ∧ SameOutside [.supply, .events, .log, .recs, .sense, .act] s t) ∧
  (∀ (mv : Nat) (s : State), Shape s → s.pw.vdrvOv = false → 40000 < mv → s.vsupOk = true → Completes (.vdrvOv mv) s fun t =>
    t.pw.vdrvOv = true ∧ t.pw.vdrvMv = mv ∧ GangsOff t ∧
    (∀ n, n < 12 → ((s.fan n).line = false ∨ s.lineFed = false) → (t.fan n).onAt = none ∧ (t.fan n).stageOn = false) ∧
    (∀ n, n < 12 → (s.fan n).line = true → s.lineFed = true → t.fan n = s.fan n) ∧
    (s.deOn = true → Raised s t prDE evVdrvOv 0 mv)) ∧
  (∀ s : State, s.pw.vdrvOv = true → Completes .vdrvOvRelease s fun t =>
    t.pw = { s.pw with vdrvOv := false } ∧ SameOutside [.supply, .events, .sense] s t) ∧
  (∀ s : State, Shape s → s.pw.vio = true → Completes .vioLost s fun t =>
    t.pw = { s.pw with vio := false } ∧ Reported s t evSupplyLost 0 2 ∧ SameOutside [.supply, .events, .log, .recs] s t) ∧
  (∀ s : State, Shape s → s.pw.vio = false → Completes .vioBack s fun t =>
    t.pw = { s.pw with vio := true } ∧ Reported s t evSupplyBack 0 2 ∧ SameOutside [.supply, .events, .log, .recs] s t) ∧
  (∀ s : State, Shape s → s.pw.vbkp = true → s.pw.vsup = true → Completes .vbkpLost s fun t =>
    t.pw = { s.pw with vbkp := false } ∧ t.rtc = s.rtc ∧ Reported s t evSupplyLost 0 3 ∧
    SameOutside [.supply, .events, .log, .recs] s t) ∧
  (∀ s : State, s.pw.vbkp = true → s.pw.vsup = false → Completes .vbkpLost s fun t =>
    t.pw = { s.pw with vbkp := false, latch := false, wakeKept := none } ∧ t.rtc.valid = false) ∧
  (∀ s : State, Shape s → s.pw.vbkp = false → s.pw.vsup = true → Completes .vbkpBack s fun t =>
    t.pw = { s.pw with vbkp := true } ∧ t.rtc = s.rtc ∧ Reported s t evSupplyBack 0 3 ∧
    SameOutside [.supply, .events, .log, .recs] s t) ∧
  (∀ s : State, s.pw.vbkp = false → s.pw.vsup = false →
    exec .vbkpBack s = .next { s with pw.vbkp := true, rtc.base := 0, rtc.at_ := s.now })

/-- The rows of a start up to the bank selection: CRIT_COMPARATOR_ARM arms the critical comparator with the threshold 70 +
10 × CT °C and Buffer Stop detection, 2 ms after VSUP became valid. DRV_PLL_LOCK locks the driver PLL, and DE runs
when its microcode is loaded; it then follows the comparator. GUARD_RELEASE releases the Guard cores. GUARD_READY
makes Guard ready, and while no Buffer Stop is latched it then carries every enabled guard zone. BOOT_ROM_START fixes
the profile from the PROF_L strap and the stored setting, FW_ID reads 0, and it goes on to the image check of a bank
or to the boot ROM's Depot, which a latched Buffer Stop turns into Buffer Stop; with bank A ACTIVE and bank B not
TRIAL, as the boot ROM reads record 0, it checks bank A. (R65, R287, R288, R389, R415, R72, R4, R5, R406, R428,
spec/03_power_modes.md Table 3.3) -/
def Obligations.StartStagesBeforeTheImage : Prop :=
  (∀ s : State, s.vsupOk = true → s.act.critArmed = false → Completes .critComparatorArm s fun t =>
    t.act.critArmed = true ∧ t.th.armed = true ∧ t.act.critC = 70 + 10 * s.st.ct ∧ t.now = max s.now (s.rs.vsupFrom + 2000) ∧
    SameOutside [.now, .act, .thermal] s t) ∧
  (∀ s : State, s.vsupOk = true → s.mn.drvLocked = false →
    Completes .drvPllLock s fun t => t.mn = { s.mn with drvLocked := true, deRun := s.mn.deId.isSome } ∧
      (s.mn.deId = none → t.act = s.act) ∧ SameOutside [.main, .events, .sense, .act] s t) ∧
  (∀ s : State, s.vsupOk = true → s.gd.released = false → exec .guardRelease s = .next { s with gd.released := true }) ∧
  (∀ s : State, s.vsupOk = true → s.gd.released = true → s.gd.ready = false → s.gd.inReset = none → s.pw.guardLost = false →
    Completes .guardReady s fun t => t.gd.ready = true ∧
      (s.th.bufStop = none → ∀ z, z < 8 → (t.gz z).enabled = true → (t.gz z).carried = true)) ∧
  (∀ s : State, s.mn.phase = .held → s.mn.restartDue = none → s.pw.rstLow = false → s.pw.coreLost = false → s.vsupOk = true →
    Completes .bootRomStart s fun t =>
      t.mn.profActive = s.profNow ∧ t.mn.profSrc = s.st.profL ∧ t.mn.fwId = 0 ∧
      (t.mn.phase = .imageCheck ∨
        (t.mn.phase = .romDepot ∧ t.mn.mode = if s.th.bufStop.isSome then .bufferStop else .depot)) ∧
      (s.st.profL = true → t.mn.profActive = true) ∧
      (s.bootBank 0 = 3 → s.bootBank 1 ≠ 2 → t.mn.phase = .imageCheck ∧ t.mn.bankSel = 0))

/-- The rows of a start from the image check to ready: IMAGE_CHECK_DONE goes on to loading when the image passes its
check, and otherwise tries another bank or ends in the boot ROM's Depot. IMAGES_LOADED runs the bank with its version
and its DE microcode and begins the self-test. SELFTEST_DONE begins mailbox service and record recall. A zone core
that passes its own self-test is online; one that fails is offline, counts the failure, is tested again up to its
third failure, and SELFTEST_FAIL is logged. RECALL ends with the recalled configuration being applied, and READY ends
the start: the main domain is ready and the start is no longer a cold one. (R65, R66, R69, R36, R71, R72, R74,
spec/03_power_modes.md Table 3.3) -/
def Obligations.StartStagesFromTheImageToReady : Prop :=
  (∀ (ded : Bool) (s : State), s.mn.phase = .imageCheck →
    Completes (.imageCheckDone ded) s fun t =>
      (ded = false → s.imageOk s.mn.bankSel = true → t = { s with mn.phase := .loading }) ∧
      ((ded = true ∨ s.imageOk s.mn.bankSel = false) → t.mn.phase = .imageCheck ∨ t.mn.phase = .romDepot)) ∧
  (∀ s : State, s.mn.phase = .loading → Completes (.imagesLoaded false) s fun t =>
    t.mn.phase = .selfTest ∧ t.mn.bankRun = s.mn.bankSel ∧ t.mn.fwId = imgVersion (s.flash s.mn.bankSel) ∧
    t.mn.deId = some (imgDeId (s.flash s.mn.bankSel))) ∧
  (∀ s : State, s.mn.phase = .loading → Completes (.imagesLoaded true) s fun t =>
    t.mn.phase = .imageCheck ∨ t.mn.phase = .romDepot) ∧
  (∀ (l : List Nat) (s : State), s.mn.phase = .selfTest → Completes (.selftestDone l) s fun t =>
    t.mn.phase = .recall ∧ t.mn.serving = true) ∧
  (∀ (c : Fin 4) (s : State), (s.core c.val).testing = true → s.sbAlive = true →
    Completes (.coreSelftestDone c true) s fun t =>
      (t.core c.val).online = true ∧ (t.core c.val).testing = false ∧ (t.core c.val).returned = s.mn.ready ∧
      SameOutside [.per] s t) ∧
  (∀ (c : Fin 4) (s : State), (s.core c.val).testing = true → s.sbAlive = true →
    Completes (.coreSelftestDone c false) s fun t =>
      (t.core c.val).online = false ∧ (t.core c.val).fails = (s.core c.val).fails + 1 ∧
      (t.core c.val).testing = decide ((s.core c.val).fails + 1 < 3) ∧ Logged t evSelftestFail 0 (0x10 + c.val) ∧
      SameOutside [.per, .events, .log, .recs] s t) ∧
  (∀ (us : Nat) (s : State), s.mn.phase = .recall → Completes (.recall us) s fun t =>
    t.mn.phase = .applying ∧ t.rs.recallUs = min us 65535) ∧
  (∀ s : State, s.mn.phase = .applying → Completes .ready s fun t =>
    t.mn.phase = .run ∧ t.mn.ready = true ∧ t.mn.cold = false ∧ t.mn.readyAt = s.now)

/-- What the loss and the return of each watched clock do: The loss of CORE holds the main domain in reset while state,
set current and duty of each valve stand, and with no Buffer Stop latched a Guard that works and has no take item of a
reset left to send carries every enabled guard zone. The loss of DRV leaves every valve low side off and every fan off
but those under an override line. The loss of AFE ends every step of the conversions. The loss of GUARD puts the Guard
island into reset and leaves the main domain. The loss of RTC is only recorded. Each loss but that of CORE is
reported. The return of CORE makes a restart with cause 0x03 due or enters Siding (R89), unless RST_N is low, and is
raised by Guard. The return of another clock is recorded and reported, and changes nothing else but the capacitance
converter's time after AFE, and after DRV what DE does when it follows the critical comparator again. (R20, R415,
R416, R85, R89, R404, R409, R288, log 13, spec/01_architecture.md Table 1.6) -/
def Obligations.ClockLossAndReturn : Prop :=
  (∀ s : State, s.vsupOk = true → s.pw.coreLost = false → Completes (.clockLost .core) s fun t =>
    t.pw.coreLost = true ∧ t.mn.phase = .held ∧
    (∀ ch, ch < 24 → (t.vlv ch).st = (s.vlv ch).st ∧ (t.vlv ch).iset = (s.vlv ch).iset ∧ (t.vlv ch).duty = (s.vlv ch).duty) ∧
    (s.guardJudges = true → s.th.bufStop = none → ∀ z, z < 8 → (s.gz z).enabled = true → (t.gz z).carried = true)) ∧
  (∀ s : State, Shape s → s.vsupOk = true → s.pw.drvLost = false → Completes (.clockLost .drv) s fun t =>
    t.pw.drvLost = true ∧ (∀ ch, ch < 24 → (t.vlv ch).st = .off ∧ (t.vlv ch).duty = fZero) ∧
    (∀ n, n < 12 → (s.fan n).line = false → (t.fan n).onAt = none ∧ (t.fan n).stageOn = false) ∧
    (∀ n, n < 12 → (s.fan n).line = true → t.fan n = s.fan n) ∧ Reported s t evClockLost 0 1) ∧
  (∀ s : State, Shape s → s.vsupOk = true → s.pw.afeLost = false → Completes (.clockLost .afe) s fun t =>
    t.pw.afeLost = true ∧ (∀ k, k < 4 → (t.se.mods.getD k {}).step = none) ∧ Reported s t evClockLost 0 2 ∧
    SameOutside [.supply, .sense, .events, .log, .recs] s t) ∧
  (∀ s : State, Shape s → s.vsupOk = true → s.pw.guardLost = false → Completes (.clockLost .guard) s fun t =>
    t.pw.guardLost = true ∧ t.gd.inReset.isSome = true ∧ t.mn = s.mn ∧ Reported s t evClockLost 0 3 ∧
    SameOutside [.supply, .guard, .events, .log, .recs] s t) ∧
  (∀ s : State, Shape s → s.vsupOk = true → s.pw.rtcLost = false → Completes (.clockLost .rtc) s fun t =>
    t.pw = { s.pw with rtcLost := true } ∧ Reported s t evClockLost 0 4 ∧ SameOutside [.supply, .events, .log, .recs] s t) ∧
  (∀ s : State, Shape s → s.vsupOk = true → s.pw.coreLost = true → Completes (.clockBack .core) s fun t =>
    t.pw.coreLost = false ∧ (s.pw.rstLow = false → t.mn.restartDue = some 0x03 ∨ (t.mn.mode = .siding ∧ t.mn.sidingCause = 3)) ∧
    Raised s t prGD evClockBack 0 0) ∧
  (∀ s : State, Shape s → s.vsupOk = true → s.pw.drvLost = true → Completes (.clockBack .drv) s fun t =>
    t.pw = { s.pw with drvLost := false } ∧ Reported s t evClockBack 0 1 ∧
    (s.act.critOn = s.act.critSeen → (∀ n, n < 12 → s.critFan n = (s.fan n).forceCrit) → t.act = s.act) ∧
    SameOutside [.supply, .sense, .act, .events, .log, .recs] s t) ∧
  (∀ (d : Clk) (s : State), Shape s → d ≠ .core → d ≠ .drv → s.vsupOk = true → s.clkLost d = true → Completes (.clockBack d) s fun t =>
    t.clkLost d = false ∧ Reported s t evClockBack 0 (clkCode d) ∧ { t.se with cap.busy := 0 } = { s.se with cap.busy := 0 } ∧
    (d ≠ .afe → t.se = s.se) ∧ SameOutside [.supply, .sense, .events, .log, .recs] s t)

/-- RST_N, a due restart and a trial image's acceptance: RST_N low for 10 µs holds the main domain in reset, not ready,
and leaves Guard's zones, state, set current and duty of each valve, the fans, the analog outputs, the RTC and the
standby latch as they are; without VSUP only the pin is recorded. Its release samples the straps other than CT and
CTSEL again, clears the cause of a Siding and makes a restart with cause 0x01 due. MAIN_RESTART carries a due restart
out: the main domain is held, the cause is recorded, and valves, fans, outputs, Guard's zones and the straps stand.
TRIAL_ACCEPT writes the bank-control record with the running bank ACTIVE, the other bank STANDBY where it was ACTIVE,
and no trial starts, and logs it; that the record stands in the cells at once is the model's choice (log 48). (R64,
R85, R87, R74, R418, R440, R122, log 34, log 48) -/
def Obligations.ResetsOfTheMainDomain : Prop :=
  (∀ s : State, s.pw.rstLow = false → s.vsupOk = true → Completes .rstNAssert s fun t =>
    t.pw.rstLow = true ∧ t.mn.phase = .held ∧ t.mn.ready = false ∧ t.gd.zones = s.gd.zones ∧ t.gd.ready = s.gd.ready ∧
    (∀ ch, ch < 24 → (t.vlv ch).st = (s.vlv ch).st ∧ (t.vlv ch).iset = (s.vlv ch).iset ∧ (t.vlv ch).duty = (s.vlv ch).duty) ∧
    t.act.fans = s.act.fans ∧ t.act.aos = s.act.aos ∧ t.rtc = s.rtc ∧ t.pw.latch = s.pw.latch) ∧
  (∀ s : State, s.pw.rstLow = false → s.vsupOk = false → exec .rstNAssert s = .next { s with pw.rstLow := true }) ∧
  (∀ (l : List Nat) (s : State), s.pw.rstLow = true → s.vsupOk = true → Completes (.rstNRelease l) s fun t =>
    t.pw.rstLow = false ∧ t.mn.restartDue = some 0x01 ∧ t.mn.sidingCause = 0 ∧ t.st.ct = s.st.ct ∧ t.st.ctsel = s.st.ctsel ∧
    (∀ k, k < 4 → bitOf t.st.na k = decide (5 ≤ strapCount l (4 + k))) ∧
    t.st.svcN = decide (4 ≤ strapCount l 8) ∧ t.st.profL = decide (5 ≤ strapCount l 9) ∧
    (∀ k, k < 11 → bitOf t.st.unstable k = if 4 ≤ k ∧ k ≤ 9 then decide (strapCount l k = 4) else bitOf s.st.unstable k) ∧
    t.st.sampledAt = true ∧ SameOutside [.supply, .main, .straps] s t) ∧
  (∀ (l : List Nat) (s : State), s.pw.rstLow = true → s.vsupOk = false →
    exec (.rstNRelease l) s = .next { s with pw.rstLow := false }) ∧
  (∀ (c : Nat) (s : State), s.mn.restartDue = some c → s.pw.rstLow = false → s.pw.coreLost = false → s.vsupOk = true →
    Completes .mainRestart s fun t =>
      t.mn.restartDue = none ∧ t.mn.startCause = c ∧ t.mn.phase = .held ∧
      (∀ ch, ch < 24 → (t.vlv ch).st = (s.vlv ch).st ∧ (t.vlv ch).iset = (s.vlv ch).iset ∧ (t.vlv ch).duty = (s.vlv ch).duty) ∧
      t.act.fans = s.act.fans ∧ t.act.aos = s.act.aos ∧ t.gd.zones = s.gd.zones ∧ t.st = s.st) ∧
  (∀ s : State, s.mn.phase = .run → 100 ≤ s.mn.trialPeriods → s.bankState s.mn.bankRun = 2 → s.mn.bankRun < 2 →
    2 < (s.recData 0 0).length → Completes .trialAccept s fun t =>
      t.mn.trialPeriods = 0 ∧ Logged t evTrialAccepted 0 s.mn.bankRun ∧
      ∃ d, d.getD s.mn.bankRun 0#8 = 3#8 ∧ d.getD 2 1#8 = 0#8 ∧
        (s.bankState (1 - s.mn.bankRun) = 3 → d.getD (1 - s.mn.bankRun) 0#8 = 4#8) ∧
        t.rs.cells = (s.landCopy 0 0 false d).rs.cells)

/-- Heartbeat expiry, memory errors, a lockstep mismatch and the return of the Guard island: HB_EXPIRY comes HB_TMO_MS
after the last toggle, or after the moment from which Guard watches when it has seen none since: the judgement is
expired and counted, with no Buffer Stop latched Guard carries every enabled guard zone, and a main domain that was
not held already has a restart with cause 0x03 due or has entered Siding (R89). A double-bit error in system SRAM,
window SRAM or flash, outside a reset and, for flash, the boot ROM's image check and load, has the same effect on the
main domain and is raised, by PERI's producer after the fault restart, which is the model's choice (log 6). One in
Guard's RAM or ROM puts the island into reset, leaves the main domain and is reported. A lockstep mismatch of released
cores puts the island into reset with cause 1 and counts it. GUARD_RESET ends the reset, makes Guard ready again,
leaves the take items of the carried guard zones to be sent again once each is sampled, and raises its cause. (R17,
R85, R89, R404, R405, R409, log 6, log 13, log 67) -/
def Obligations.FaultsOfTheDomains : Prop :=
  (∀ s : State, s.guardJudges = true → s.gd.hb ≠ 3 → Completes .hbExpiry s fun t =>
    t.gd.hb = 3 ∧ t.gd.expiries = min (s.gd.expiries + 1) 65535 ∧
    s.gd.toggleAt.getD s.gd.watchFrom + s.gd.hbTmo * 1000 ≤ t.now ∧
    (s.mn.phase ≠ .held → t.mn.restartDue = some 0x03 ∨ (t.mn.mode = .siding ∧ t.mn.sidingCause = 3)) ∧
    (s.th.bufStop = none → ∀ z, z < 8 → (s.gz z).enabled = true → (t.gz z).carried = true)) ∧
  (∀ (m : Fin 5) (s : State), Shape s → m.val < 3 → s.vsupOk = true → s.mn.phase ≠ .held →
    ¬(m.val = 2 ∧ (s.mn.phase = .imageCheck ∨ s.mn.phase = .loading)) → Completes (.memDed m) s fun t =>
      (t.mn.restartDue = some 0x03 ∨ (t.mn.mode = .siding ∧ t.mn.sidingCause = 3)) ∧ Raised s t prPeri evMemDed 0 m.val) ∧
  (∀ (m : Fin 5) (s : State), Shape s → 3 ≤ m.val → s.vsupOk = true → Completes (.memDed m) s fun t =>
    t.gd.inReset.isSome = true ∧ t.mn = s.mn ∧ Reported s t evMemDed 0 m.val ∧ SameOutside [.guard, .events, .log, .recs] s t) ∧
  (∀ s : State, s.gd.released = true → s.vsupOk = true → s.gd.inReset = none → Completes .guardLockstepMismatch s fun t =>
    t.gd.inReset = some 1 ∧ t.gd.ready = false ∧ t.gd.resets = min (s.gd.resets + 1) 65535 ∧ SameOutside [.guard] s t) ∧
  (∀ (cause : Nat) (s : State), Shape s → s.gd.inReset = some cause → s.pw.guardLost = false → s.vsupOk = true →
    Completes .guardReset s fun t => t.gd.inReset = none ∧ t.gd.ready = true ∧ t.gd.watchFrom = s.now ∧
      (∀ z, z < 8 → (t.gz z).mustTake = ((t.gz z).carried && (t.gz z).enabled)) ∧ Raised s t prGD evGuardReset 0 cause)

/-- Where a zone period begins: In Platform, Mainline and Depot a period that has run its Changeover is followed at once
by the next: t0 is the end of the period before, the period counter counts it (once a first period has run), the
Changeover and the zone instant of the new period are still to come, every zone that runs is still to be computed, and
model time has reached t0. The first period of a node that is alone, or of a rejoin, begins at ready; that of another
node begins at the first fabric-aligned instant once it has taken up fabric time. A node that does not align to fabric
time gives the period its PERIOD_MS. (R21, R22, R23, R30, R68, R87) -/
def Obligations.PeriodStartsAtT0 : Prop :=
  (∀ s : State, s.periodsRun = true → s.per.running = true → s.per.inCo = true → Completes .periodStart s fun t =>
    t.per.running = true ∧ t.per.inCo = false ∧ t.per.instantDone = false ∧ t.per.rejoin = false ∧
    t.per.t0 = s.per.t0 + s.per.lenUs ∧ t.per.t0 ≤ t.now ∧
    t.per.count = (if s.per.started then (s.per.count + 1) % 2 ^ 32 else s.per.count) ∧
    t.per.undone = (if s.zonesRun then (List.range 32).filter fun z => s.zoneOn z else []) ∧ t.per.overruns = s.per.overruns ∧
    (s.aligns = false → t.per.lenUs = s.periodMs * 1000) ∧ t.mn = s.mn) ∧
  (∀ s : State, s.periodsRun = true → s.per.running = false → (s.per.rejoin = true ∨ s.fb.heardAny = false ∨ s.jnOn = false) →
    Completes .periodStart s fun t =>
      t.per.running = true ∧ t.per.inCo = false ∧ t.per.t0 = s.mn.readyAt ∧ t.per.rejoin = s.per.rejoin ∧ t.per.started = true ∧
      (s.aligns = false → t.per.lenUs = s.periodMs * 1000) ∧ s.mn.readyAt ≤ t.now ∧ t.mn = s.mn) ∧
  (∀ s : State, s.periodsRun = true → s.per.running = false → s.per.rejoin = false → s.fb.heardAny = true → s.jnOn = true →
    s.fb.timed = true → Completes .periodStart s fun t =>
      t.per.running = true ∧ t.per.inCo = false ∧ t.per.t0 = s.nextAligned (max s.now s.mn.readyAt) ∧ t.per.rejoin = false ∧
      t.per.started = true ∧ t.mn = s.mn)

/-- The zone instant, the end of a solve, and the absorption of items: ZONE_INSTANT before tc, in Platform or Mainline,
stops a solve that still runs and computes every waiting zone whose zone core is online, which then waits no more; the
operand says that no core hangs. PLAN_SOLVE_DONE ends the solve, with its time in microseconds; a solve that would end
at or after the zone instant is stopped there, which is the model's choice (log 28). PNT_ABSORB takes the oldest item
of the core's ring before tc, and a point's item that is not poisoned enters the entries of the ring's zones that the
point is bound to; from an empty ring it counts an underrun (R43; that a take of an empty ring is one, log 14), and
past tc it takes nothing. CORE_WATCHDOG_EXPIRY takes a core with work that posts no progress for 10 ms offline, to be
tested, with CORE_OFFLINE cause 1 once per absence. NO_ZONE_CORE_TIMEOUT, 10 s after the map became empty with every
core offline, makes a restart with cause 0x03 due or enters Siding (R89). (R23, R25, R29, R36, R37, R43, R186, R192,
log 14, log 28, spec/07_zones.md Table 7.1) -/
def Obligations.ZoneInstantComputesTheZones : Prop :=
  (∀ s : State, Shape s → s.zonesRun = true → s.per.running = true → s.per.inCo = false → s.per.instantDone = false →
    max s.now s.zoneInstantAt < s.tc → Completes (.zoneInstant []) s fun t =>
      t.per.instantDone = true ∧ t.pr.solve = none ∧ t.now = max s.now s.zoneInstantAt ∧
      (∀ z c, z < 32 → c < 4 → z ∈ s.per.undone → s.per.zmap.getD z none = some c → (s.core c).online = true →
        (t.zone z).computed = true ∧ z ∉ t.per.undone)) ∧
  (∀ (us : Nat) (sv : Solve) (s : State), s.pr.solve = some sv → sv.startAt + us < s.zoneInstantAt →
    Completes (.planSolveDone us) s fun t =>
      t.pr.solve = none ∧ t.pr.st = 1 ∧ t.pr.solveUs = min us 65535 ∧ t.now = max s.now (sv.startAt + us) ∧ t.mn = s.mn) ∧
  (∀ (us : Nat) (sv : Solve) (s : State), s.pr.solve = some sv → s.zoneInstantAt ≤ sv.startAt + us →
    Completes (.planSolveDone us) s fun t =>
      t.pr.solve = none ∧ t.pr.st = 1 ∧ t.pr.result = 3 ∧ t.now = max s.now s.zoneInstantAt ∧ t.mn = s.mn) ∧
  (∀ (c : Fin 4) (e : QE PntVal) (rest : List (QE PntVal)) (s : State), Shape s → s.mn.phase = .run → s.mn.mode ≠ .siding →
    s.pastTc = false → s.zs.qPnt.getD c.val [] = e :: rest → s.zs.pntWait = [] → Completes (.pntAbsorb c) s fun t =>
      t.zs.qPnt.getD c.val [] = rest ∧ ((s.core c.val).online = true → (t.core c.val).progress = s.now) ∧
      (∀ p y st cause z, e.bad = false → e.val = .point p y st cause → z < 32 → s.ringOf z = c.val → s.bound p z = true →
        (zGet (t.zone z).entries p).y = y ∧ (zGet (t.zone z).entries p).stat = st) ∧
      (e.bad = true → Raised s t (prZC c.val) evQueuePoison 0 1) ∧ t.zs.lp = s.zs.lp ∧ t.act = s.act) ∧
  (∀ (c : Fin 4) (s : State), Shape s → s.mn.phase = .run → s.mn.mode ≠ .siding → s.pastTc = false →
    s.zs.qPnt.getD c.val [] = [] → Completes (.pntAbsorb c) s fun t =>
      (t.qst.getD 1 {}).underrun = min ((s.qst.getD 1 {}).underrun + 1) 65535 ∧ t.zs = s.zs) ∧
  (∀ (c : Fin 4) (s : State), s.pastTc = true → exec (.pntAbsorb c) s = .next s) ∧
  (∀ (c : Fin 4) (s : State), Shape s → s.mn.phase = .run → (s.core c.val).online = true →
    (s.zs.qPnt.getD c.val [] ≠ [] ∨ (s.per.instantDone = true ∧ s.coreUndone c.val ≠ [])) →
    Completes (.coreWatchdogExpiry c) s fun t =>
      (t.core c.val).online = false ∧ (t.core c.val).testing = true ∧ (s.core c.val).progress + 10000 ≤ t.now ∧
      ((s.core c.val).offLogged = false → Logged t evCoreOffline 0 (0x100 + c.val)) ∧ t.mn = s.mn) ∧
  (∀ (at_ : Nat) (s : State), s.per.emptyAt = some at_ → s.mn.phase = .run → (∀ c, c < 4 → (s.core c).online = false) →
    Completes .noZoneCoreTimeout s fun t =>
      at_ + 10000000 ≤ t.now ∧ (t.mn.restartDue = some 0x03 ∨ (t.mn.mode = .siding ∧ t.mn.sidingCause = 3)))

/-- What the Changeover does to the period and the mode: With no mode change due, CHANGEOVER completes with no zone left
waiting, the missed ones added to OVERRUNS, its length of at most 2 ms noted, the period counter and the mode
unchanged, and a restart accepted for this Changeover due. The mode accepted for it, the latest where several are, is
entered: Platform, Mainline and Depot by name, Siding with cause 1 of Table 15.4, and Terminus or Halt by standby
entry while VSUP is valid: the main domain off, the standby latch set, and the flash as it stands. That the length is
the operand up to 2 ms and that the standby entry falls on the instant of its Changeover are the model's choices (log
8), and so is that Siding ends the Changeover at once (log 11). What the entry into Depot does to the stages is not
part of the statement. (R24, R26, R27, R33, R82, R85, log 8, log 11, spec/01_architecture.md Table 1.9,
spec/03_power_modes.md Table 3.6) -/
def Obligations.ChangeoverEndsThePeriod : Prop :=
  (∀ (us : Nat) (s : State), s.per.running = true → s.per.inCo = false → s.mn.phase = .run → s.mn.mode ≠ .siding →
    (∀ x ∈ s.mn.modeNext, s.per.count < x.2) → Completes (.changeover us) s fun t =>
      t.per.inCo = true ∧ t.per.running = true ∧ t.per.undone = [] ∧ t.per.coLast = min 2000 us ∧
      t.per.coMax = max s.per.coMax (min 2000 us) ∧ t.per.count = s.per.count ∧ s.tc + min 2000 us ≤ t.now ∧
      t.per.overruns = min (s.per.overruns + (if s.zonesRun then s.per.undone.length else 0)) 65535 ∧
      t.mn.mode = s.mn.mode ∧ t.mn.phase = .run ∧
      (∀ c co, s.mn.restartAtCo = some (c, co) → co ≤ s.per.count → t.mn.restartDue = some c ∧ t.mn.restartAtCo = none)) ∧
  (∀ (us : Nat) (m : Mode) (s : State), s.per.running = true → s.per.inCo = false → s.mn.phase = .run → s.mn.mode ≠ .siding →
    s.modeDue = some m → Completes (.changeover us) s fun t =>
      (m = .platform ∨ m = .mainline ∨ m = .depot → t.mn.mode = m ∧ t.mn.phase = .run ∧
        t.mn.modeNext = s.mn.modeNext.filter fun x => s.per.count < x.2) ∧
      (m = .siding → t.mn.mode = .siding ∧ t.mn.sidingCause = 1 ∧ t.per.running = false) ∧
      (m = .terminus ∨ m = .halt → s.pw.vsup = true → t.mn.phase = .off ∧ t.mn.mode = m ∧ t.pw.latch = true ∧ t.flashA = s.flashA ∧
        t.pw.latchHalt = decide (m = .halt)))

/-- Q-EVT, its producers, and the driver results: EVT_TAKE moves the oldest entry of the highest ring of Q-EVT into the
host event log before tc, with its code, instance, priority, argument, its poison mark and the next sequence number,
and from an empty Q-EVT counts an underrun (R43; that a take of an empty queue is one, log 14); between tc and the
next t0 it takes nothing. EVT_HELD_SEND lets a producer other than the peripheral event merger, with a credit and no
lost event, send the one event it holds; the merger's sends change events and the panel's buffer alone.
DE_RESULT_FORWARD moves the oldest driver result out of the table into an empty crossing, and on into the ring P0 of
Q-SMP while that has room, but from tc to the next t0 no further than the crossing. (R29, R39, R43, R45, R46, R150,
R300, R460, log 14) -/
def Obligations.EventsReachTheLog : Prop :=
  (∀ (e : EvtEntry) (q : List (List EvtEntry)) (s : State), s.sbTakes = true → s.pastTc = false → popEvt s.qEvt = some (e, q) →
    Completes .evtTake s fun t =>
      t.qEvt = q ∧ t.host.seqno = (s.host.seqno + 1) % 2 ^ 32 ∧ t.prods = s.prods ∧
      ∃ x, t.host.log.getLast? = some x ∧ x.code = bits e.w0.toNat 15 0 ∧ x.inst = bits e.w0.toNat 27 16 ∧
        x.pri = bits e.w0.toNat 29 28 ∧ x.arg = e.w1.toNat ∧ x.seqno = s.host.seqno ∧
        x.poisoned = (parityOf e.w0 != e.p0 || parityOf e.w1 != e.p1)) ∧
  (∀ s : State, Shape s → s.sbTakes = true → s.pastTc = false → popEvt s.qEvt = none → Completes .evtTake s fun t =>
    (t.qst.getD 3 {}).underrun = min ((s.qst.getD 3 {}).underrun + 1) 65535 ∧ t.qEvt = s.qEvt) ∧
  (∀ s : State, s.pastTc = true → exec .evtTake s = .next s) ∧
  (∀ (p : Fin 12) (e : EvtEntry) (s : State), Shape s → (s.prods.getD p.val {}).held = [e] → s.evtCredit p.val e.pri = true →
    p.val ≠ prPeri → (s.prods.getD p.val {}).lost = 0 → e.pri < 4 → Completes (.evtHeldSend p) s fun t =>
      (t.prods.getD p.val {}).held = [] ∧ t.qEvt.getD e.pri [] = s.qEvt.getD e.pri [] ++ [e] ∧
      SameOutside [.events] s t) ∧
  (∀ (p : Fin 12) (s : State), Completes (.evtHeldSend p) s fun t => SameOutside [.events, .panel] s t) ∧
  (∀ (i : Nat) (v : F32) (err : Bool) (c : Nat) (rest : List (Nat × F32 × Bool × Nat)) (s : State), Shape s →
    s.se.table = (i, v, err, c) :: rest → s.deOn = true → s.se.cross = [] → (s.se.qSmp.getD 0 []).length < 16 →
    Completes .deResultForward s fun t =>
      t.se.table = rest ∧
      (s.pastTc = false →
        t.se.cross = [] ∧ t.se.qSmp.getD 0 [] = s.se.qSmp.getD 0 [] ++ [{ val := .de i v err c, prod := 2 }]) ∧
      (s.pastTc = true → t.se.cross = [{ val := .de i v err c, prod := 2 }] ∧ t.se.qSmp = s.se.qSmp))

/-- Power-fail save, loss of VSUP and the wakes from standby: SAVE_ARM arms the save. SAVE_NOT_ARMED is judged once, 1 s
after ready, and logged. An armed POWER_FAIL_SAVE ends the zone period and a solve and goes into the saving phase;
when recall has ended, the save of R395 (the model's powerSave) writes the records, and its time is kept.
VSUP_RECOVERED after it makes a restart with cause 0x20 due. VSUP_LOST powers the device off into Terminus; flash
stands, and record cells unless a copy was under way; every ball is as Table 16.4 has it without VSUP. In standby with
VSUP and TEST_EN low, an armed WAKE_N, the alarm, a wake pattern of phases of at least 1.8 µs, a matching selective
wake frame, or the 32nd erroneous frame begins a cold start with its cause; WAKE_N or the alarm with VSUP absent
clears the latch and keeps the cause. A phase below 0.5 µs is never a wake, one between may or may not be. A frame
that does not match lowers the error count, an erroneous one raises it. Outside standby WAKE_N is only logged. (R82,
R83, R84, R91, R92, R337, R395, R336, R61, R441, R438, spec/16_package_electrical.md Table 16.4) -/
def Obligations.SaveAndWake : Prop :=
  (∀ s : State, s.vsupOk = true → s.mn.phase ≠ .saving → exec .saveArm s = .next { s with pw.saveArmed := true }) ∧
  (∀ (mv : Nat) (s : State), s.mn.phase = .run → s.pw.saveArmed = false → s.pw.saveArmJudged = false → mv < 2 ^ 32 →
    Completes (.saveNotArmed mv) s fun t =>
      t.pw.saveArmJudged = true ∧ t.now = max s.now (s.mn.readyAt + 1000000) ∧ Logged t evSaveNotArmed 0 mv) ∧
  (∀ (us : Nat) (s : State), s.pw.saveArmed = true → s.vsupOk = true → s.mn.phase ≠ .off → s.mn.phase ≠ .saving →
    Completes (.powerFailSave us) s fun t =>
      t.mn.phase = .saving ∧ t.per.running = false ∧ t.pr.solve = none ∧ t.pw.saveArmed = false ∧ t.flashA = s.flashA ∧
      t.flashB = s.flashB ∧
      (s.saveWrites = true → t.pw.saved = true ∧ t.pw.saveLastUs = min us 65535 ∧ s.now + us ≤ t.now ∧
        t.rs = (s.powerSave us).rs) ∧
      (s.saveWrites = false → t.rs = s.rs)) ∧
  (∀ s : State, s.mn.phase = .saving → s.pw.vsup = true → Completes .vsupRecovered s fun t =>
    t.mn.restartDue = some 0x20 ∧ t.mn.phase = .held ∧ t.mn.mode = .shunting ∧ t.per.running = false) ∧
  (∀ s : State, s.pw.vsup = true → Completes .vsupLost s fun t =>
    t.pw.vsup = false ∧ t.mn.phase = .off ∧ t.mn.mode = .terminus ∧ t.mn.lastMode = s.mn.mode ∧ t.flashA = s.flashA ∧
    t.flashB = s.flashB ∧ (s.rs.cur = none → t.rs.cells = s.rs.cells) ∧
    (∀ b : Ball, t.ball b = match b with
      | .ai _ => .highZ
      | .ci => .highZ
      | .vch _ => .off
      | .vhs _ => .off
      | .fan _ => .off
      | .ao _ => .disabled
      | .can _ => .unpowered
      | .hostIo => .highZ
      | .svcTx => .highZ
      | .hostIrqN => .released
      | .kso _ => .highZ
      | .sns => .released
      | .sysShdnN => .released
      | .inputs => .noPull
      | .xtal => .off
      | .vbkp => if s.pw.vbkp then .active else .inactive)) ∧
  (∀ s : State, s.pw.latch = false → s.sbAlive = true → Completes .wakeNLow s fun t =>
    Logged t evWakeIgnored 0 0 ∧ SameOutside [.events, .log, .recs] s t) ∧
  (∀ s : State, s.pw.latch = true → s.pw.vsup = true → s.cfb (sysObj 0x030) Fd.power.ARM_WAKE_N = true →
    strapAt s.st.pins 10 = false → Completes .wakeNLow s fun t =>
      t.pw.latch = false ∧ t.mn.phase = .held ∧ t.mn.cold = true ∧ t.mn.mode = .shunting ∧ t.mn.startCause = 0x04 ∧ t.cfg = []) ∧
  (∀ s : State, s.pw.latch = true → s.pw.vsup = false → s.cfb (sysObj 0x030) Fd.power.ARM_WAKE_N = true →
    exec .wakeNLow s = .next { s with pw.latch := false, pw.wakeKept := some 0x04 }) ∧
  (∀ s : State, s.pw.latch = true → s.pw.vsup = true → s.cfb (sysObj 0x030) Fd.power.ARM_RTC = true →
    strapAt s.st.pins 10 = false → Completes .rtcAlarm s fun t =>
      t.pw.latch = false ∧ t.mn.phase = .held ∧ t.mn.cold = true ∧ t.mn.mode = .shunting ∧ t.mn.startCause = 0x05) ∧
  (∀ s : State, s.pw.latch = true → s.pw.vsup = false → s.cfb (sysObj 0x030) Fd.power.ARM_RTC = true →
    Completes .rtcAlarm s fun t => t.pw = { s.pw with latch := false, wakeKept := some 0x05 } ∧ t.mn = s.mn) ∧
  (∀ (p : Fin 3) (d1 r d2 : Nat) (s : State), s.wakeRx = true → (s.port p.val).armP = true → 1800 ≤ d1 → 1800 ≤ r → 1800 ≤ d2 →
    r + 1800 ≤ 1000000 → strapAt s.st.pins 10 = false → Completes (.wakePattern p d1 r d2) s fun t =>
      t.pw.latch = false ∧ t.mn.phase = .held ∧ t.mn.cold = true ∧ t.mn.startCause = 0x10 + p.val) ∧
  (∀ (p : Fin 3) (d1 r d2 : Nat) (s : State), d1 < 500 ∨ r < 500 ∨ d2 < 500 → exec (.wakePattern p d1 r d2) s = .next s) ∧
  (∀ (p : Fin 3) (d1 r d2 : Nat) (s : State), strapAt s.st.pins 10 = false → Completes (.wakePattern p d1 r d2) s fun t =>
    t = s ∨ t = { s with freeCtr := s.freeCtr + 1 } ∨ (t.pw.latch = false ∧ t.mn.cold = true ∧ t.mn.startCause = 0x10 + p.val)) ∧
  (∀ (p : Fin 3) (f : CanFrame) (s : State), s.wakeRx = true → (s.port p.val).armF = true → s.wakeMatch p.val f = true →
    strapAt s.st.pins 10 = false → Completes (.selectiveWakeFrame p (.classical f)) s fun t =>
      t.pw.latch = false ∧ t.mn.phase = .held ∧ t.mn.cold = true ∧ t.mn.startCause = 0x18 + p.val) ∧
  (∀ (p : Fin 3) (f : CanFrame) (s : State), s.cans.length = 3 → s.wakeRx = true → (s.port p.val).armF = true →
    s.wakeMatch p.val f = false → Completes (.selectiveWakeFrame p (.classical f)) s fun t =>
      (t.port p.val).wakeErr = (s.port p.val).wakeErr - 1 ∧ SameOutside [.cans] s t) ∧
  (∀ (p : Fin 3) (s : State), s.cans.length = 3 → s.wakeRx = true → (s.port p.val).armF = true → (s.port p.val).wakeErr < 31 →
    Completes (.selectiveWakeFrame p .erroneous) s fun t =>
      (t.port p.val).wakeErr = (s.port p.val).wakeErr + 1 ∧ SameOutside [.cans] s t) ∧
  (∀ (p : Fin 3) (s : State), s.cans.length = 3 → s.wakeRx = true → (s.port p.val).armF = true → (s.port p.val).wakeErr = 31 →
    strapAt s.st.pins 10 = false → Completes (.selectiveWakeFrame p .erroneous) s fun t =>
      t.pw.latch = false ∧ t.mn.phase = .held ∧ t.mn.startCause = 0x18 + p.val ∧ (t.port p.val).wakeFec = true) ∧
  (∀ (p : Fin 3) (s : State), exec (.selectiveWakeFrame p .fd) s = .next s)

/-- A stroke from its start to its regulation, and the decay: The head deferred stroke of a group starts when it can
(nothing of the group in pull-in, the budget and the faults allow it): pull-in from now, counted, out of the queue,
with VALVE_DEFER once per period. PULLIN_END of a gang, at its target or at T_PEAK_MS, sets the verdict of Table 9.2
and the gang regulates; a failed verdict is raised; a quad that has reached I_PEAK goes on. PEAK_END of a quad does so
at the end of its peak phase and steps down to hold. A current loop step of a regulating gang, or of a quad or pulse
at its target, takes the supply reading and the centre sample and sets the duty of R244, 0 when the on-time would be
shorter than 2 µs; a quad that steps down keeps its duty 0 until its current has fallen. A decay that ends leaves the
gang, or an unused channel, off; an old gang's channels are then free for the gang configured. (R243, R244, R246,
R247, R249, R252, R253, R254, R256, R267, spec/09_valve_drivers.md Table 9.2) -/
def Obligations.StrokesOfTheValves : Prop :=
  (∀ (g : Fin 4) (mv : Fin 65536) (b : Nat) (gq : Bool) (rest : List (Nat × Bool)) (s : State), Shape s → b < 24 → b / 6 = g.val →
    (s.vgrp g.val).queue = (b, gq) :: rest → (s.setVdrv mv.val).canStroke b = true →
    Completes (.deferredStrokeStart g mv) s fun t =>
      (t.vlv b).st = .pullin ∧ (t.vlv b).startAt = s.now ∧ (t.vlv b).strokes = ((s.vlv b).strokes + 1) % 2 ^ 32 ∧
      (∀ e ∈ (t.vgrp g.val).queue, e.1 ≠ b) ∧ t.pw.vdrvMv = mv.val ∧
      ((s.vlv b).deferLog = false → (s.vlv b).fault ≠ 1 → (s.vlv b).fault ≠ 2 →
        Raised s t prDE evValveDefer b ((s.now - (s.vlv b).deferAt) % 2 ^ 32))) ∧
  (∀ (ch : Fin 24) (s : State), Shape s → s.deOn = true → (s.vlv ch.val).st = .pullin → (s.vlv ch.val).why ≠ .pulse →
    (s.isQuad ch.val = false ∨ (s.vlv ch.val).peakAt = none) → Completes (.pullinEnd ch) s fun t =>
      (t.vlv ch.val).st = .reg ∧ (t.vlv ch.val).verdict = s.judgeStroke ch.val ∧
      (t.vlv ch.val).strokeVerdict = s.judgeStroke ch.val ∧ (t.vlv ch.val).stepDown = false ∧
      t.now = max s.now ((s.vlv ch.val).startAt + (s.vlv ch.val).peakAt.getD (s.tPeakUs ch.val)) ∧
      (failedVerdict (s.judgeStroke ch.val) = true →
        Raised s t prDE evValveUnproven ch.val (sat 16 (t.vlv ch.val).ttp * 65536 + s.judgeStroke ch.val))) ∧
  (∀ (ch : Fin 24) (s : State), (s.vlv ch.val).peakAt.isSome = true → s.isQuad ch.val = true → exec (.pullinEnd ch) s = .next s) ∧
  (∀ (ch : Fin 24) (s : State), Shape s → s.deOn = true → (s.vlv ch.val).st = .pullin → (s.vlv ch.val).why ≠ .pulse →
    s.isQuad ch.val = true → (s.vlv ch.val).peakAt.isSome = true → Completes (.peakEnd ch) s fun t =>
      (t.vlv ch.val).st = .reg ∧ (t.vlv ch.val).stepDown = true ∧ (t.vlv ch.val).verdict = s.judgeStroke ch.val ∧
      t.now = max s.now (s.peakEnd ch.val)) ∧
  (∀ (ch : Fin 24) (mv : Fin 65536) (b : Nat) (s : State), Shape s → s.gangBase ch.val = some b → s.deOn = true →
    ((s.vlv b).st = .reg ∨
      ((s.vlv b).st = .pullin ∧ (s.isQuad b = true ∨ (s.vlv b).why = .pulse) ∧ (s.vlv b).peakAt.isSome = true)) →
    (s.vlv b).stepDown = false → Completes (.currentLoopStep ch mv) s fun t =>
      let o := vlvObj b 0x020
      let hz := fOfNat (s.cf (grpObj (b / 6) 0x020) Fd.gConf.PWM_HZ)
      let e := fSub (s.iCmd b) (t.vlv ch.val).i
      let r := fMul (s.cff o Fd.vConf.R_OHM) (fOfNat (gangLen (s.drvGang b)))
      let d := fAdd (fAdd (fDiv (fMul (s.iCmd b) r) (mAmp mv.val)) (fMul (s.cff o Fd.vConf.KP_CL) e)) (s.vlv ch.val).integ
      let d1 := fMin fOne (fMax fZero d)
      (t.vlv ch.val).duty = (if fLt (fDiv d1 hz) (fOfRat 2 1000000) then fZero else d1) ∧
      (t.vlv ch.val).samples.head? = some (s.now, (t.vlv ch.val).i) ∧ t.pw.vdrvMv = mv.val ∧
      SameOutside [.supply, .sense, .act] s t) ∧
  (∀ (ch : Fin 24) (mv : Fin 65536) (b : Nat) (s : State), Shape s → s.gangBase ch.val = some b → s.deOn = true →
    (s.vlv b).st = .reg → (s.vlv b).stepDown = true → Completes (.currentLoopStep ch mv) s fun t =>
      (fLt (s.vlv b).iset (t.gangNow b) = true → (t.vlv ch.val).duty = fZero ∧ (t.vlv b).stepDown = true) ∧
      (fLt (s.vlv b).iset (t.gangNow b) = false → (t.vlv b).stepDown = false) ∧ SameOutside [.supply, .sense, .act] s t) ∧
  (∀ (ch : Fin 24) (b : Nat) (s : State), Shape s → s.gangBase ch.val = some b → s.deOn = true → (s.vlv b).st = .decay →
    (s.vlv b).drv = none → (s.vlv b).why ≠ .pulse → (∀ p ∈ s.act.proves, p.gang ≠ b ∨ p.started = true) →
    Completes (.decayEnd ch) s fun t =>
      (t.vlv b).st = .off ∧ (t.vlv b).slowDecay = false ∧ SameOutside [.act] s t) ∧
  (∀ (ch : Fin 24) (b : Nat) (s : State), Shape s → s.gangBase ch.val = some b → s.deOn = true → (s.vlv b).st = .decay →
    (s.vlv b).drv.isSome = true → Completes (.decayEnd ch) s fun t => ∀ c ∈ s.gangChans b, (t.vlv c).drv = none) ∧
  (∀ (ch : Fin 24) (s : State), Shape s → s.gangBase ch.val = none → (s.vlv ch.val).st = .decay →
    Completes (.decayEnd ch) s fun t => (t.vlv ch.val).st = .off ∧ SameOutside [.act] s t)

/-- Regulation errors, the 250 ms report and the faults of the valve bank: REG_ERR sets the verdict 7 on a regulating gang
and, when the error is back, the verdict of its stroke again. PROOF_REPORT comes every 250 ms and delivers the current
of every channel, and of every valve group its limit and its current, the limits of the fan groups, and what the die
sensors show. A low-side trip switches the gang off with slow decay, fault 1, and latches it off with fault 5 at the
third trip within 60 s. An open load switches it off with fault 2 and verdict 6 and is retried after 10 s. A high-side
trip switches the group's gangs off with fault 3 and latches the group at the second trip within 10 s; 100 ms later
fault 3 is cleared and a gang that is off, may stroke and has a command starts or waits. The clamp limit of a channel
is set above 0.5 W and cleared below 0.4 W; that of its gang follows the first and the last of its channels, as fault
4 and its end. (R245, R248, R253, R254, R259, R260, R265, R268, R420, spec/09_valve_drivers.md Table 9.5,
spec/09_valve_drivers.md Table 9.2) -/
def Obligations.ProofsAndFaultsOfTheValves : Prop :=
  (∀ (ch : Fin 24) (b : Nat) (s : State), Shape s → s.gangBase ch.val = some b → s.deOn = true → (s.vlv b).st = .reg →
    (s.vlv b).verdict ≠ 7 → Completes (.regErr ch false) s fun t =>
      (t.vlv b).verdict = 7 ∧ (t.vlv b).strokeVerdict = (s.vlv b).strokeVerdict ∧ (t.vlv b).st = .reg ∧
      Raised s t prDE evValveUnproven b (sat 16 (s.vlv b).ttp * 65536 + 7)) ∧
  (∀ (ch : Fin 24) (b : Nat) (s : State), Shape s → s.gangBase ch.val = some b → s.deOn = true → (s.vlv b).st = .reg →
    (s.vlv b).verdict = 7 → Completes (.regErr ch true) s fun t => (t.vlv b).verdict = (s.vlv b).strokeVerdict) ∧
  (∀ s : State, s.deOn = true → Completes .proofReport s fun t =>
    t.act.reportAt = t.now ∧ t.now = max s.now (s.act.reportAt + 250000) ∧
    (∀ c, c < 24 → (c, t.iMeasCh c, false, 0) ∈ t.se.table) ∧
    (∀ g, g < 4 → (48 + g, s.limPct g, false, 0) ∈ t.se.table ∧ (52 + g, s.groupI g, false, 0) ∈ t.se.table) ∧
    (100, s.limPct 4, false, 0) ∈ t.se.table ∧ (101, s.limPct 5, false, 0) ∈ t.se.table ∧
    (∀ n, n < 9 → (s.die n).failed = false → fNotFinite (s.die n).t = false → (128 + n, (s.die n).t, false, 0) ∈ t.se.table) ∧
    (∀ n, n < 9 → (s.die n).failed = true → (128 + n, fZero, true, 0) ∈ t.se.table) ∧
    (137, fOfNat s.band, false, 0) ∈ t.se.table ∧ t.act.valves = s.act.valves) ∧
  (∀ (ch : Fin 24) (b : Nat) (s : State), Shape s → s.gangBase ch.val = some b → ((s.vlv b).st = .pullin ∨ (s.vlv b).st = .reg) →
    let latched := decide (2 ≤ ((s.vlv b).trips.filter fun u => s.now - u < 60000000).length)
    Completes (.lsOcp ch) s fun t =>
      (t.vlv b).fault = (if latched then 5 else 1) ∧ (t.vlv b).st = .decay ∧ (t.vlv b).slowDecay = true ∧
      Raised s t prDE evValveFault b (if latched then 5 else 1)) ∧
  (∀ (ch : Fin 24) (b : Nat) (s : State), Shape s → s.gangBase ch.val = some b → s.deOn = true →
    ((s.vlv b).st = .pullin ∨ (s.vlv b).st = .reg) → Completes (.openLoad ch) s fun t =>
      (t.vlv b).st = .off ∧ (t.vlv b).fault = 2 ∧ (t.vlv b).openAt = s.now ∧ Raised s t prDE evValveFault b 2 ∧
      ((s.vlv b).st = .reg ∨ (s.vlv b).why ≠ .pulse → (t.vlv b).verdict = 6)) ∧
  (∀ (ch : Fin 24) (mv : Fin 65536) (s : State), Shape s → s.mayStroke ch.val = true → (s.vlv ch.val).fault = 2 →
    (s.vlv ch.val).st = .off → fEq (s.vlv ch.val).cmd fZero = false → Completes (.openLoadRetry ch mv) s fun t =>
      ((t.vlv ch.val).st = .pullin ∨ (t.vlv ch.val).st = .defer) ∧ (t.vlv ch.val).openAt = t.now ∧
      t.now = max s.now ((s.vlv ch.val).openAt + 10000000) ∧ t.pw.vdrvMv = mv.val) ∧
  (∀ (g : Fin 4) (s : State), Shape s → (s.vgrp g.val).hsOff = none → (s.vgrp g.val).latched = false → s.powered = true →
    let latch := decide (1 ≤ ((s.vgrp g.val).trips.filter fun u => s.now - u < 10000000).length)
    Completes (.hsOcp g) s fun t =>
      (t.vgrp g.val).hsOff = some s.now ∧ (t.vgrp g.val).latched = latch ∧
      (t.vgrp g.val).hsTrips = min ((s.vgrp g.val).hsTrips + 1) 65535 ∧
      (∀ b ∈ s.groupGangs g.val, (t.vlv b).fault = (if (s.vlv b).fault = 5 then 5 else 3) ∧ (t.vlv b).st ≠ .pullin ∧
        (t.vlv b).st ≠ .reg ∧ (t.vlv b).st ≠ .defer) ∧
      (latch = true → Raised s t prDE evGroupLatched (0x100 + g.val) (t.vgrp g.val).hsTrips) ∧
      (latch = false → Raised s t prDE evGroupHsTrip (0x100 + g.val) 1)) ∧
  (∀ (g : Fin 4) (mv : Fin 65536) (at_ : Nat) (s : State), Shape s → (s.vgrp g.val).hsOff = some at_ →
    (s.vgrp g.val).latched = false → s.deOn = true → Completes (.hsOcpRestart g mv) s fun t =>
      (t.vgrp g.val).hsOff = none ∧ t.now = max s.now (at_ + 100000) ∧ t.pw.vdrvMv = mv.val ∧
      (∀ b ∈ s.groupGangs g.val, (t.vlv b).fault ≠ 3 ∧
        ((s.vlv b).fault = 3 → (s.vlv b).st = .off → fEq (s.vlv b).cmd fZero = false → s.powered = true →
          (s.vgrp g.val).config = false → s.gangFree b = true → (t.vlv b).st = .pullin ∨ (t.vlv b).st = .defer))) ∧
  (∀ (ch : Fin 24) (mw : Fin 65536) (b : Nat) (s : State), Shape s → s.gangBase ch.val = some b → s.deOn = true → 500 < mw.val →
    (s.vlv ch.val).clampLim = false → Completes (.clampLimit ch mw) s fun t =>
      (t.vlv ch.val).clampLim = true ∧ SameOutside [.act, .events] s t ∧
      (s.gangLimited b = true → (t.vlv b).fault = (s.vlv b).fault ∧ Raised s t prDE evClampLimit b mw.val) ∧
      (s.gangLimited b = false → (t.vlv b).fault = (if (s.vlv b).fault = 0 then 4 else (s.vlv b).fault) ∧
        Raised s t prDE evValveFault b 4)) ∧
  (∀ (ch : Fin 24) (mw : Fin 65536) (b : Nat) (s : State), Shape s → s.gangBase ch.val = some b → s.deOn = true → mw.val < 400 →
    (s.vlv ch.val).clampLim = true → Completes (.clampLimit ch mw) s fun t =>
      (t.vlv ch.val).clampLim = false ∧ SameOutside [.act, .events] s t ∧
      ((∀ c ∈ s.gangChans b, c ≠ ch.val → (s.vlv c).clampLim = false) →
        (t.vlv b).fault = (if (s.vlv b).fault = 4 then 0 else (s.vlv b).fault) ∧ Raised s t prDE evValveFaultClear b 4) ∧
      (∀ c ∈ s.gangChans b, c ≠ ch.val → (s.vlv c).clampLim = true → (t.vlv b).fault = (s.vlv b).fault))

/-- The manual driver pulse unit and the ends of VALVE_PROVE: In Depot FIRE starts the pulse of the named gang or fan that
is off and may run at once, or lets it wait with RESULT 4; while BUSY or CFG_ERR is 1, or for a stage of a guard zone,
it has no effect. ABORT ends a running gang pulse with RESULT 2 and its decay, a waiting one at once. PULSE_END ends a
pulse with RESULT 1 after PULSE_US, a gang's with its decay, and leaves a fan that its override line has forced on as
it is. PROVE_STROKE_RETURN, 50 ms after the pull-in, takes a gang without command into its decay, ends that
VALVE_PROVE and answers its request with result 0 for PROVEN or NOT_JUDGED and 1 otherwise; PROVE_DEFER_TIMEOUT
answers with result 2 a request whose stroke has not started 250 ms after it, and leaves the stages alone. (R79, R256,
R262, R264, R271, R19, log 63, spec/09_valve_drivers.md Table 9.6) -/
def Obligations.PulseUnitAndProveStrokes : Prop :=
  (∀ (b : Nat) (s : State), Shape s → s.depotRegs = true → s.deOn = true → s.pulseDenied = false → s.act.pulse.busy = false →
    s.pulseCfgErr = false → s.pulseGang = some b → (s.vlv b).st = .off → s.mayStroke b = true → Completes .fire s fun t =>
      t.act.pulse.busy = true ∧ (t.vlv b).why = .pulse ∧
      (((t.vlv b).st = .pullin ∧ t.act.pulse.startAt = some s.now ∧ t.act.pulse.result = 0) ∨
        ((t.vlv b).st = .defer ∧ t.act.pulse.startAt = none ∧ t.act.pulse.result = 4))) ∧
  (∀ (n : Nat) (s : State), Shape s → s.depotRegs = true → s.deOn = true → s.pulseDenied = false → s.act.pulse.busy = false →
    s.pulseCfgErr = false → s.pulseGang = none → s.pulseFan = some n → (s.fan n).onAt = none → (s.fan n).faultL = false →
    s.powered = true → Completes .fire s fun t =>
      t.act.pulse.busy = true ∧
      (((t.fan n).st = .spinup ∧ t.act.pulse.startAt = some s.now ∧ t.act.pulse.result = 0) ∨
        ((t.fan n).st = .startWait ∧ t.act.pulse.startAt = none ∧ t.act.pulse.result = 4))) ∧
  (∀ s : State, (s.act.pulse.busy = true ∨ s.pulseCfgErr = true ∨ s.pulseDenied = true) → exec .fire s = .next s) ∧
  (∀ (b : Nat) (s : State), Shape s → s.depotRegs = true → s.deOn = true → s.act.pulse.busy = true → s.act.pulse.decaying = false →
    s.pulseGang = some b → (s.vlv b).why = .pulse → (s.vlv b).st = .pullin → Completes .abort s fun t =>
      t.act.pulse.busy = true ∧ t.act.pulse.decaying = true ∧ t.act.pulse.result = 2 ∧ (t.vlv b).st = .decay) ∧
  (∀ (b : Nat) (s : State), Shape s → s.depotRegs = true → s.deOn = true → s.act.pulse.busy = true → s.act.pulse.decaying = false →
    s.pulseGang = some b → (s.vlv b).why = .pulse → (s.vlv b).st = .defer → Completes .abort s fun t =>
      t.act.pulse.busy = false ∧ t.act.pulse.result = 2 ∧ (fEq (s.vlv b).cmd fZero = true → (t.vlv b).st = .off)) ∧
  (∀ (b at_ : Nat) (s : State), Shape s → s.act.pulse.startAt = some at_ → s.deOn = true → s.act.pulse.busy = true →
    s.act.pulse.decaying = false → s.pulseGang = some b → (s.vlv b).why = .pulse → (s.vlv b).st = .pullin →
    Completes .pulseEnd s fun t =>
      t.act.pulse.decaying = true ∧ t.act.pulse.result = 1 ∧ (t.vlv b).st = .decay ∧
      t.now = max s.now (at_ + s.act.pulse.us)) ∧
  (∀ (n at_ : Nat) (s : State), Shape s → s.act.pulse.startAt = some at_ → s.deOn = true → s.act.pulse.busy = true →
    s.act.pulse.decaying = false → s.pulseGang = none → s.pulseFan = some n → Completes .pulseEnd s fun t =>
      t.act.pulse.busy = false ∧ t.act.pulse.result = 1 ∧
      ((s.fan n).line = false → t.act.pulse.verdict = (if s.act.pulse.ttp = 0xFFFF then 6 else 1)) ∧
      ((s.fan n).line = true → t.act.fans = s.act.fans) ∧
      t.now = max s.now (at_ + s.act.pulse.us)) ∧
  (∀ (ch : Fin 24) (p : Prove) (s : State), Shape s → s.deOn = true →
    s.act.proves.find? (fun q => q.gang == ch.val && q.pullEnd.isSome) = some p → Completes (.proveStrokeReturn ch) s fun t =>
      let v := s.vlv ch.val
      t.now = max s.now (p.pullEnd.getD 0 + 50000) ∧ t.act.proves.length + 1 = s.act.proves.length ∧
      (v.st = .reg → v.why = .prove → fEq v.cmd fZero = true → (t.vlv ch.val).st = .decay) ∧
      (∀ n w, n < 8 → p.answered = false → s.host.waiting.find? (fun w => w.kind == .prove ch.val p.since) = some w →
        w.hdr.origin = .host n →
        Answered t n w.hdr stOk 0 ([if (v.strokeVerdict = 1 ∨ v.strokeVerdict = 2) ∧ v.verdict ≠ 8 then 0#8 else 1#8, 0#8, 0#8, 0#8] ++
          leBytes 4 (v.peakAt.getD 0)))) ∧
  (∀ (ch : Fin 24) (p : Prove) (s : State), Shape s →
    s.act.proves.find? (fun q => q.gang == ch.val && !q.started && !q.answered) = some p →
    Completes (.proveDeferTimeout ch) s fun t =>
      t.now = max s.now (p.since + 250000) ∧ t.act.valves = s.act.valves ∧ t.act.fans = s.act.fans ∧
      t.act.proves = changeFirst (fun q => q.gang == ch.val && !q.started && !q.answered) (fun q => { q with answered := true })
        s.act.proves ∧
      (∀ n w, n < 8 → s.host.waiting.find? (fun w => w.kind == .prove ch.val p.since) = some w → w.hdr.origin = .host n →
        Answered t n w.hdr stOk 0 ([2#8, 0#8, 0#8, 0#8] ++ leBytes 4 0)))

/-- A fan's start, its loop, its intervals and its edges: Once the budget leaves room the first waiting fan leaves the
queue and starts: spin-up from now, its kick when KICK_MS is not 0, at full duty unless a fan without tachometer
starts without a kick, with FAN_START_WAIT once per period; a fan that a manual pulse waits to start is held fully on,
whatever KICK_MS, and the pulse begins; a fan with FAULT latched starts in FAULT at the duty held. KICK_END ends the
kick KICK_MS after switch-on, no manual pulse running, and starts the loop with s = 0; a fan without tachometer then
takes the duty n_ref over N_MAX, at least D_MIN, and an LF period begins in DRIVE 2. A fan without tachometer is
RUNNING after 3 s of spin-up. At the end of a SPEED_MS interval with tach periods the speed is 60,000,000 times the
periods over PPR times their sum, and a fan in spin-up or TACH_LOST is then RUNNING; an interval without, outside LF
switching, counts as missed and leaves the speed. An LF period sets the stage on throughout, off, on for its part of
the period, or on for a stretched pulse when one is due. An accepted edge outside a stretched pulse opens a tach
period, or closes one and opens the next. (R264, R269, R270, R271, R272, R273, R274, R276, R279, R281,
spec/10_fans_outputs.md Table 10.3) -/
def Obligations.FansStartRunAndStop : Prop :=
  (∀ (n : Nat) (rest : List Nat) (s : State), Shape s → n < 12 → s.act.fanWait = n :: rest → s.deOn = true → s.powered = true →
    s.fanRoom = true → (s.fan n).faultL = false → Completes .fanStart s fun t =>
      (t.fan n).st = .spinup ∧ (t.fan n).onAt = some s.now ∧ t.act.fanWait = rest ∧
      (s.act.pulse.busy = false → (t.fan n).kick = (s.fc n Fd.fConf.KICK_MS != 0)) ∧
      (s.act.pulse.busy = true → s.pulseFan = some n → s.act.pulse.startAt = none →
        (t.fan n).kick = true ∧ t.act.pulse.startAt = some s.now ∧ t.act.pulse.result = 0) ∧
      (s.fc n Fd.fConf.KICK_MS ≠ 0 → (t.fan n).stageOn = true) ∧
      ((s.fc n Fd.fConf.KICK_MS ≠ 0 ∨ s.ppr n ≠ 0) → (t.fan n).d = fOne) ∧
      ((s.fan n).waitLog = false → Raised s t prDE evFanStartWait n ((s.now - (s.fan n).waitAt) / 1000))) ∧
  (∀ (n : Nat) (rest : List Nat) (s : State), Shape s → n < 12 → s.act.fanWait = n :: rest → s.deOn = true → s.powered = true →
    s.fanRoom = true → (s.fan n).faultL = true → Completes .fanStart s fun t =>
      (t.fan n).st = .fault ∧ (t.fan n).onAt = some s.now ∧ (t.fan n).d = (s.fan n).dHeld ∧ t.act.fanWait = rest) ∧
  (∀ (n : Fin 12) (at_ : Nat) (s : State), Shape s → (s.fan n.val).onAt = some at_ → (s.fan n.val).kick = true → s.deOn = true →
    s.pulseOn n.val = false →
    Completes (.kickEnd n) s fun t =>
      (t.fan n.val).kick = false ∧ (t.fan n.val).loopAt = t.now ∧ (t.fan n.val).s = fZero ∧
      t.now = max s.now (at_ + s.fc n.val Fd.fConf.KICK_MS * 1000) ∧ (s.fanDrive n.val = 2 → (t.fan n.val).lfAt = t.now) ∧
      (s.ppr n.val = 0 → 2 ≤ s.fanDrive n.val → (t.fan n.val).d =
        fMin fOne (fMax (pctF (s.fc n.val Fd.fConf.D_MIN_PCT)) (fDiv (t.fan n.val).nRef (s.fanMax n.val))))) ∧
  (∀ (n : Fin 12) (s : State), Shape s → s.fanJudged n.val = true → (s.fan n.val).st = .spinup → s.ppr n.val = 0 →
    Completes (.fanSpinupEnd n) s fun t =>
      (t.fan n.val).st = .running ∧ (t.fan n.val).runSince = some t.now ∧ t.now = max s.now ((s.fan n.val).spinAt + 3000000)) ∧
  (∀ (n : Fin 12) (s : State), Shape s → s.deOn = true → s.fanDrive n.val ≠ 0 → (s.fan n.val).onAt.isSome = true →
    (s.fan n.val).line = false → (s.fan n.val).periods ≠ 0 → s.ppr n.val ≠ 0 → Completes (.fanSpeedSample n) s fun t =>
      (t.fan n.val).n = fOfRat ((60000000 * (s.fan n.val).periods : Nat) : Int) (s.ppr n.val * (s.fan n.val).periodSum) ∧
      (t.fan n.val).missed = 0 ∧ (t.fan n.val).periods = 0 ∧ (t.fan n.val).periodSum = 0 ∧ (t.fan n.val).ivAt = t.now ∧
      t.now = max s.now ((s.fan n.val).ivAt + s.fc n.val Fd.fConf.SPEED_MS * 1000) ∧
      (((s.fan n.val).st = .spinup ∨ (s.fan n.val).st = .tachLost) → (t.fan n.val).st = .running)) ∧
  (∀ (n : Fin 12) (s : State), Shape s → s.deOn = true → s.fanDrive n.val ≠ 0 → s.fanDrive n.val ≠ 2 →
    (s.fan n.val).onAt.isSome = true → (s.fan n.val).line = false → (s.fan n.val).periods = 0 →
    Completes (.fanSpeedSample n) s fun t =>
      (t.fan n.val).missed = (s.fan n.val).missed + 1 ∧ (t.fan n.val).n = (s.fan n.val).n ∧ (t.fan n.val).ivAt = t.now) ∧
  (∀ (n : Fin 12) (s : State), Shape s → s.deOn = true → s.fanDrive n.val = 2 → (s.fan n.val).onAt.isSome = true →
    (s.fan n.val).kick = false → (s.fan n.val).line = false → (s.fan n.val).stretch = none →
    let p := 1000000 / s.fc n.val Fd.fConf.LF_HZ
    let on := lfOn (s.fc n.val Fd.fConf.LF_HZ) (s.fan n.val).d
    Completes (.lfPeriod n) s fun t =>
      (t.fan n.val).lfAt = t.now ∧ t.now = max s.now ((s.fan n.val).lfAt + p) ∧
      (on = p → (t.fan n.val).stageOn = true ∧ (t.fan n.val).pulseEnd = none) ∧
      (on = 0 → 0 < p → (t.fan n.val).stageOn = false) ∧
      (on ≠ p → on ≠ 0 → (s.fan n.val).excess = 0 → (s.fan n.val).stretchDue = false →
        (t.fan n.val).stageOn = true ∧ (t.fan n.val).pulseEnd = some (t.now + on)) ∧
      (on ≠ p → on ≠ 0 → (s.fan n.val).excess = 0 → (s.fan n.val).stretchDue = true →
        (t.fan n.val).stageOn = true ∧ (t.fan n.val).pulseEnd = none ∧ (t.fan n.val).stretch = some 0 ∧
        (t.fan n.val).nominal = on)) ∧
  (∀ (n : Fin 12) (s : State), Shape s → s.deOn = true → s.ppr n.val ≠ 0 → s.fanOn n.val = true → (s.fan n.val).stretch = none →
    (s.fan n.val).pulseAt + s.fc n.val Fd.fConf.TACH_BLANK_US ≤ s.now → Completes (.tachEdge n) s fun t =>
      (t.fan n.val).edgeAt = some s.now ∧ (t.fan n.val).edgeSeen = true ∧
      ((s.fan n.val).edgeAt = none → (t.fan n.val).periods = (s.fan n.val).periods) ∧
      (∀ u, (s.fan n.val).edgeAt = some u → (t.fan n.val).periods = (s.fan n.val).periods + 1 ∧
        (t.fan n.val).periodSum = (s.fan n.val).periodSum + (s.now - u)) ∧ SameOutside [.act] s t)

/-- The stalls, retries and faults of a fan: A locked rotor, no edge within 3 s, and a judgement of Table 10.4 stall a
native fan with causes 1, 2 and 3: the supply off and FAN_STALL raised; the stall is counted, and the wait of a locked
rotor doubles from 5 s to 300 s. After its wait the fan starts again, or waits for its start, with RETRIES counted; 60
s of RUNNING, without an override line, reset back-off and retries. In Profile L a speed below the limit for 5 s is a
latched FAULT with the loop open at the duty held. An open load and a lost tachometer leave the stage on; a current
below OPEN_MA for 500 ms is an open load, and twice OPEN_MA for 1 s ends it with a new spin-up. A trip switches the
stage off, is counted and raised, and latches it off at the third within 60 s; otherwise it starts again, or waits for
its start, after 5 s, into FAULT while that is latched. (R279, R280, R281, R282, R283, spec/10_fans_outputs.md Table
10.4) -/
def Obligations.FanStallsAndFaults : Prop :=
  (∀ (n : Fin 12) (at_ : Nat) (s : State), Shape s → (s.fan n.val).lrSince = some at_ → s.native = true →
    s.fanJudged n.val = true → (s.fan n.val).st = .spinup → at_ + 500000 ≤ (s.fan n.val).spinAt + 3000000 →
    Completes (.fanLockedRotor n) s fun t =>
      (t.fan n.val).st = .stall ∧ (t.fan n.val).onAt = none ∧ (t.fan n.val).stallCause = 1 ∧
      (t.fan n.val).stalls = min ((s.fan n.val).stalls + 1) 65535 ∧ (t.fan n.val).backoff = (s.fan n.val).backoff + 1 ∧
      (t.fan n.val).waitEnd = t.now + min (5 * 2 ^ (min ((s.fan n.val).backoff + 1) 7 - 1)) 300 * 1000000 ∧
      t.now = max s.now (at_ + 500000) ∧ Raised s t prDE evFanStall n.val (sat 16 (s.fan n.val).retries * 65536 + 1)) ∧
  (∀ (n : Fin 12) (s : State), Shape s → s.native = true → s.fanJudged n.val = true → (s.fan n.val).st = .spinup →
    s.ppr n.val ≠ 0 → (s.fan n.val).edgeSeen = false → Completes (.fanNoEdge n) s fun t =>
      (t.fan n.val).st = .stall ∧ (t.fan n.val).onAt = none ∧ (t.fan n.val).stallCause = 2 ∧
      (t.fan n.val).stalls = min ((s.fan n.val).stalls + 1) 65535 ∧
      t.now = max s.now ((s.fan n.val).spinAt + 3000000) ∧
      Raised s t prDE evFanStall n.val (sat 16 (s.fan n.val).retries * 65536 + 2)) ∧
  (∀ (n : Fin 12) (s : State), Shape s → s.fanJudged n.val = true → (s.fan n.val).faultL = false → s.native = true →
    s.ppr n.val ≠ 0 → 2 ≤ (s.fan n.val).missed → ((s.fan n.val).st = .running ∨ (s.fan n.val).st = .tachLost) →
    (∀ u, (s.fan n.val).openSince = some u → s.now < u + 500000) → Completes (.fanTachJudge n) s fun t =>
      (s.tachVerdict n.val = .stall → (t.fan n.val).st = .stall ∧ (t.fan n.val).stallCause = 3 ∧ (t.fan n.val).onAt = none ∧
        (t.fan n.val).stalls = min ((s.fan n.val).stalls + 1) 65535 ∧
        Raised s t prDE evFanStall n.val (sat 16 (s.fan n.val).retries * 65536 + 3)) ∧
      (s.tachVerdict n.val = .openLoad → (t.fan n.val).st = .openLoad ∧ (t.fan n.val).onAt = (s.fan n.val).onAt) ∧
      (s.tachVerdict n.val = .lost → (t.fan n.val).st = .tachLost ∧ (t.fan n.val).sigDev = false ∧
        (t.fan n.val).onAt = (s.fan n.val).onAt) ∧
      (s.tachVerdict n.val = .dev → (t.fan n.val).st = .tachLost ∧ (t.fan n.val).sigDev = true ∧
        (t.fan n.val).onAt = (s.fan n.val).onAt)) ∧
  (∀ (n : Fin 12) (u : Nat) (s : State), Shape s → s.fanJudged n.val = true → (s.fan n.val).faultL = false →
    (s.fan n.val).openSince = some u → (s.fan n.val).st ≠ .openLoad → (u + 500000 ≤ s.now ∨ (s.fan n.val).missed < 2) →
    Completes (.fanTachJudge n) s fun t =>
      (t.fan n.val).st = .openLoad ∧ (t.fan n.val).onAt = (s.fan n.val).onAt ∧ t.now = max s.now (u + 500000) ∧
      Raised s t prDE evFanOpenLoad n.val (sat 16 (toMa (s.fan n.val).iOn))) ∧
  (∀ (n : Fin 12) (s : State), Shape s → s.deOn = true → s.powered = true → s.native = true → (s.fan n.val).st = .stall →
    (s.fan n.val).line = false → fEq (s.fan n.val).target fZero = false → s.fanDrive n.val ≠ 0 → (s.fan n.val).faultL = false →
    Completes (.fanRetry n) s fun t =>
      ((t.fan n.val).st = .spinup ∨ (t.fan n.val).st = .startWait) ∧ t.now = max s.now (s.fan n.val).waitEnd ∧
      (t.fan n.val).retries = min ((s.fan n.val).retries + 1) 65535 ∧
      Raised s t prDE evFanRetry n.val ((t.fan n.val).retries * 65536 + (s.fan n.val).stallWait)) ∧
  (∀ (n : Fin 12) (at_ : Nat) (s : State), Shape s → (s.fan n.val).runSince = some at_ → s.deOn = true →
    (s.fan n.val).st = .running → (s.fan n.val).line = false → Completes (.fanBackoffReset n) s fun t =>
      (t.fan n.val).backoff = 0 ∧ (t.fan n.val).retries = 0 ∧ t.now = max s.now (at_ + 60000000) ∧
      SameOutside [.now, .act] s t) ∧
  (∀ (n : Fin 12) (at_ : Nat) (s : State), Shape s → (s.fan n.val).slowSince = some at_ → s.native = false →
    s.fanJudged n.val = true → s.ppr n.val ≠ 0 → (s.fan n.val).faultL = false → fEq (s.fan n.val).target fZero = false →
    Completes (.fanFault n) s fun t =>
      (t.fan n.val).st = .fault ∧ (t.fan n.val).faultL = true ∧ (t.fan n.val).loopOpen = true ∧
      (t.fan n.val).dHeld = (s.fan n.val).d ∧ (t.fan n.val).d = (s.fan n.val).d ∧ t.now = max s.now (at_ + 5000000) ∧
      (t.fan n.val).onAt = (s.fan n.val).onAt ∧ Raised s t prDE evFanFault n.val (fNatScaled 1 (s.fan n.val).n)) ∧
  (∀ (n : Fin 12) (at_ : Nat) (s : State), Shape s → (s.fan n.val).backSince = some at_ → s.fanJudged n.val = true →
    (s.fan n.val).st = .openLoad → Completes (.fanOpenLoadEnd n) s fun t =>
      (t.fan n.val).st = .spinup ∧ (t.fan n.val).spinAt = t.now ∧ (t.fan n.val).onAt = (s.fan n.val).onAt ∧
      t.now = max s.now (at_ + 1000000) ∧ SameOutside [.now, .act, .sense, .events] s t) ∧
  (∀ (n : Fin 12) (s : State), Shape s → (s.fan n.val).onAt.isSome = true →
    let trips := ((s.fan n.val).trips.filter fun u => s.now - u < 60000000).length + 1
    Completes (.fanOcp n) s fun t =>
      (t.fan n.val).st = (if 3 ≤ trips then .ocpLatched else .ocp) ∧ (t.fan n.val).onAt = none ∧
      (t.fan n.val).ocpTrips = min ((s.fan n.val).ocpTrips + 1) 65535 ∧
      (trips < 3 → Raised s t prDE evFanOcp n.val trips) ∧
      (3 ≤ trips → Raised s t prDE evFanOcpLatched n.val (t.fan n.val).ocpTrips)) ∧
  (∀ (n : Fin 12) (at_ : Nat) (rest : List Nat) (s : State), Shape s → (s.fan n.val).trips = at_ :: rest → s.deOn = true →
    s.powered = true → (s.fan n.val).st = .ocp → (s.fan n.val).line = false → fEq (s.fan n.val).target fZero = false →
    s.fanDrive n.val ≠ 0 → Completes (.fanOcpRestart n) s fun t =>
      t.now = max s.now (at_ + 5000000) ∧
      ((s.fan n.val).faultL = false → (t.fan n.val).st = .spinup ∨ (t.fan n.val).st = .startWait) ∧
      ((s.fan n.val).faultL = true → (t.fan n.val).st = .fault ∨ (t.fan n.val).st = .startWait))

/-- Forced full speed, the critical comparator and the analog outputs: When a control point has failed for CTRL_FAIL_S, SB
sends the forced full speed to DE once and logs it; when the point is GOOD again it sends its end. CRIT_TRIP of the
armed comparator is counted, in its record at once or at the next ready (log 68), and DE, while it runs, logs it and
raises every fan with CRIT_FULL that nothing else holds to full speed, or to its cap; CRIT_CLEAR is logged and ends
every such force; without DE neither changes a stage. Each ms an output takes its step towards its command, at once
without slew, and its readback is kept, with the time since which it differs after slewing and the time since which it
has been within FAULT_MV of what is driven, slewing or not; AO_FAULT comes FAULT_MS after the readbacks began to
differ and AO_FAULT_CLEAR FAULT_MS after they came back within the limit: each sets or clears the fault and is raised.
(R275, R286, R287, R288, R289, R291, R392, R284, log 68, spec/10_fans_outputs.md Table 10.3) -/
def Obligations.ForcedSpeedAndAnalogOutputs : Prop :=
  (∀ (n : Fin 12) (at_ p : Nat) (s : State), (s.fan n.val).ctrlBad = some at_ → s.ctrlPt n.val = some p → Shape s →
    s.zonesRun = true → (s.fan n.val).ctrlSent = false → s.fanDrive n.val ≠ 0 →
    at_ + s.fc n.val Fd.fConf.CTRL_FAIL_S * 1000000 ≤ s.per.t0 → Completes (.fanCtrlFail n) s fun t =>
      (t.fan n.val).ctrlSent = true ∧ Posted t 1 { stage := .fan n, act := .force true } ∧
      Logged t evFanForcedFull n.val (0x100 + p)) ∧
  (∀ (n : Fin 12) (p : Nat) (s : State), s.ctrlPt n.val = some p → Shape s → s.zonesRun = true → (s.fan n.val).ctrlSent = true →
    (s.fan n.val).ctrlGood = true → Completes (.fanForceEnd n) s fun t =>
      (t.fan n.val).ctrlSent = false ∧ (t.fan n.val).ctrlBad = none ∧ Posted t 1 { stage := .fan n, act := .force false } ∧
      Logged t evFanForceEnd n.val 0x100) ∧
  (∀ s : State, Shape s → s.act.critArmed = true → s.act.critOn = false → s.vsupOk = true → Completes .critTrip s fun t =>
    t.act.critOn = true ∧ t.act.critTrips = min (s.act.critTrips + 1) 65535 ∧
    (s.deOn = true → t.act.critSeen = true) ∧
    (s.deOn = true → s.act.critSeen = false → (∀ n, n < 12 → s.fc n Fd.fConf.CRIT_FULL ≠ 1 ∧ (s.fan n).forceCrit = false) →
      Raised s t prDE evCritTrip 0 s.act.critC) ∧
    (s.deOn = false → s.mn.phase ≠ .run → SameOutside [.act] s t ∧ t.act.critDue = s.act.critDue + 1) ∧
    (s.deOn = false → s.mn.phase = .run → t.rs = (s.count 6).rs ∧ SameOutside [.act, .recs, .events] s t) ∧
    (s.deOn = true → ∀ n : Fin 12, s.fanDrive n.val ≠ 0 → s.fc n.val Fd.fConf.CRIT_FULL = 1 →
      (t.fan n.val).forceCrit = true ∧
      ((s.fan n.val).forceCrit = false → (s.fan n.val).line = false → (s.fan n.val).guard = none → s.fanDirect n.val = false →
        (t.fan n.val).target = (let cap := s.fanCap n.val (s.fanF n.val); if fLt cap (s.fanMax n.val) then cap else s.fanMax n.val)))) ∧
  (∀ s : State, Shape s → s.act.critOn = true → Completes .critClear s fun t =>
    t.act.critOn = false ∧ (s.deOn = true → ∀ n, n < 12 → (t.fan n).forceCrit = false) ∧
    (s.deOn = true → t.act.critSeen = false) ∧
    (s.deOn = true → s.act.critSeen = true → (∀ n, n < 12 → (s.fan n).forceCrit = false) →
      Raised s t prDE evCritClear 0 s.act.critC) ∧
    (s.deOn = false → SameOutside [.act] s t)) ∧
  (∀ (n : Fin 16) (mv : Fin 65536) (s : State), Shape s → s.deOn = true → Completes (.aoSlewStep n mv) s fun t =>
    let slew := s.cff (aoObj n.val 0x020) Fd.aConf.SLEW_V_S
    let y := s.ao n.val
    (t.ao n.val).meas = mAmp mv.val ∧ (t.ao n.val).slewAt = t.now ∧ y.slewAt + 1000 ≤ t.now ∧ (t.ao n.val).cmd = y.cmd ∧
    ((t.ao n.val).devSince.isSome = t.aoDiffers n.val mv.val) ∧
    (y.devSince.isSome = true → (t.ao n.val).devSince.isSome = true → (t.ao n.val).devSince = y.devSince) ∧
    ((t.ao n.val).okSince.isNone = t.aoOff n.val mv.val) ∧
    (y.okSince.isSome = true → (t.ao n.val).okSince.isSome = true → (t.ao n.val).okSince = y.okSince) ∧
    (t.ao n.val).v = (if fEq slew fZero || (s.aoLink n.val).isSome then y.cmd
      else if fLt y.v y.cmd then fMin y.cmd (fAdd y.v (fDiv slew (fOfNat 1000)))
      else fMax y.cmd (fSub y.v (fDiv slew (fOfNat 1000)))) ∧
    (∀ k, k ≠ n.val → t.ao k = s.ao k)) ∧
  (∀ (n : Fin 16) (mv : Fin 65536) (at_ : Nat) (s : State), Shape s → s.deOn = true → (s.ao n.val).fault = false →
    (s.ao n.val).devSince = some at_ → s.aoDiffers n.val mv.val = true → Completes (.aoFault n mv) s fun t =>
      t.now = max s.now (at_ + s.cf (aoObj n.val 0x020) Fd.aConf.FAULT_MS * 1000) ∧
      (t.ao n.val).fault = true ∧ (t.ao n.val).meas = mAmp mv.val ∧
      (t.ao n.val).faults = min ((s.ao n.val).faults + 1) 65535 ∧ Raised s t prDE evAoFault n.val mv.val) ∧
  (∀ (n : Fin 16) (mv : Fin 65536) (at_ : Nat) (s : State), Shape s → s.deOn = true → (s.ao n.val).fault = true →
    (s.ao n.val).okSince = some at_ → s.aoOff n.val mv.val = false → Completes (.aoFaultClear n mv) s fun t =>
      t.now = max s.now (at_ + s.cf (aoObj n.val 0x020) Fd.aConf.FAULT_MS * 1000) ∧
      (t.ao n.val).fault = false ∧ (t.ao n.val).meas = mAmp mv.val ∧ Raised s t prDE evAoFaultClear n.val mv.val)

/-- DE executes one entry of Q-CMD: DE_CMD_EXECUTE takes the oldest entry of the highest ring of Q-CMD; past tc it takes
only an entry of Guard's ring and otherwise changes nothing, and before tc an empty queue counts an underrun (R43;
that a take of an empty queue is one, log 14). A poisoned entry is not executed: it is counted and one event is
raised. A value for a stage that Guard has not taken and no direct command holds becomes the command of that fan, of
the valve gang, or of an analog output without slew or link, which is driven at once. Guard's take and release set and
clear the stage's Guard mark; the control-failure force sets and clears the fan's, and is discarded for a fan that
Guard has; a clear of a latched FAULT ends it and raises FAN_CLEARED, and one for a fan that Guard has clears nothing.
A value for a stage that Guard has taken, or of a zone or the plan for a stage under direct command, is discarded.
(R29, R39, R42, R43, R138, R140, R275, R282, R289, R405, R459, log 14) -/
def Obligations.DeCommandsReachTheStages : Prop :=
  (∀ (mv : Fin 65536) (e : QE CmdVal) (q : List (List (QE CmdVal))) (s : State), Shape s → s.deOn = true → s.act.cmdWait = [] →
    (s.pastTc = false ∨ s.act.qCmd.getD 0 [] ≠ []) → popRings s.act.qCmd = some (e, q) → Completes (.deCmdExecute mv) s fun t =>
      t.act.qCmd = q ∧ t.pw.vdrvMv = mv.val ∧
      (e.bad = true → t.act.fans = s.act.fans ∧ t.act.valves = s.act.valves ∧ t.act.aos = s.act.aos ∧
        (t.qst.getD 2 {}).poison = min ((s.qst.getD 2 {}).poison + 1) 65535 ∧ Raised s t prDE evQueuePoison 0 2) ∧
      (e.bad = false →
        (∀ v, e.val.act = .set v → s.guardHas e.val.stage = false → (e.prod = 1 ∨ s.directOf e.val.stage = none) →
          (∀ n, e.val.stage = .fan n → (t.fan n.val).cmd = v) ∧
          (∀ n, e.val.stage = .ao n → s.aoLink n.val = none →
            fEq (s.cff (aoObj n.val 0x020) Fd.aConf.SLEW_V_S) fZero = true → (t.ao n.val).cmd = v ∧ (t.ao n.val).v = v) ∧
          (∀ ch, e.val.stage = .valve ch → s.gang ch.val ≠ 0 → s.cfgMember ch.val = false → (t.vlv ch.val).cmd = v)) ∧
        (∀ v, e.val.act = .set v → (s.guardHas e.val.stage = true ∨ (e.prod ≠ 1 ∧ (s.directOf e.val.stage).isSome = true)) →
          t.act.fans = s.act.fans ∧ t.act.valves = s.act.valves ∧ t.act.aos = s.act.aos) ∧
        (∀ pct, e.val.act = .take pct → t.guardHas e.val.stage = true) ∧
        (e.val.act = .release → t.guardHas e.val.stage = false) ∧
        (∀ on n, e.val.act = .force on → e.val.stage = .fan n → (on = false ∨ s.guardHas e.val.stage = false) →
          (t.fan n.val).forceCtrl = on) ∧
        (∀ n, e.val.act = .force true → e.val.stage = .fan n → s.guardHas e.val.stage = true → t.act.fans = s.act.fans) ∧
        (∀ n, e.val.act = .clear → e.val.stage = .fan n → (s.fan n.val).guard = none → (s.fan n.val).faultL = true →
          (t.fan n.val).faultL = false ∧ Raised s t prDE evFanCleared n.val 1) ∧
        (∀ n, e.val.act = .clear → e.val.stage = .fan n → (s.fan n.val).guard.isSome = true → t.act.fans = s.act.fans) ∧
        (e.val.act = .safe → s.guardHas e.val.stage = true →
          t.act.fans = s.act.fans ∧ t.act.valves = s.act.valves ∧ t.act.aos = s.act.aos))) ∧
  (∀ (mv : Fin 65536) (s : State), Shape s → s.deOn = true → s.pastTc = false → popRings s.act.qCmd = none →
    Completes (.deCmdExecute mv) s fun t =>
      (t.qst.getD 2 {}).underrun = min ((s.qst.getD 2 {}).underrun + 1) 65535 ∧ t.act = s.act ∧ t.pw.vdrvMv = mv.val) ∧
  (∀ (mv : Fin 65536) (s : State), s.pastTc = true → s.act.qCmd.getD 0 [] = [] → exec (.deCmdExecute mv) s = .next s)

/-- Key matrix, encoders, and what SB does for a key and for an encoder: A scan of a matrix with diodes and no mark starts
SCAN_MS or more after the scan before, takes SETTLE_US and 2 µs for each output, and changes the debounced state of
exactly those of its keys whose raw level has now differed in DEBOUNCE_N scans in a row. A key that has been down for
STUCK_S is marked and KEY_STUCK raised. What an encoder's command carries is the model's convention (log 43). A change
of one encoder line, A or B, that the line holds for FILT_US counts by the decode mode, also where an earlier command
told of a part of that time, a change of both at once is an error, raised once per period, and one not held so long
leaves the decoder as it is. VELOCITY is the count difference over VEL_MS; ENC_STEPS carries the net steps and
restarts them at 0. In Platform and Mainline SB executes the function of a key whose turn in the order of requests has
come: a step of the offset within OFFSET_MAX, which ends the offset with OVERRIDE_END where it reaches 0, a selection
of an enabled zone, a move of the selection, a forced state for OVR_PANEL_S, each write from the source 0xFFFF with
OVERRIDE_SET, the end of both overrides, or nothing but PANEL_REFUSED for a zone that is not enabled. A step of an
encoder moves the selection by one enabled zone; n steps change the offset of the zone by n times STEP_K within
OFFSET_MAX, to its end where it reaches 0, or are refused for a zone that is not enabled. (R298, R299, R303, R305,
R306, R307, R308, R309, R205, R146, log 43, spec/11_panel.md Table 11.2) -/
def Obligations.ThePanelAndItsActions : Prop :=
  (∀ (raw : BitVec 64) (s : State), s.panelOn = true → s.pnCf Fd.pnConf.ENABLE ≠ 0 → s.pnCf Fd.pnConf.DIODE ≠ 0 →
    s.pn.frozenO = 0 → s.pn.frozenI = 0 → Completes (.keyScan raw) s fun t =>
      (∃ at_, t.pn.scanAt = some at_ ∧ t.now = at_ + s.pnCf Fd.pnConf.N_KSO * (s.pnCf Fd.pnConf.SETTLE_US + 2) ∧ s.now ≤ at_ ∧
        (∀ u, s.pn.scanAt = some u → u + s.pnCf Fd.pnConf.SCAN_MS * 1000 ≤ at_)) ∧
      (∀ k, k < 64 →
        let down := bitOf raw.toNat k && decide (k / 8 < s.pnCf Fd.pnConf.N_KSO) && decide (k % 8 < s.pnCf Fd.pnConf.N_KSI)
        bitOf t.pn.keys k = (if down ≠ bitOf s.pn.keys k ∧ s.pnCf Fd.pnConf.DEBOUNCE_N ≤ s.pn.cnt.getD k 0 + 1
          then !(bitOf s.pn.keys k) else bitOf s.pn.keys k))) ∧
  (∀ (k : Fin 64) (at_ : Nat) (s : State), Shape s → s.pn.down.getD k.val none = some at_ → s.panelOn = true →
    bitOf s.pn.stuck k.val = false → Completes (.keyStuck k) s fun t =>
      bitOf t.pn.stuck k.val = true ∧ at_ + s.pnCf Fd.pnConf.STUCK_S * 1000000 ≤ t.now ∧
      Raised s t prPeri evKeyStuck 0 k.val ∧ SameOutside [.now, .panel, .events] s t) ∧
  (∀ (e : Fin 4) (a b : Bool) (us : Fin 65536) (s : State), Shape s → s.encOn e.val = true →
    (s.enc e.val).rawA = (s.enc e.val).a → (s.enc e.val).rawB = (s.enc e.val).b → (s.enc e.val).a ≠ a →
    (s.enc e.val).b = b → s.cf (pnObj (e.val + 1) 0x020) Fd.enConf.FILT_US ≤ us.val → Completes (.encTransition e ⟨a, b⟩ us) s fun t =>
      let o := pnObj (e.val + 1) 0x020
      let d0 := encDelta (s.cf o Fd.enConf.DECODE) (s.enc e.val).a (s.enc e.val).b a b
      let d := if s.cfb o Fd.enConf.INVERT then -d0 else d0
      (t.enc e.val).a = a ∧ (t.enc e.val).b = b ∧ (t.enc e.val).count = sgn 32 (unsgn 32 ((s.enc e.val).count + d)) ∧
      (t.enc e.val).errors = (s.enc e.val).errors ∧ t.now = max s.now ((s.enc e.val).at_ + us.val) ∧
      SameOutside [.now, .panel] s t) ∧
  (∀ (e : Fin 4) (a b : Bool) (us : Fin 65536) (s : State), Shape s → s.encOn e.val = true →
    (s.enc e.val).rawA = (s.enc e.val).a → (s.enc e.val).rawB = (s.enc e.val).b → (s.enc e.val).a = a →
    (s.enc e.val).b ≠ b → s.cf (pnObj (e.val + 1) 0x020) Fd.enConf.FILT_US ≤ us.val → Completes (.encTransition e ⟨a, b⟩ us) s fun t =>
      let o := pnObj (e.val + 1) 0x020
      let d0 := encDelta (s.cf o Fd.enConf.DECODE) (s.enc e.val).a (s.enc e.val).b a b
      let d := if s.cfb o Fd.enConf.INVERT then -d0 else d0
      (t.enc e.val).a = a ∧ (t.enc e.val).b = b ∧ (t.enc e.val).count = sgn 32 (unsgn 32 ((s.enc e.val).count + d)) ∧
      (t.enc e.val).errors = (s.enc e.val).errors ∧ t.now = max s.now ((s.enc e.val).at_ + us.val) ∧
      SameOutside [.now, .panel] s t) ∧
  (∀ (e : Fin 4) (a b : Bool) (us : Fin 65536) (s : State), Shape s → s.encOn e.val = true →
    (s.enc e.val).rawA = (s.enc e.val).a → (s.enc e.val).rawB = (s.enc e.val).b →
    us.val < s.cf (pnObj (e.val + 1) 0x020) Fd.enConf.FILT_US → Completes (.encTransition e ⟨a, b⟩ us) s fun t =>
      (t.enc e.val).a = (s.enc e.val).a ∧ (t.enc e.val).b = (s.enc e.val).b ∧ (t.enc e.val).count = (s.enc e.val).count ∧
      (t.enc e.val).errors = (s.enc e.val).errors ∧ (t.enc e.val).rawA = a ∧ (t.enc e.val).rawB = b ∧ SameOutside [.now, .panel] s t) ∧
  (∀ (e : Fin 4) (a b : Bool) (us : Fin 65536) (s : State), Shape s → s.encOn e.val = true → (s.enc e.val).rawA = a →
    (s.enc e.val).rawB = b → (s.enc e.val).a ≠ a → (s.enc e.val).b = b →
    s.cf (pnObj (e.val + 1) 0x020) Fd.enConf.FILT_US ≤ 1000 →
    s.cf (pnObj (e.val + 1) 0x020) Fd.enConf.FILT_US ≤ (s.enc e.val).runA + us.val → Completes (.encTransition e ⟨a, b⟩ us) s fun t =>
      (t.enc e.val).a = a ∧ (t.enc e.val).b = b ∧ (t.enc e.val).errors = (s.enc e.val).errors) ∧
  (∀ (e : Fin 4) (a b : Bool) (us : Fin 65536) (s : State), Shape s → s.encOn e.val = true → (s.enc e.val).rawA = a →
    (s.enc e.val).rawB = b → (s.enc e.val).a = a → (s.enc e.val).b ≠ b →
    s.cf (pnObj (e.val + 1) 0x020) Fd.enConf.FILT_US ≤ 1000 →
    s.cf (pnObj (e.val + 1) 0x020) Fd.enConf.FILT_US ≤ (s.enc e.val).runB + us.val → Completes (.encTransition e ⟨a, b⟩ us) s fun t =>
      (t.enc e.val).a = a ∧ (t.enc e.val).b = b ∧ (t.enc e.val).errors = (s.enc e.val).errors) ∧
  (∀ (e : Fin 4) (a b : Bool) (us : Fin 65536) (s : State), Shape s → s.encOn e.val = true →
    (s.enc e.val).rawA = (s.enc e.val).a → (s.enc e.val).rawB = (s.enc e.val).b → (s.enc e.val).a ≠ a →
    (s.enc e.val).b ≠ b → s.cf (pnObj (e.val + 1) 0x020) Fd.enConf.FILT_US ≤ us.val → Completes (.encTransition e ⟨a, b⟩ us) s fun t =>
      (t.enc e.val).a = a ∧ (t.enc e.val).b = b ∧ (t.enc e.val).count = (s.enc e.val).count ∧
      (t.enc e.val).errors = min ((s.enc e.val).errors + 1) 65535 ∧
      ((s.enc e.val).errLog = false → Raised s t prPeri evEncError (e.val + 1) (t.enc e.val).errors)) ∧
  (∀ (e : Fin 4) (s : State), Shape s → s.encOn e.val = true → Completes (.encVelocity e) s fun t =>
    let ms := s.cf (pnObj (e.val + 1) 0x020) Fd.enConf.VEL_MS
    (t.enc e.val).vel = fOfRat (sgn 32 (unsgn 32 ((s.enc e.val).count - (s.enc e.val).velCount)) * 1000) ms ∧
    (t.enc e.val).velCount = (s.enc e.val).count ∧ (t.enc e.val).velAt = t.now ∧ (s.enc e.val).velAt + ms * 1000 ≤ t.now ∧
    SameOutside [.now, .panel] s t) ∧
  (∀ (e : Fin 4) (s : State), Shape s → s.encOn e.val = true → s.cf (pnObj (e.val + 1) 0x020) Fd.enConf.FUNC ≠ 0 →
    (s.enc e.val).steps ≠ 0 → Completes (.encSteps e) s fun t =>
      (t.enc e.val).steps = 0 ∧ (t.enc e.val).stepsAt = some t.now ∧ (∀ u, (s.enc e.val).stepsAt = some u → u + 50000 ≤ t.now) ∧
      Raised s t prPeri evEncSteps (e.val + 1) (unsgn 32 (s.enc e.val).steps) ∧ SameOutside [.now, .panel, .events] s t) ∧
  (∀ (k : Nat) (s : State), s.host.reqs = [{ origin := .panel (.key k) }] → s.host.replies = [] → s.serves = true →
    s.panelActs = true →
    let z := if (s.keyFunc k).2 = 0xFF then s.pn.sel else (s.keyFunc k).2
    Completes .panelAction s fun t =>
      t.host.reqs = [] ∧
      (((s.keyFunc k).1 = 1 ∨ (s.keyFunc k).1 = 2) → s.zoneOn z = true → z < 32 → s.zs.zn.length = 32 →
        let m := s.cff (znObj z 0x050) Fd.znSp.OFFSET_MAX
        let d := fMul (s.cff (pnObj 0 0x020) Fd.pnConf.STEP_K) (fOfInt 1)
        let v := fClamp (fNeg m) m (fAdd (s.zone z).offset (if (s.keyFunc k).1 = 1 then d else fNeg d))
        (t.zone z).ovrSrc = 0xFFFF ∧ (t.zone z).pres.panel = true ∧
          (fEq v fZero = false → (t.zone z).offset = v ∧ Logged t evOverrideSet z (0xFFFF * 2 ^ 16 + 0xFFFF)) ∧
          (fEq v fZero = true → fEq (t.zone z).offset fZero = true ∧
            (fEq (s.zone z).offset fZero = false → Logged t evOverrideEnd z 1))) ∧
      ((s.keyFunc k).1 = 7 → s.zoneOn z = true → z < 32 → s.zs.zn.length = 32 →
        (t.zone z).ovr = none ∧ fEq (t.zone z).offset fZero = true ∧ (t.zone z).pres.panel = true) ∧
      ((s.keyFunc k).1 = 8 → s.zoneOn z = true → t.pn.sel = z) ∧
      ((s.keyFunc k).1 = 9 → t.pn.sel = s.nextZone s.pn.sel true) ∧
      ((s.keyFunc k).1 = 10 → t.pn.sel = s.nextZone s.pn.sel false) ∧
      (1 ≤ (s.keyFunc k).1 → (s.keyFunc k).1 ≤ 8 → s.zoneOn z = false →
        t.zs = s.zs ∧ t.pn.sel = s.pn.sel ∧ Logged t evPanelRefused 0 (((s.keyFunc k).1 * 256 + z) % 2 ^ 32)) ∧
      (3 ≤ (s.keyFunc k).1 → (s.keyFunc k).1 ≤ 6 → s.zoneOn z = true → z < 32 → s.zs.zn.length = 32 →
        s.pnCf Fd.pnConf.OVR_PANEL_S ≠ 0 →
        (t.zone z).ovr = some ((s.keyFunc k).1 - 3) ∧ (t.zone z).ovrSrc = 0xFFFF ∧ (t.zone z).pres.panel = true ∧
        (t.zone z).ovrEnd = s.now + s.pnCf Fd.pnConf.OVR_PANEL_S * 1000000 ∧
        Logged t evOverrideSet z (0xFFFF * 2 ^ 16 + ((s.keyFunc k).1 - 3)))) ∧
  (∀ (e : Nat) (n : Int) (s : State), s.host.reqs = [{ origin := .panel (.enc e n) }] → s.host.replies = [] → s.serves = true →
    s.panelActs = true →
    let o := pnObj (e + 1) 0x020
    let z := if s.cf o Fd.enConf.ZONE = 0xFF then s.pn.sel else s.cf o Fd.enConf.ZONE
    Completes .encoderAction s fun t =>
      t.host.reqs = [] ∧
      (s.cf o Fd.enConf.FUNC = 1 → s.zoneOn z = false →
        t.zs = s.zs ∧ t.pn.sel = s.pn.sel ∧ Logged t evPanelRefused (e + 1) ((256 + z) % 2 ^ 32)) ∧
      (s.cf o Fd.enConf.FUNC = 2 → n = 1 → t.pn.sel = s.nextZone s.pn.sel true) ∧
      (s.cf o Fd.enConf.FUNC = 2 → n = -1 → t.pn.sel = s.nextZone s.pn.sel false) ∧
      (s.cf o Fd.enConf.FUNC = 1 → s.zoneOn z = true → z < 32 → s.zs.zn.length = 32 →
        let m := s.cff (znObj z 0x050) Fd.znSp.OFFSET_MAX
        let v := fClamp (fNeg m) m (fAdd (s.zone z).offset (fMul (s.cff (pnObj 0 0x020) Fd.pnConf.STEP_K) (fOfInt n)))
        (t.zone z).ovrSrc = 0xFFFF ∧ (t.zone z).pres.panel = true ∧
          (fEq v fZero = false → (t.zone z).offset = v ∧ Logged t evOverrideSet z (0xFFFF * 2 ^ 16 + 0xFFFF)) ∧
          (fEq v fZero = true → fEq (t.zone z).offset fZero = true ∧
            (fEq (s.zone z).offset fZero = false → Logged t evOverrideEnd z 1))))

/-- The sensor sequencer and the capacitance converter: An idle modulator whose calibration is due starts it when it fits
before the cut-off, and keeps it for the next t0 otherwise; with none due, in scan mode 0, it starts the step of its
next due point with the credits of all its outputs reserved, or ends its pass for this period when the step does not
fit. An output of a scanned step enters its ring with its SETTLE mark and its code saturated to 24 bits unless the
point's source has changed since the step's start, and the last output ends the step. In continuous mode an output
whose conversion took a credit enters its ring before the cut-off with the marks still due, one without a credit does
not, and the conversions go on. A calibration that ends is dated, and a trim outside its limits raised. A trigger
starts a pass at once when one can begin, stays pending otherwise, and is counted as lost while another is pending. A
capacitance conversion enters ring P2 at the end of its 4.1 ms. (R154, R157, R158, R159, R160, R162, R163, R164, R177) -/
def Obligations.SequencerStepsAndOutputs : Prop :=
  (∀ (n : Fin 4) (s : State), Shape s → s.seqRuns = true → s.pw.afeLost = false → (s.md n.val).step = none →
    (s.md n.val).cal = false → s.calFirst n.val = true → Completes (.seqStepStart n) s fun t =>
      (s.fits 8100 = true → (t.md n.val).cal = true ∧ (t.md n.val).startAt = s.now ∧ SameOutside [.sense] s t) ∧
      (s.fits 8100 = false → (t.md n.val).cal = false ∧ (t.md n.val).calWait = true)) ∧
  (∀ (n : Fin 4) (p i : Nat) (s : State), Shape s → s.seqRuns = true → s.pw.afeLost = false → (s.md n.val).step = none →
    (s.md n.val).cal = false → s.calFirst n.val = false → (s.md n.val).lane.stopped = false → s.scanMode n.val = 0 →
    (s.md n.val).lane.left ≠ 0 → s.nextDue true (s.sublist n.val) (s.md n.val).lane = some (p, i) →
    Completes (.seqStepStart n) s fun t =>
      (s.fits (stepUs (s.srcCfg p)) = true → s.seqUsed (odrRing (s.srcCfg p)) + marks (s.srcCfg p) + 1 ≤ 16 →
        (t.md n.val).step = some p ∧ (t.md n.val).startAt = s.now ∧ (t.md n.val).outs = 0 ∧
        (t.md n.val).resv = marks (s.srcCfg p) + 1 ∧ (t.md n.val).src = s.srcOf p ∧ (t.md n.val).lane.next = p + 1) ∧
      (s.fits (stepUs (s.srcCfg p)) = false →
        (t.md n.val).lane.stopped = true ∧ (t.md n.val).step = none ∧ t.se.skips = min (s.se.skips + 1) 65535)) ∧
  (∀ (n : Fin 4) (p : Nat) (code : Int) (s : State), Shape s → s.pw.afeLost = false → (s.md n.val).cal = false →
    (s.md n.val).step = some p → (s.md n.val).cont = false → (s.md n.val).ring < 4 → Completes (.sdOutput n code) s fun t =>
      let k := (s.md n.val).outs + 1
      let m := marks (s.md n.val).cfg
      (s.srcOf p = (s.md n.val).src → t.se.qSmp.getD (s.md n.val).ring [] = s.se.qSmp.getD (s.md n.val).ring [] ++
        [{ val := .ai p (if k ≤ m then k else 0) (code24 code), prod := 0 }]) ∧
      (s.srcOf p ≠ (s.md n.val).src → t.se.qSmp = s.se.qSmp) ∧
      t.now = max s.now ((s.md n.val).startAt + 40 + outsUs (s.md n.val).cfg k) ∧
      (k ≤ m → (t.md n.val).step = some p ∧ (t.md n.val).outs = k) ∧
      (m + 1 ≤ k → s.scanMode n.val ≠ 3 → (t.md n.val).step = none ∧ (t.md n.val).resv = 0)) ∧
  (∀ (n : Fin 4) (p : Nat) (code : Int) (s : State), Shape s → s.pw.afeLost = false → (s.md n.val).cal = false →
    (s.md n.val).step = some p → (s.md n.val).cont = true → (s.md n.val).ring < 4 → Completes (.sdOutput n code) s fun t =>
      let u := s.advTo (s.md n.val).contEnd
      t.now = max s.now (s.md n.val).contEnd ∧
      ((s.md n.val).resv = 1 → s.seqRuns = true → u.fits 0 = true → s.srcOf p = (s.md n.val).src →
        t.se.qSmp.getD (s.md n.val).ring [] = s.se.qSmp.getD (s.md n.val).ring [] ++
          [{ val := .ai p (if (s.md n.val).settle = 0 then 0 else marks (s.md n.val).cfg + 1 - (s.md n.val).settle) (code24 code),
             prod := 0 }]) ∧
      ((s.md n.val).resv ≠ 1 → t.se.qSmp = s.se.qSmp) ∧
      (s.scanMode n.val = 2 → s.sublist n.val = [p] → s.srcOf p = (s.md n.val).src → u.calFirst n.val = false →
        (t.md n.val).step = some p ∧ (t.md n.val).settle = (s.md n.val).settle - 1)) ∧
  (∀ (n : Fin 4) (ok gain : Bool) (s : State), Shape s → (s.md n.val).cal = true → s.pw.afeLost = false →
    Completes (.sdCalibration n ok gain) s fun t =>
      (t.md n.val).cal = false ∧ (t.md n.val).calAt = some t.now ∧ t.now = max s.now ((s.md n.val).startAt + 8100) ∧
      (gain = false → Raised s t prPeri evSdCalFail n.val (256 + s.band)) ∧
      (ok = false → gain = true → Raised s t prPeri evSdCalFail n.val s.band) ∧
      (ok = true → gain = true → t.qEvt = s.qEvt ∧ t.prods = s.prods)) ∧
  (∀ (n : Fin 4) (s : State), Shape s → s.mn.phase = .run → s.scanMode n.val = 3 → Completes (.seqTrigger n) s fun t =>
    ((s.md n.val).trig = true → (t.md n.val).trigLost = (s.md n.val).trigLost + 1 ∧
      t.se.trigLost = min (s.se.trigLost + 1) 65535) ∧
    ((s.md n.val).trig = false → s.canPass n.val = false → (t.md n.val).trig = true ∧ t.se.trigLost = s.se.trigLost) ∧
    ((s.md n.val).trig = false → s.canPass n.val = true → ∀ p rest, s.sublist n.val = p :: rest →
      (t.md n.val).pass = true ∧ (t.md n.val).trig = false ∧
      (s.seqUsed (odrRing (s.srcCfg p)) + marks (s.srcCfg p) + 1 ≤ 16 → (t.md n.val).step = some p))) ∧
  (∀ (r : Fin 1048576) (p i : Nat) (s : State), Shape s → s.seqRuns = true → s.pw.afeLost = false → s.se.cap.stopped = false →
    s.se.cap.left ≠ 0 → s.nextDue true s.capList s.se.cap = some (p, i) → s.fitsAt (s.laneStart s.se.cap 4100) 4100 = true →
    s.seqUsed 2 < 16 → Completes (.capConversion r) s fun t =>
      t.se.qSmp.getD 2 [] = s.se.qSmp.getD 2 [] ++ [{ val := .ci p r.val, prod := 0 }] ∧ t.se.cap.next = p + 1 ∧
      t.se.cap.busy = s.laneStart s.se.cap 4100 + 4100 ∧ t.now = max s.now (s.laneStart s.se.cap 4100 + 4100))

/-- The I2C polls, the digital inputs and the fast current-sense pairs: The next due poll of a bus that fits before the
cut-off and has a credit puts its transaction on the bus and its data into ring P3 when it ends, stretched within its
allowance; without acknowledge, with lost arbitration or with a wrong CRC it puts an error entry there and is counted.
A poll aborted 10 clocks before the end of its budget puts an error entry; a device that holds SDA low gets clocks
until it releases the line, at most 9, before the STOP, and is raised. A level of a digital input that has been
sampled GLITCH_MS times in a row takes its state by INVERT, counts the rising and the other edges, and enters ring P3
while a credit is free, the first one even without a change from the low level taken at start (log 21); one sampled
less often changes none of these. A current-sense trigger starts a burst under the pair's configuration, which ends
after its delay and samples, or is counted as lost while one runs; a burst that ends puts its mean and its point into
the data register, its bits below the fraction cut off (log 67), which DE reads at once unless the burst is a centre
sample. (R165, R166, R167, R168, R180, R181, R182, R183, log 21, log 67) -/
def Obligations.BusesInputsAndCurrents : Prop :=
  (∀ (b : Fin 4) (r : I2cRes) (st : Fin 10001) (p i : Nat) (s : State), Shape s → s.seqRuns = true →
    let ln := s.se.i2c.getD b.val {}
    let dur := s.pollRun p b.val + min st.val (s.cf (ptObj p 0x060) Fd.ptI2c.STRETCH_US)
    ln.stopped = false → ln.left ≠ 0 → s.nextDue true (s.i2cList b.val) ln = some (p, i) →
    s.fitsAt (s.laneStart ln dur) (s.pollUs p b.val) = true → held (s.se.qSmp.getD 3 []) 0 < 8 →
    Completes (.i2cPoll b ⟨r, st⟩) s fun t =>
      t.now = max s.now (s.laneStart ln dur + dur) ∧ t.se.i2cTx.getD b.val [] = s.pollSyms p ∧
      (∀ l d, r = .data l → s.i2cData p l = some d → t.se.i2cErr = s.se.i2cErr ∧
        t.se.qSmp.getD 3 [] = s.se.qSmp.getD 3 [] ++ [{ val := .i2c p d false, prod := 0 }]) ∧
      ((∀ l, r = .data l → s.i2cData p l = none) →
        t.se.i2cErr.getD b.val 0 = min (s.se.i2cErr.getD b.val 0 + 1) 255 ∧
        t.se.qSmp.getD 3 [] = s.se.qSmp.getD 3 [] ++ [{ val := .i2c p [] true, prod := 0 }])) ∧
  (∀ (b : Fin 4) (sda : SdaHold) (p i : Nat) (s : State), Shape s → s.seqRuns = true →
    let ln := s.se.i2c.getD b.val {}
    let dur := s.pollAbort p b.val
    ln.stopped = false → ln.left ≠ 0 → s.nextDue true (s.i2cList b.val) ln = some (p, i) →
    s.fitsAt (s.laneStart ln dur) (s.pollUs p b.val) = true → held (s.se.qSmp.getD 3 []) 0 < 8 →
    Completes (.i2cPollAbort b sda) s fun t =>
      t.now = max s.now (s.laneStart ln dur + dur) ∧
      t.se.qSmp.getD 3 [] = s.se.qSmp.getD 3 [] ++ [{ val := .i2c p [] true, prod := 0 }] ∧
      t.se.i2cErr.getD b.val 0 = min (s.se.i2cErr.getD b.val 0 + 1) 255 ∧
      t.se.i2cTx.getD b.val [] = (s.pollSyms p).dropLast ++ (match sda with
        | .free => [.stop]
        | .released n => [.clocks (n.val + 1), .stop]
        | .stuck => [.clocks 9, .stop]) ∧
      (sda ≠ .free → Raised s t prPeri evI2cRecovery b.val (s.cf (ptObj p 0x060) Fd.ptI2c.ADDR))) ∧
  (∀ (i : Fin 16) (level : Bool) (n : Fin 256) (s : State), Shape s → s.mn.phase = .run → n.val ≠ 0 →
    let d := s.se.di.getD i.val {}
    let run := min 255 ((if level == d.raw then d.run else 0) + n.val)
    let st := xor level (bitOf (s.diCfg i.val) 29)
    let glitch := bits (s.diCfg i.val) 28 21
    Completes (.diChange i ⟨level, n⟩) s fun t =>
      t.now = max s.now (d.at_ + 1000 * n.val) ∧ (t.se.di.getD i.val {}).raw = level ∧
      (glitch ≤ run → (d.seen = false ∨ st ≠ d.state) →
        (t.se.di.getD i.val {}).state = st ∧ (t.se.di.getD i.val {}).seen = true ∧
        (t.se.di.getD i.val {}).rise = (if st ≠ d.state ∧ st = true then (d.rise + 1) % 16777216 else d.rise) ∧
        (t.se.di.getD i.val {}).both = (if st ≠ d.state then (d.both + 1) % 16777216 else d.both) ∧
        ((∀ j, j < 16 → (s.se.di.getD j {}).wait = false) → held (s.se.qSmp.getD 3 []) 1 < 8 →
          t.se.qSmp.getD 3 [] = s.se.qSmp.getD 3 [] ++
            [{ val := .di i.val st (t.se.di.getD i.val {}).rise (t.se.di.getD i.val {}).both, prod := 1 }])) ∧
      (run < glitch → (t.se.di.getD i.val {}).state = d.state ∧ (t.se.di.getD i.val {}).rise = d.rise ∧
        (t.se.di.getD i.val {}).both = d.both ∧ t.se.qSmp = s.se.qSmp)) ∧
  (∀ (n pt : Fin 6) (use : SarUse) (delay : Fin 4096) (s : State), Shape s → s.pw.drvLost = false → s.mn.deRun = true →
    Completes (.sarTrigger n pt ⟨use, delay⟩) s fun t =>
      ((s.se.sar.getD n.val {}).busy = none → (t.se.sar.getD n.val {}).busy =
        some { point := pt.val, use := use, avg := s.sarAvg n.val, acq := s.acqClk n.val,
               endAt := s.now + burstClocks8 delay.val (s.acqClk n.val) (s.sarAvg n.val) (s.sarInter n.val) / 640 }) ∧
      ((s.se.sar.getD n.val {}).busy.isSome = true → (t.se.sar.getD n.val {}).busy = (s.se.sar.getD n.val {}).busy ∧
        (t.se.sar.getD n.val {}).lost = min ((s.se.sar.getD n.val {}).lost + 1) 65535) ∧ SameOutside [.sense] s t) ∧
  (∀ (n : Fin 6) (sum : Fin 16777216) (b : SarBurst) (s : State), Shape s → (s.se.sar.getD n.val {}).busy = some b →
    s.deOn = true → Completes (.sarBurstDone n sum) s fun t =>
      (t.se.sar.getD n.val {}).busy = none ∧ (t.se.sar.getD n.val {}).last = some b.point ∧
      (t.se.sar.getD n.val {}).point = b.point ∧ (t.se.sar.getD n.val {}).data = sarData b.avg sum.val ∧
      t.now = max s.now b.endAt ∧
      (b.use = .centre → (t.se.sar.getD n.val {}).full = true ∧
        (t.se.sar.getD n.val {}).ovr = ((s.se.sar.getD n.val {}).ovr || (s.se.sar.getD n.val {}).full)) ∧
      (b.use ≠ .centre → (t.se.sar.getD n.val {}).full = false ∧ (t.se.sar.getD n.val {}).ovr = false))

/-- An entry of Q-SMP on its way to a point: A driver result without error, read from Q-SMP before tc and bound to one
GOOD point with the identity method, within its limits, with no rate limit, no median and no filter, becomes the
point's value: GOOD, accepted now, one sample more. A SETTLE-marked output of a point that is not overdue is only
counted. An error entry of a point whose failures reach FAIL_N makes it BAD with cause 5 unless it is STALE or
overdue, and counts the rejection. From an empty queue an underrun is counted; past tc, and while the engine waits for
a Q-PNT credit, nothing is read. A point whose last accepted value is older than its timeout goes STALE with cause 6,
and its filter restarts; one that a restart had made STALE is published and logged then (log 68). (R29, R42, R43, R44,
R86, R169, R171, R172, R173, R174, R175, log 68) -/
def Obligations.SamplesBecomePoints : Prop :=
  (∀ (k : Fin 2) (p i w : Nat) (v : F32) (e : QE SmpVal) (q : List (List (QE SmpVal))) (s : State), Shape s → s.mn.phase = .run →
    s.mn.mode = .mainline → s.pastTc = false → s.seWaits k.val = false → popRings s.se.qSmp = some (e, q) →
    e.bad = false → e.val = .de i v false w →
    s.entryPoints e.val = [p] → p < 160 → s.cf (ptObj p 0x030) Fd.ptLin.METHOD = 0 → (s.pt p).stat = .good → (s.pt p).cause = 0 →
    (s.pt p).wasBad = false → (s.pt p).restart = false → fLt v (s.cff (ptObj p 0x040) Fd.ptCheck.LO) = false →
    fNotFinite v = false → fLt (s.cff (ptObj p 0x040) Fd.ptCheck.HI) v = false →
    fEq (s.cff (ptObj p 0x040) Fd.ptCheck.RATE_MAX) fZero = true → s.cfb (ptObj p 0x040) Fd.ptCheck.MEDIAN3 = false →
    fEq (s.cff (ptObj p 0x040) Fd.ptCheck.TAU_S) fZero = true → Completes (.sampleProcess k) s fun t =>
      (t.pt p).y = v ∧ (t.pt p).raw = v ∧ (t.pt p).stat = .good ∧ (t.pt p).cause = 0 ∧ (t.pt p).accAt = some s.now ∧
      (t.pt p).samples = ((s.pt p).samples + 1) % 2 ^ 32 ∧ (∀ r, r ≠ p → t.pt r = s.pt r)) ∧
  (∀ (k : Fin 2) (p n : Nat) (code : Int) (e : QE SmpVal) (q : List (List (QE SmpVal))) (s : State), Shape s → s.mn.phase = .run →
    s.mn.mode = .mainline → s.pastTc = false → s.seWaits k.val = false → popRings s.se.qSmp = some (e, q) →
    e.val = .ai p n code → n ≠ 0 →
    s.entryPoints e.val = [p] → p < 160 →
    (s.isStale p = false ∨ ((s.pt p).stat = .stale ∧ (s.pt p).byStart = false)) → Completes (.sampleProcess k) s fun t =>
      t.pt p = { s.pt p with settles := min ((s.pt p).settles + 1) 65535 } ∧ (∀ r, r ≠ p → t.pt r = s.pt r)) ∧
  (∀ (k : Fin 2) (p i w : Nat) (v : F32) (e : QE SmpVal) (q : List (List (QE SmpVal))) (s : State), Shape s → s.mn.phase = .run →
    s.mn.mode = .mainline → s.pastTc = false → s.seWaits k.val = false → popRings s.se.qSmp = some (e, q) → e.bad = false →
    e.val = .de i v true w → s.entryPoints e.val = [p] → p < 160 → s.cf (ptObj p 0x040) Fd.ptCheck.FAIL_N ≤ (s.pt p).failRun + 1 →
    s.isStale p = false → (s.pt p).stat ≠ .stale →
    Completes (.sampleProcess k) s fun t =>
      (t.pt p).stat = .bad ∧ (t.pt p).cause = 5 ∧ (t.pt p).y = (s.pt p).y ∧
      (t.pt p).rejects = min ((s.pt p).rejects + 1) 65535) ∧
  (∀ (k : Fin 2) (s : State), Shape s → s.mn.phase = .run → s.mn.mode = .mainline → s.pastTc = false →
    s.seWaits k.val = false → popRings s.se.qSmp = none →
    Completes (.sampleProcess k) s fun t =>
      (t.qst.getD 0 {}).underrun = min ((s.qst.getD 0 {}).underrun + 1) 65535 ∧ t.se = s.se) ∧
  (∀ (k : Fin 2) (s : State), (s.pastTc = true ∨ s.seWaits k.val = true) → exec (.sampleProcess k) s = .next s) ∧
  (∀ (p : Fin 160) (s : State), Shape s → s.staleTested = true → s.seWaits 0 = false → s.srcType p.val ≠ 0 →
    s.isStale p.val = true → (s.pt p.val).stat ≠ .stale → Completes (.pointStale p) s fun t =>
      (t.pt p.val).stat = .stale ∧ (t.pt p.val).cause = 6 ∧ (t.pt p.val).restart = true ∧ (t.pt p.val).y = (s.pt p.val).y ∧
      Raised s t (prSE 0) evPointStale p.val (sat 24 ((s.now - (s.pt p.val).accAt.getD 0) / 1000))) ∧
  (∀ (p : Fin 160) (s : State), Shape s → s.staleTested = true → s.seWaits 0 = false → s.srcType p.val ≠ 0 →
    s.isStale p.val = true → (s.pt p.val).stat = .stale → (s.pt p.val).byStart = true → Completes (.pointStale p) s fun t =>
      (t.pt p.val).stat = .stale ∧ (t.pt p.val).byStart = false ∧ (t.pt p.val).y = (s.pt p.val).y ∧
      (t.pt p.val).pubAt = some s.now ∧
      Raised s t (prSE 0) evPointStale p.val (sat 24 ((s.now - (s.pt p.val).accAt.getD 0) / 1000)))

/-- What the zones' and direct commands' timers do when they run out: A door window that ends without motion leaves its
evidence to be removed. A zone that has been vacant for VACANT_HOLD_S is released, and without an override its
effective state becomes STANDBY. A loop in HOLD whose process value has failed for PV_FAIL_S goes to FAILED with its
fail output, and LOOP_PV_FAIL is raised by the zone's core. An override ends with OVERRIDE_END, a direct command with
DIRECT_ENDED. Each happens no earlier than its time. That the vacant hold and LOOP_PV_FAIL act at their own instants
is the model's choice (log 25), and so is INST 0 of DIRECT_ENDED (log 15). (R139, R195, R202, R205, R208, log 15, log
25, spec/07_zones.md Table 7.15) -/
def Obligations.TimersOfTheZones : Prop :=
  (∀ (z : Fin 32) (at_ : Nat) (s : State), Shape s → (s.zone z.val).pres.doorEnd = some at_ → s.zonesRun = true →
    s.zoneOn z.val = true → (s.zone z.val).pres.motion = false → s.cfb (znObj z.val 0x020) Fd.znConf.PRES_EN = true →
    s.motionAt z.val (s.cf (prObj z.val 0x020) Fd.presConf.PIR0_PT) (s.zone z.val).pres.pir0 = false →
    s.motionAt z.val (s.cf (prObj z.val 0x020) Fd.presConf.PIR1_PT) (s.zone z.val).pres.pir1 = false →
    Completes (.doorWindowExpiry z) s fun t =>
      (t.zone z.val).pres.doorEnd = none ∧ (t.zone z.val).pres.doorOut = true ∧ at_ ≤ t.now ∧ SameOutside [.now, .zones] s t) ∧
  (∀ (z : Fin 32) (s : State), Shape s → s.zonesRun = true → s.zoneOn z.val = true →
    s.cfb (znObj z.val 0x020) Fd.znConf.PRES_EN = true → (s.zone z.val).sched = 0 → (s.zone z.val).pres.occ = false →
    s.cf (znObj z.val 0x020) Fd.znConf.VACANT_HOLD_S ≠ 0 → (s.zone z.val).released = false → s.coreOf z.val < 4 →
    Completes (.vacantHoldExpiry z) s fun t =>
      (t.zone z.val).released = true ∧
      max (s.zone z.val).pres.since (s.zone z.val).comfortAt + s.cf (znObj z.val 0x020) Fd.znConf.VACANT_HOLD_S * 1000000 ≤ t.now ∧
      ((s.zone z.val).ovr = none → (t.zone z.val).eff = 1 ∧
        ((s.zone z.val).eff ≠ 1 → Raised s t (prZC (s.coreOf z.val)) evZoneState z.val ((s.zone z.val).eff * 256 + 1)))) ∧
  (∀ (k : Fin 64) (at_ : Nat) (s : State), Shape s → (s.loop k.val).badAt = some at_ → s.zonesRun = true →
    (s.loop k.val).st = .hold → s.coreOf (s.cf (lpObj k.val 0x020) Fd.loopConf.ZONE) < 4 → Completes (.loopPvFail k) s fun t =>
      (t.loop k.val).st = .failed ∧ (t.loop k.val).out = fOfNat (s.cf (lpObj k.val 0x020) Fd.loopConf.FAIL_OUT) ∧
      at_ + s.cf (lpObj k.val 0x020) Fd.loopConf.PV_FAIL_S * 1000000 ≤ t.now ∧
      Raised s t (prZC (s.coreOf (s.cf (lpObj k.val 0x020) Fd.loopConf.ZONE))) evLoopPvFail k.val
        (s.cf (lpObj k.val 0x020) Fd.loopConf.PV_PT)) ∧
  (∀ (z : Fin 32) (s : State), Shape s → (s.zone z.val).ovr.isSome = true → s.mn.phase = .run → Completes (.overrideExpiry z) s fun t =>
    (t.zone z.val).ovr = none ∧ (s.zone z.val).ovrEnd ≤ t.now ∧ (t.zone z.val).eff = (s.zone z.val).eff ∧
    Logged t evOverrideEnd z.val 0) ∧
  (∀ (st : Stage) (d : Direct) (at_ : Nat) (s : State), s.directOf st = some d → d.endAt = some at_ →
    Completes (.directDurationExpiry st) s fun t =>
      t.directOf st = none ∧ at_ ≤ t.now ∧ Logged t evDirectEnded 0 (Stage.cls st * 2 ^ 24 + 2 ^ 16 + Stage.inst st) ∧
      (∀ st', st' ≠ st → t.directOf st' = s.directOf st'))

/-- What Guard does about the heartbeat, its configuration and its inputs: Each toggle of the heartbeat comes 1 ms after
the last in the control pattern and 4 ms after it in the hold pattern, but for the boot ROM's first hold toggle, which
comes at most 1.5 ms after it. The second hold interval in a row makes Guard judge hold and carry every enabled guard
zone; the fourth control interval in a row hands every guard zone back. Once per second Guard reads region 7 and keeps
what is newer for its next sample while a guard zone samples. A sample dates the input, takes the die readings and the
band, and a valid one is the new T while an invalid one counts. A temperature report is dated and raised. (R404, R405,
R406, R407, R408, R412, spec/15_guard_thermal.md Table 15.1, spec/15_guard_thermal.md Table 15.6) -/
def Obligations.TheHeartbeatAndTheGuardZones : Prop :=
  (∀ (at_ : Nat) (s : State), s.sbBeat ≠ .none → s.gd.toggleAt = some at_ → Completes .hbToggle s fun t =>
    t.gd.toggleAt = some t.now ∧ t.gd.beat = s.sbBeat ∧ (s.sbBeat = .control → at_ + 1000 ≤ t.now) ∧
    (s.sbBeat = .hold → s.firstHold = false → at_ + 4000 ≤ t.now) ∧
    (s.sbBeat = .hold → s.firstHold = true → s.now ≤ t.now ∧ t.now ≤ max s.now (at_ + 1500))) ∧
  (∀ (at_ : Nat) (s : State),
      Shape s → s.sbBeat = .hold → s.gd.toggleAt = some at_ → s.now ≤ at_ + 4000 → s.firstHold = false → s.guardJudges = true →
    1 ≤ s.gd.holdRun → Completes .hbToggle s fun t =>
      t.gd.hb = 2 ∧ t.gd.holdRun = 2 ∧
      (s.th.bufStop = none → ∀ z, z < 8 → (t.gz z).enabled = true → (t.gz z).carried = true)) ∧
  (∀ (at_ : Nat) (s : State), Shape s → s.sbBeat = .control → s.gd.toggleAt = some at_ → s.now ≤ at_ + 1000 → s.guardJudges = true →
    3 ≤ s.gd.ctlRun → Completes .hbToggle s fun t => t.gd.hb = 1 ∧ ∀ z, z < 8 → (t.gz z).carried = false) ∧
  (∀ s : State, s.guardOn = true → Completes .guardCfgRead s fun t =>
    t.gd.readAt = t.now ∧ s.gd.readAt + 1000000 ≤ t.now ∧ t.rs.cells = s.rs.cells ∧
    (s.gd.zones.any GZone.enabled = true → t.gd.toApply = s.guardNews ∧ t.gd.zones = s.gd.zones) ∧
    (s.gd.zones.any GZone.enabled = false → t.gd.toApply = [])) ∧
  (∀ (z : Fin 8) (uv : Fin 2500001) (t0 t8 : Int) (s : State), Shape s → s.guardOn = true → s.gd.toApply = [] →
    (s.gz z.val).enabled = true → Completes (.guardSample z uv t0 t8) s fun t =>
      let v := fOfRat (uv.val : Int) 1000000
      (t.gz z.val).sampleAt = some t.now ∧ (∀ u, (s.gz z.val).sampleAt = some u → u + guardInterval s.gd.band ≤ t.now) ∧
      t.gd.t0 = fOfRat t0 1000 ∧ t.gd.t8 = fOfRat t8 1000 ∧
      t.gd.band = nextBand s.gd.band (fMax (fOfRat t0 1000) (fOfRat t8 1000)) ∧
      (∀ x, (s.gz z.val).temp v = some x → (t.gz z.val).t = x ∧ (t.gz z.val).badRun = 0 ∧
        (t.gz z.val).goodRun = min 3 ((s.gz z.val).goodRun + 1)) ∧
      ((s.gz z.val).temp v = none → (t.gz z.val).t = (s.gz z.val).t ∧ (t.gz z.val).goodRun = 0 ∧
        (t.gz z.val).badRun = min 3 ((s.gz z.val).badRun + 1) ∧
        (t.gz z.val).bad = ((s.gz z.val).bad || decide (3 ≤ min 3 ((s.gz z.val).badRun + 1))))) ∧
  (∀ (z : Fin 8) (s : State), Shape s → s.guardOn = true → (s.gz z.val).enabled = true → Completes (.guardTempReport z) s fun t =>
    (t.gz z.val).repAt = t.now ∧ (s.gz z.val).repAt + (if (s.gz z.val).carried then 60000000 else 600000000) ≤ t.now ∧
    Raised s t prGD evGuardTemp z.val (if (s.gz z.val).bad then 0x8000 else deciArg 16 (s.gz z.val).t))

/-- The die sensors, the throttling steps and the package estimate: A conversion that fails its self-check, its range or
its slope makes the sensor failed, counted once, with the cause of the first test it failed; one that passes gives a
sensor in use its temperature, and the hundredth in a row brings a failed one back. No conversion for 5 ms fails a
sensor in use with cause 4. An evaluation of a hot limit group lowers f by an eighth down to 25 %, at most every 500
ms, and 2,000 cool ones in a row raise it by an eighth. The estimate adds the conduction losses, the clamp power, the
dissipation of each analog output and 0.62 W, in this order (log 12); an output without AO_FAULT has none, and one
that reads low 15 mA times what its readback lacks to 12 V. (R420, R421, R422, R424, R426, R290, log 12, log 36,
spec/15_guard_thermal.md Table 15.5) -/
def Obligations.DieSensorsAndThrottling : Prop :=
  (∀ (n : Fin 9) (r : DieRx) (s : State), Shape s → s.deOn = true → Completes (.dieSensorSample n r) s fun t =>
    (t.die n.val).at_ = t.now ∧ (s.die n.val).at_ + 1000 ≤ t.now ∧ (t.die n.val).prev = some r.milli ∧
    (t.die n.val).selfBad = !r.selfOk ∧
    (dieTest (s.die n.val) r ≠ 0 → (t.die n.val).failed = true ∧
      (t.die n.val).cause = (if (s.die n.val).failed then (s.die n.val).cause else dieTest (s.die n.val) r) ∧
      (t.die n.val).t = (s.die n.val).t ∧
      (t.die n.val).failures = (if (s.die n.val).failed then (s.die n.val).failures else min ((s.die n.val).failures + 1) 65535)) ∧
    (dieTest (s.die n.val) r = 0 → (s.die n.val).failed = false →
      (t.die n.val).t = fOfRat r.milli 1000 ∧ (t.die n.val).failed = false) ∧
    (dieTest (s.die n.val) r = 0 → (s.die n.val).failed = true → (s.die n.val).good + 1 < 100 →
      (t.die n.val).failed = true ∧ (t.die n.val).good = (s.die n.val).good + 1 ∧ (t.die n.val).t = (s.die n.val).t) ∧
    (dieTest (s.die n.val) r = 0 → (s.die n.val).failed = true → 100 ≤ (s.die n.val).good + 1 →
      (t.die n.val).failed = false ∧ (t.die n.val).t = fOfRat r.milli 1000)) ∧
  (∀ (n : Fin 9) (s : State), Shape s → s.deOn = true → (s.die n.val).failed = false → Completes (.dieSensorTimeout n) s fun t =>
    (t.die n.val).failed = true ∧ (t.die n.val).cause = 4 ∧ (s.die n.val).at_ + 5000 ≤ t.now ∧
    (t.die n.val).failures = min ((s.die n.val).failures + 1) 65535) ∧
  (∀ (g : Fin 6) (s : State), Shape s → s.deOn = true → Completes (.throttleEval g) s fun t =>
    let tg := s.groupTemp g.val
    let hot := fLe (fOfNat s.throttleC) tg
    let cool := fLt tg (fOfNat (s.throttleC - 10)) && !s.groupFailed g.val
    (t.lim g.val).evalAt = some t.now ∧ (∀ u, (s.lim g.val).evalAt = some u → u + 1000 ≤ t.now) ∧
    (hot = true → 2 < (s.lim g.val).f → (∀ u, (s.lim g.val).stepAt = some u → u + 500000 ≤ s.now) →
      (t.lim g.val).f = (s.lim g.val).f - 1 ∧ (t.lim g.val).stepAt = some t.now ∧ t.th.steps = min (s.th.steps + 1) 65535) ∧
    (hot = true → (s.lim g.val).f ≤ 2 → (t.lim g.val).f = (s.lim g.val).f ∧ t.th.steps = s.th.steps) ∧
    (hot = false → cool = true → (s.lim g.val).f < 8 → 2000 ≤ (s.lim g.val).rel + 1 → (t.lim g.val).f = (s.lim g.val).f + 1) ∧
    (hot = false → cool = false → (t.lim g.val).f = (s.lim g.val).f ∧ (t.lim g.val).rel = 0)) ∧
  (∀ (clamp : Fin 65536) (uw : Fin 1000) (s : State), s.deOn = true → Completes (.thermalEstimate clamp uw) s fun t =>
    let w := fOfRat ((clamp.val * 1000 + uw.val : Nat) : Int) 1000000
    t.th.pkg = fAdd (fAdd (fAdd s.conduction w) (fSum (s.act.aos.map Ao.loss))) (fOfRat 62 100) ∧ t.th.estAt = some t.now ∧
    (∀ u, s.th.estAt = some u → u + 100000 ≤ t.now) ∧ SameOutside [.now, .thermal, .events] s t) ∧
  (∀ y : Ao, (y.fault = false → y.loss = fZero) ∧
    (y.fault = true → fLt y.meas y.v = true → y.loss = fMul (mAmp 15) (fSub (fOfNat 12) y.meas)))

/-- The thermal Siding, its heartbeat and its end, and Buffer Stop: A limit group that has held its floor for
SIDING_FLOOR_S takes the device from Platform or Mainline into Siding with cause 4, and when every group has been cool
for 60 s the mode that Siding left is entered again with a rejoin period. In Siding a one-shot heartbeat is written
into CAN0's transmit queue when its frame fits the port's settings, and none with the fabric disabled. The comparator
of a die sensor that passed its last self-check latches Buffer Stop: every stage and output off, every port off the
bus, and the mode Buffer Stop while SB runs; that of one that did not changes nothing. (R375, R417, R418, R419, R421,
R427, R428, spec/03_power_modes.md Table 3.5) -/
def Obligations.SidingAndBufferStop : Prop :=
  (∀ (g : Fin 6) (at_ : Nat) (s : State), (s.lim g.val).floorAt = some at_ → s.zonesRun = true →
    s.cf (thObj 0 0x020) Fd.thConf.SIDING_FLOOR_S ≠ 0 → Completes (.thermalSiding g) s fun t =>
      t.mn.mode = .siding ∧ t.mn.sidingCause = 4 ∧ t.th.sidingFrom = s.mn.mode ∧ t.per.running = false ∧ t.pr.solve = none ∧
      at_ + s.cf (thObj 0 0x020) Fd.thConf.SIDING_FLOOR_S * 1000000 ≤ t.now ∧ Logged t evSidingEnter 0 4) ∧
  (∀ (at_ : Nat) (s : State), s.coolSince = some at_ → s.mn.phase = .run → s.mn.mode = .siding → s.mn.sidingCause = 4 →
    Completes .sidingExit s fun t =>
      t.mn.mode = s.th.sidingFrom ∧ t.mn.sidingCause = 0 ∧ t.per.running = false ∧ t.per.rejoin = true ∧
      at_ + 60000000 ≤ t.now) ∧
  (∀ (k : Nat) (s : State), Shape s → s.mn.phase = .run → s.mn.mode = .siding → s.canPower 0 = true →
    s.fbf Fd.fbConf.FABRIC_EN ≠ 0 → s.fb.lastHeld ≠ 0 →
    (s.port 0).freeEntry = some k → s.cfb (cnObj 0) Fd.cnConf.FD_EN = true → s.cf (cnObj 0) Fd.cnConf.TXE_SIZE = 7 →
    Completes .sidingHeartbeat s fun t =>
      t.th.sidingHb = some t.now ∧ (∀ u, s.th.sidingHb = some u → u + s.hbUs ≤ t.now) ∧ t.fb.seq = (s.fb.seq + 1) % 4096 ∧
      ∃ it, (t.port 0).tx = (s.port 0).tx ++ [it] ∧ it.queue = true ∧ it.idx = k ∧ it.use = .siding ∧ it.oneShot = true) ∧
  (∀ s : State, s.fbf Fd.fbConf.FABRIC_EN = 0 → exec .sidingHeartbeat s = .next s) ∧
  (∀ (n : Fin 9) (s : State), Shape s → s.vsupOk = true → s.th.armed = true → s.th.bufStop = none →
    (s.die n.val).selfBad = false → Completes (.bufferStop n) s fun t =>
      t.th.bufStop = some n.val ∧ t.th.bufFlag = true ∧ FansOff t ∧ GangsOff t ∧
      (∀ a, a < 16 → (t.ao a).enabled = false ∧ (t.ao a).v = fZero) ∧ (∀ p, p < 3 → (t.port p).st = .off) ∧
      (s.mn.phase = .run ∨ s.mn.phase = .romDepot → t.mn.mode = .bufferStop) ∧ (s.sbAlive = true → Logged t evBufferStop 0 n.val)) ∧
  (∀ (n : Fin 9) (s : State), (s.die n.val).selfBad = true → exec (.bufferStop n) s = .next s)

/-- What a port does with a frame it takes from the bus: A data frame that passes the tests of R318 and is no reference
acts by the first enabled acceptance rule that it matches. By an action of 0 or 1, with FIFO elements and credits
free, it becomes the newest Q-FABI entry, cut to the element size of that FIFO and with its header words, and
RX_FRAMES counts it; by action 2, or without a rule, nothing is stored. A remote frame, or one the tests of R318 call
implausible, is counted in RX_IMPLAUS and not stored, and one that carries this node's address in ADDR_CLASH. (R318,
R323, R324, spec/12_can.md Table 12.10) -/
def Obligations.CanFramesReceived : Prop :=
  (∀ (p : Fin 3) (f : CanFrame) (ago : Fin 65536) (k act : Nat) (s : State), Shape s → (s.port p).st.onBus = true →
    s.mn.mode ≠ .siding → s.mn.mode ≠ .depot → (s.port p).reconf = false → f.norm.rtr = false → s.judgeRx f.norm = .ok →
    idClass s.native f.norm.id ≠ 0 → matchRule f.norm (s.port p).rules 0 = some (k, act) →
    ((act = 0 ∨ act = 1) → (s.port p).fifo0 = [] → (s.port p).fifo1 = [] → (s.port p).qFabi.length < 64 →
      Completes (.canRxFrame p f ago none) s fun t =>
        let size := elemSize (s.cf (cnObj p) (if act = 0 then Fd.cnConf.RXE0_SIZE else Fd.cnConf.RXE1_SIZE))
        (t.port p).rxFrames = ((s.port p).rxFrames + 1) % 2 ^ 32 ∧
        ∃ e, (t.port p).qFabi = (s.port p).qFabi ++ [{ val := e, prod := 0 }] ∧
          e = rxElem f.norm ((s.now - ago.val) % 65536) k false (decide (size < f.norm.len))
            (padTo (min f.norm.len size) f.norm.data) ∧
          ((t.port p).truncs = if size < f.norm.len then sat 16 ((s.port p).truncs + 1) else (s.port p).truncs)) ∧
    (act = 2 → Completes (.canRxFrame p f ago none) s fun t =>
      (t.port p).qFabi = (s.port p).qFabi ∧ (t.port p).fifo0 = (s.port p).fifo0 ∧ (t.port p).fifo1 = (s.port p).fifo1 ∧
      (t.port p).rxFrames = (s.port p).rxFrames)) ∧
  (∀ (p : Fin 3) (f : CanFrame) (ago : Fin 65536) (s : State), Shape s → (s.port p).st.onBus = true →
    s.mn.mode ≠ .siding → s.mn.mode ≠ .depot → (s.port p).reconf = false → f.norm.rtr = false → s.judgeRx f.norm = .ok →
    matchRule f.norm (s.port p).rules 0 = none → Completes (.canRxFrame p f ago none) s fun t =>
      (t.port p).qFabi = (s.port p).qFabi ∧ (t.port p).fifo0 = (s.port p).fifo0 ∧ (t.port p).fifo1 = (s.port p).fifo1 ∧
      (t.port p).rxFrames = (s.port p).rxFrames) ∧
  (∀ (p : Fin 3) (f : CanFrame) (ago : Fin 65536) (s : State), Shape s → (s.port p).st.onBus = true →
    s.mn.mode ≠ .siding → s.mn.mode ≠ .depot → (s.port p).reconf = false →
    f.norm.rtr = true ∨ s.judgeRx f.norm = .implausible → Completes (.canRxFrame p f ago none) s fun t =>
      (t.port p).implaus = sat 16 ((s.port p).implaus + 1) ∧ (t.port p).qFabi = (s.port p).qFabi ∧
      (t.port p).fifo0 = (s.port p).fifo0 ∧ (t.port p).fifo1 = (s.port p).fifo1) ∧
  (∀ (p : Fin 3) (f : CanFrame) (ago : Fin 65536) (ram : Option (Fin 4096)) (s : State), Shape s → (s.port p).st.onBus = true →
    s.mn.mode ≠ .siding → s.mn.mode ≠ .depot → (s.port p).reconf = false → f.norm.rtr = false → s.judgeRx f.norm = .clash →
    Completes (.canRxFrame p f ago ram) s fun t =>
      (t.port p).clash = sat 16 ((s.port p).clash + 1) ∧ (t.port p).qFabi = (s.port p).qFabi ∧
      (t.port p).fifo0 = (s.port p).fifo0 ∧ (t.port p).fifo1 = (s.port p).fifo1)

/-- How a frame starts, how its attempts end, and what is reported of it: A port that may start sends the event frame with
the lowest identifier when its worst-case duration fits; a transmit element with a failing word is not started and
ends TX_FAIL with cause 7. An acknowledged frame leaves its buffer with SENT in the completion ring and takes one from
TEC; where delay compensation runs, one whose measurement fails or exceeds 127 with TDCO ends in a bit error counted
in TDC_FAILS instead (log 2 for the bit). A lost arbitration leaves the frame pending, and ends a one-shot frame with
cause 1. An error adds 8 to TEC. Under SEGMENT_ALONE, outside Siding, the pending frame with the lowest identifier
besides the discovery heartbeats goes out in one-shot mode, no more than once per second. (R327, R328, R330, R331,
R332, R326, R321, log 2, log 38) -/
def Obligations.CanFramesSent : Prop :=
  (∀ (p : Fin 3) (ram : Option (Fin 4096)) (it : TxItem) (s : State), Shape s → (s.port p).canStart = true →
    lowestItem (s.eventItems p) = some it → s.eventFits p (frClocks (s.canTim p) it.frame) = true →
    Completes (.canTxStart p ram) s fun t =>
      ((∀ off, ram = some off → it.ramWord off.val = false) →
        (t.port p).air = some (it.queue, it.idx) ∧ (t.port p).airTt = false ∧ SameOutside [.cans] s t) ∧
      (∀ off, ram = some off → it.ramWord off.val = true → (t.port p).air = none ∧
          (t.port p).ramParity = sat 16 ((s.port p).ramParity + 1) ∧
        (t.port p).txFails = sat 16 ((s.port p).txFails + 1) ∧ (t.port p).item it.queue it.idx = none ∧
        (t.port p).comp.getLast? = some (b2n it.queue * 2 ^ 31 + min it.idx 31 * 2 ^ 26 + 2 * 2 ^ 24 + 7 * 2 ^ 20 + s.now % 65536))) ∧
  (∀ (p : Fin 3) (q : Bool) (k : Nat) (it : TxItem) (s : State), Shape s → (s.port p).air = some (q, k) →
    (s.port p).item q k = some it → (s.port p).reconf = false → (s.port p).qFabo = [] → (s.port p).backlog = [] →
    s.mn.mode ≠ .depot →
    let runs := s.cfb (cnObj p) Fd.cnConf.TDC_EN = true ∧ it.frame.fdf = true ∧ it.frame.brs = true
    let inRange := fun (v : Option (Fin 128)) => ∃ n, v = some n ∧ n.val + s.cf (cnObj p) Fd.cnConf.TDCO ≤ 127
    (∀ v, (¬ runs ∨ inRange v) → Completes (.canTxDone p (.sent v)) s fun t =>
      (t.port p).air = none ∧ (t.port p).txFrames = ((s.port p).txFrames + 1) % 2 ^ 32 ∧ (t.port p).tec = (s.port p).tec - 1 ∧
      (t.port p).afterOff = false ∧ (t.port p).ackRun = 0 ∧ (t.port p).alone = false ∧ (t.port p).item q k = none ∧
      (t.port p).comp.getLast? = some (b2n q * 2 ^ 31 + min k 31 * 2 ^ 26 + s.now % 65536)) ∧
    (∀ v, runs → ¬ inRange v → Completes (.canTxDone p (.sent v)) s fun t =>
      (t.port p).air = none ∧ (t.port p).tdcFails = sat 16 ((s.port p).tdcFails + 1) ∧
      (t.port p).txFrames = (s.port p).txFrames ∧ ((t.port p).lec = 4 ∨ (t.port p).lec = 5)) ∧
    (it.cancel = false → (it.oneShot || (s.port p).airTt || s.oneShotAll p) = false →
      Completes (.canTxDone p .lostArb) s fun t =>
        (t.port p).air = none ∧ (t.port p).item q k = some it ∧ (t.port p).tec = (s.port p).tec) ∧
    (it.cancel = false → (it.oneShot || (s.port p).airTt || s.oneShotAll p) = true →
      Completes (.canTxDone p .lostArb) s fun t =>
        (t.port p).air = none ∧ (t.port p).item q k = none ∧ (t.port p).txFails = sat 16 ((s.port p).txFails + 1) ∧
        (t.port p).comp.getLast? = some (b2n q * 2 ^ 31 + min k 31 * 2 ^ 26 + 2 * 2 ^ 24 + 1 * 2 ^ 20 + s.now % 65536)) ∧
    (∀ lec : Fin 7, lec.val ≠ 0 → it.cancel = false → (it.oneShot || (s.port p).airTt || s.oneShotAll p) = false →
      Completes (.canTxDone p (.error lec false)) s fun t =>
        (t.port p).air = none ∧ (t.port p).item q k = some it ∧ (t.port p).tec = (s.port p).tec + 8 ∧
        (t.port p).lec = lec.val) ∧
    (∀ v bit1, Completes (.canTxDone p (.tdcFail v bit1)) s fun t =>
      (t.port p).air = none ∧ ((t.port p).lec = if bit1 then 4 else 5) ∧
      (runs → ¬ inRange v → (t.port p).tdcFails = sat 16 ((s.port p).tdcFails + 1)) ∧
      ((¬ runs ∨ inRange v) → (t.port p).tdcFails = (s.port p).tdcFails))) ∧
  (∀ (p : Fin 3) (it : TxItem) (s : State), Shape s → (s.port p).alone = true → (s.port p).canStart = true →
    (∀ u, (s.port p).aloneAt = some u → u + 1000000 ≤ s.now) →
    s.mn.mode ≠ .siding → lowestItem ((s.port p).tx.filter fun i => !(s.port p).ttNamed i && i.use != .fabric 5) = some it →
    s.eventFits p (frClocks (s.canTim p) it.frame) = true → Completes (.segmentAloneSend ⟨p, none⟩) s fun t =>
      (t.port p).air = some (it.queue, it.idx) ∧ (t.port p).aloneAt = some s.now ∧ SameOutside [.cans] s t ∧
      ∀ i, i ∈ (t.port p).tx → i.num = it.num → i.oneShot = true)

/-- Error states, bus-off and recovery of a port: A receive error sets LEC, and on a port that is error active or passive
raises REC; beyond 127 the port becomes error passive. At TEC above 255 the port goes bus-off: recovery starts at once
while fewer than three automatic recoveries lie in the last 60 s, otherwise the port holds and reports
CAN_RECOVERY_HELD; frames stay pending. Recovery ends after 128 occurrences of 11 recessive bits with both counters 0,
and the port takes part again as its configuration or RAW_MODE says. A TXD timeout is reported. A port that integrates
joins the bus. (R313, R331, R333, R334, R344, spec/12_can.md Table 12.8) -/
def Obligations.CanErrorsAndRecovery : Prop :=
  (∀ (p : Fin 3) (lec : Fin 7) (inc8 : Bool) (s : State), Shape s → lec.val ≠ 0 →
    (s.port p).st = .active ∨ (s.port p).st = .passive → Completes (.canRxError p lec inc8) s fun t =>
      (t.port p).lec = lec.val ∧ (t.port p).recv = sat 8 ((s.port p).recv + (if inc8 then 8 else 1)) ∧
      (t.port p).tec = (s.port p).tec ∧ SameOutside [.cans, .events] s t ∧
      ((s.port p).st = .active → 127 < (t.port p).recv → (t.port p).st = .passive ∧
        Raised s t prPeri evCanErrPassive p (sat 8 (t.port p).tec * 256 + sat 8 (t.port p).recv))) ∧
  (∀ (p : Fin 3) (lec : Fin 7) (inc8 : Bool) (s : State), Shape s → lec.val ≠ 0 →
    (s.port p).st = .listen ∨ (s.port p).st = .restricted → Completes (.canRxError p lec inc8) s fun t =>
      (t.port p).lec = lec.val ∧ (t.port p).recv = (s.port p).recv ∧ (t.port p).st = (s.port p).st ∧ SameOutside [.cans] s t) ∧
  (∀ (p : Fin 3) (s : State), Shape s → 255 < (s.port p).tec → (s.port p).st = .active ∨ (s.port p).st = .passive →
    Completes (.canBusOff p) s fun t =>
      (t.port p).busOffs = sat 16 ((s.port p).busOffs + 1) ∧ (t.port p).air = none ∧ (t.port p).tx = (s.port p).tx ∧
      SameOutside [.cans, .events] s t ∧
      ((s.autoRecov p).length < 3 → (t.port p).st = .busOff ∧ (t.port p).recovs = s.autoRecov p ++ [s.now] ∧
        Raised s t prPeri evCanBusOff p (s.port p).lec) ∧
      (3 ≤ (s.autoRecov p).length → (t.port p).st = .held ∧
        Raised s t prPeri evCanRecoveryHeld p (s.autoRecov p).length)) ∧
  (∀ (p : Fin 3) (s : State), Shape s → (s.port p).st = .busOff → (s.port p).reconf = false → Completes (.canRecovered p) s fun t =>
    (t.port p).st = s.joinState p ∧ (t.port p).tec = 0 ∧ (t.port p).recv = 0 ∧ (t.port p).afterOff = true ∧
    (s.port p).offAt + cdiv (128 * 11 * (s.canTim p).nom) 80 ≤ t.now ∧
    ((s.port p).qFabo = [] → (s.port p).backlog = [] →
      Raised s t prPeri evCanRecovered p (b2n (s.port p).byCommand))) ∧
  (∀ (p : Fin 3) (s : State), Shape s → (s.port p).st ≠ .off → (s.port p).st ≠ .lowPower → (s.port p).txdTmo = false →
    Completes (.canTxdTimeout p) s fun t =>
      (t.port p).txdTmo = true ∧ Raised s t prPeri evCanTxdTimeout p 0 ∧ SameOutside [.cans, .events] s t) ∧
  (∀ (p : Fin 3) (s : State), Shape s → (s.port p).st = .integrating → Completes (.busIntegration p) s fun t =>
    (t.port p).st = s.joinState p ∧ (t.port p).reconf = false ∧ SameOutside [.cans] s t)

/-- Cycles, references and windows of the Timetable: A master starts the next cycle on fabric time, runs, and sends the
reference message in window 0 from a buffer of its own (log 38), and its other bank of cells holds the row of the new
cycle. A port without its reference starts the next cycle on its own timing, counts and reports the miss, and after
REF_MISS_MAX misses in a row it is lost. A window that the port sends in starts the frame of its buffer when the frame
ends by the end of the window, also from a late start; a frame that does not counts in WINDOW_MISS. (R322, R338, R339,
R340, R341, R342, log 38) -/
def Obligations.TheTimetableRuns : Prop :=
  (∀ (p : Fin 3) (m : List Byte) (s : State), Shape s → (s.port p).tt.active = some m → (s.port p).tt.st ≠ .off →
    (s.port p).tt.master = true → mxNtu m * (s.canTim p).nom ≠ 0 → ∀ ram, Completes (.ttCycleStart ⟨p, ram⟩) s fun t =>
      (t.port p).tt.st = .running ∧ (t.port p).tt.cycle = (s.nextCycle p m).1 ∧ (t.port p).tt.cycAt = t.now ∧
      (t.port p).tt.win = some 0 ∧ (t.port p).tt.missRun = 0 ∧ (s.nextCycle p m).2 ≤ t.now ∧
      ((s.port p).tt.banks.length = 2 → (s.port p).tt.bank ≤ 1 →
        ∀ w, w < 32 → (t.port p).tt.cell w = mxCell m (s.nextCycle p m).1 w) ∧
      ((s.port p).canStart = true → (s.port p).alone = false → ram = none →
        (∀ i, i ∈ (s.port p).tx → i.queue = false → i.idx = refBuf → i.use = .reference) →
        (t.port p).air = some (false, refBuf) ∧
        ∃ i, (t.port p).item false refBuf = some i ∧ i.frame = t.refFrame (s.nextCycle p m).1 ∧ i.oneShot = true)) ∧
  (∀ (p : Fin 3) (m : List Byte) (s : State), Shape s → (s.port p).tt.active = some m → (s.port p).tt.cycling = true →
    (s.port p).tt.master = false → mxNtu m * (s.canTim p).nom ≠ 0 → Completes (.ttRefMiss p) s fun t =>
      let run := sat 16 ((s.port p).tt.missRun + 1)
      let max_ := s.cf (ttObj p) Fd.ttConf.REF_MISS_MAX
      (t.port p).tt.cycle = ((s.port p).tt.cycle + 1) % mxCycles m ∧
      (t.port p).tt.cycAt = (s.port p).tt.cycAt + cdiv (mxNtu m * (s.canTim p).nom) 80 ∧
      (t.port p).tt.refMiss = sat 16 ((s.port p).tt.refMiss + 1) ∧
      (run < max_ → (t.port p).tt.missRun = run ∧ (t.port p).tt.st = (s.port p).tt.st ∧ Raised s t prJN evTtRefMiss p run) ∧
      (max_ ≤ run → (s.port p).tt.st = .running → (t.port p).tt.st = .lost)) ∧
  (∀ (p : Fin 3) (m : List Byte) (w : Nat) (s : State), Shape s → (s.port p).tt.active = some m → (s.port p).tt.win = some w →
    (s.port p).tt.cycling = true → w + 1 < mxWindows m →
    (∀ ram, Completes (.ttWindowStart p ram) s fun t =>
      (t.port p).tt.win = some (w + 1) ∧
      (s.port p).tt.cycAt + cdiv ((s.port p).tt.winStart (w + 1) * (s.canTim p).nom) 80 ≤ t.now) ∧
    (∀ it, cellTx ((s.port p).tt.cell (w + 1)) = true →
      (s.port p).item false (cellBuf ((s.port p).tt.cell (w + 1))) = some it → (s.port p).tt.st = .running →
      (s.port p).st = .active → (s.port p).alone = false → (s.port p).reconf = false → (s.port p).air = none →
      (s.port p).tec ≤ 255 →
      let nom := (s.canTim p).nom
      let from_ := if s.now ≤ s.winAt p (w + 1) then (s.port p).tt.winStart (w + 1) * nom else s.ttPos p
      let end_ := ((s.port p).tt.winStart (w + 1) + (s.port p).tt.winLen (w + 1)) * nom
      Completes (.ttWindowStart p none) s fun t =>
        (from_ + frClocks (s.canTim p) it.frame ≤ end_ →
          (t.port p).air = some (false, cellBuf ((s.port p).tt.cell (w + 1))) ∧ (t.port p).airTt = true) ∧
        (end_ < from_ + frClocks (s.canTim p) it.frame →
          (t.port p).air = none ∧ (t.port p).tt.windowMiss = sat 16 ((s.port p).tt.windowMiss + 1))))

/-- Raw CAN access in Depot: In Depot a SEND of a frame that the port admits makes it the one-shot frame of buffer 31 and
RESULT 1; one of more bytes than TXE_SIZE gives RESULT 7; while RESULT is 1 it has no effect. ABORT takes a raw frame
that is not under way out with RESULT 5 and latches the cancel of one that is. POP removes the oldest captured
element. (R142, R329, R346, spec/12_can.md Table 12.13) -/
def Obligations.RawCanAccess : Prop :=
  (∀ (p : Fin 3) (s : State), Shape s → s.depotOpen = true → (s.port p).raw.result ≠ 1 → (s.port p).item false 31 = none →
    let f := (s.port p).raw.frame
    (dlcLen f.fdf f.dlc ≤ elemSize (s.cf (cnObj p) Fd.cnConf.TXE_SIZE) → ¬ (f.fdf = true ∧ f.rtr = true) →
      (f.fdf = true → s.cfb (cnObj p) Fd.cnConf.FD_EN = true) → (f.brs = true → s.cfb (cnObj p) Fd.cnConf.BRS_EN = true) →
      (f.xtd = true ∨ f.id ≤ 0x7FF) → Completes (.send p) s fun t =>
        (t.port p).raw.result = 1 ∧ SameOutside [.cans] s t ∧
        ∃ i, (t.port p).item false 31 = some i ∧ i.frame = f ∧ i.use = .raw ∧ i.oneShot = true) ∧
    (elemSize (s.cf (cnObj p) Fd.cnConf.TXE_SIZE) < dlcLen f.fdf f.dlc → Completes (.send p) s fun t =>
      (t.port p).raw.result = 7 ∧ (t.port p).tx = (s.port p).tx)) ∧
  (∀ (p : Fin 3) (s : State), s.depotOpen = true → (s.port p).raw.result = 1 → Completes (.send p) s fun t => t = s) ∧
  (∀ (p : Fin 3) (it : TxItem) (s : State), Shape s → s.depotOpen = true → (s.port p).item false 31 = some it → it.use = .raw →
    ((s.port p).air ≠ some (false, 31) → (s.port p).qFabo = [] → (s.port p).backlog = [] → Completes (.rawAbort p) s fun t =>
      (t.port p).item false 31 = none ∧ (t.port p).raw.result = 5) ∧
    ((s.port p).air = some (false, 31) → Completes (.rawAbort p) s fun t =>
      (t.port p).raw.result = (s.port p).raw.result ∧ SameOutside [.cans] s t ∧
      ∀ i, i ∈ (t.port p).tx → i.queue = false → i.idx = 31 → i.cancel = true)) ∧
  (∀ (p : Fin 3) (s : State), Shape s → s.depotOpen = true → Completes (.pop p) s fun t =>
    (t.port p).raw.ring = (s.port p).raw.ring.drop 1 ∧ SameOutside [.cans] s t)

/-- What Junction does with the entry it takes from Q-FABI: An empty queue is an underrun. A frame that fails a test of
Table 13.3 is discarded and counted in the column of its first failed test. An accepted BS_SUB enters the sender's
subscription; an accepted HEARTBEAT makes the sender a neighbour heard now, with the values it announces. A reference
that this node follows steers fabric time: an offset above 1 ms is one step to the master's value and is reported, a
smaller one moves it by no more than 500 ppm of the time since the last reference. The size of that correction is a
free value (log 2). (R43, R351, R356, R360, R372, spec/13_fabric.md Table 13.3) -/
def Obligations.FabricFramesAreTested : Prop :=
  (∀ (p : Fin 3) (s : State), Shape s → s.fbf Fd.fbConf.FABRIC_EN ≠ 0 → s.mn.mode ≠ .siding → (s.port p).qFabi = [] →
    Completes (.fabiTake p) s fun t =>
      (t.qst.getD (5 + p.val) {}).underrun = sat 16 ((s.qst.getD (5 + p.val) {}).underrun + 1) ∧ t.fb = s.fb) ∧
  (∀ (p : Fin 3) (e : QE RxElem) (rest : List (QE RxElem)) (s : State), Shape s → s.fbf Fd.fbConf.FABRIC_EN ≠ 0 →
    s.mn.mode ≠ .siding → (s.port p).qFabi = e :: rest → e.bad = false → (s.port p).fifo0 = [] → (s.port p).fifo1 = [] →
    idClass s.native (bits e.val.h0 28 0) ≠ 0 →
    (s.fabTest e.val false ≠ 0 → Completes (.fabiTake p) s fun t =>
      (t.port p).qFabi = rest ∧
      t.fb.trunc = (if s.fabTest e.val false = 2 then sat 16 (s.fb.trunc + 1) else s.fb.trunc) ∧
      t.fb.checkFails = (if s.fabTest e.val false = 6 then sat 16 (s.fb.checkFails + 1) else s.fb.checkFails) ∧
      t.fb.hdrBad = (if s.fabTest e.val false = 2 ∨ s.fabTest e.val false = 6 then s.fb.hdrBad else sat 16 (s.fb.hdrBad + 1)) ∧
      t.fb.nbrs = s.fb.nbrs ∧ t.fb.routes = s.fb.routes ∧ t.fb.subs = s.fb.subs) ∧
    (let m := fabParse s.native e.val.data
     s.fabTest e.val false = 0 → s.mn.phase = .run → s.native = true → m.flood = false →
      (m.ty = 8 → m.dst = s.fb.node → (s.fb.subs.filter fun x => x.node != m.src).length < 64 →
        Completes (.fabiTake p) s fun t =>
          t.fb.subs = (s.fb.subs.filter fun x => x.node != m.src) ++
            [{ node := m.src, mask := leAt m.body 0 4, at_ := s.now }]) ∧
      (m.ty = 10 → m.dst = 0 → Completes (.fabiTake p) s fun t =>
        ∃ n, n ∈ t.fb.nbrs ∧ n.port = p.val ∧ n.node = m.src ∧ n.heardAt = s.now ∧ n.uid = leAt m.body 0 8 ∧
          n.xf = bits (leAt m.body 8 1) 7 4 ∧ n.stratum = bits (leAt m.body 9 1) 7 4 ∧ n.tmPrio = bits (leAt m.body 9 1) 3 0 ∧
          n.rootPrio = bits (leAt m.body 10 1) 7 4 ∧ n.conflict = bitOf (leAt m.body 10 1) 2 ∧
          n.masterHere = bitOf (leAt m.body 10 1) 1 ∧ n.rootUid = leAt m.body 12 8 ∧ n.periodMs = leAt m.body 20 2))) ∧
  (∀ (p : Fin 3) (e : QE RxElem) (rest : List (QE RxElem)) (s : State), Shape s → s.fbf Fd.fbConf.FABRIC_EN ≠ 0 →
    s.mn.mode ≠ .siding → (s.port p).qFabi = e :: rest → e.bad = false → idClass s.native (bits e.val.h0 28 0) = 0 →
    bitOf e.val.h1 3 = false → (s.port p).tt.master = false → s.isRoot = false → s.fb.timed = false ∨ s.fb.timePort = p.val →
    Completes (.fabiTake p) s fun t =>
      let sof := s.tsTime (bits e.val.h1 31 16)
      let diff : Int := (leAt e.val.data 1 7 : Int) - ((sof : Int) + s.fb.offset)
      t.fb.timed = true ∧ t.fb.timePort = p.val ∧ t.fb.servoAt = s.now ∧
      (diff > 1000 ∨ diff < -1000 → t.fb.offset = (leAt e.val.data 1 7 : Int) - (sof : Int) ∧
        Raised s t prJN evFabTimeStep 0 (unsgn 32 (satI 32 diff))) ∧
      (diff ≤ 1000 → -1000 ≤ diff →
        t.fb.offset - s.fb.offset ≤ (((s.now - s.fb.servoAt) * 500 / 1000000 : Nat) : Int) ∧
        s.fb.offset - t.fb.offset ≤ (((s.now - s.fb.servoAt) * 500 / 1000000 : Nat) : Int)))

/-- Claims, the assignment of the address, and what the node sends by time: A claim is sent three times, 100 ms apart. 250
ms after the first one the address is assigned, stored and reported, and a node alone that may be time master becomes
root; a node that yields keeps its old one until a Changeover. Heartbeats go out no faster than HB_MS, each with its
own sequence number. A node advertises its table on a port after ADV_S, or after 1 s when a change is due, with a new
ADV_GEN. On a port without Timetable a master writes the reference message of cycle 0 every 10 ms, into a buffer of
its own (log 38). (R353, R354, R355, R356, R358, R359, R364, log 38) -/
def Obligations.AddressesAndHeartbeats : Prop :=
  (∀ (c : Claim) (s : State), s.fb.claim = some c → s.jnOn = true → c.sent < 3 → Completes .claimRepeat s fun t =>
    t.fb.claim = some { c with sent := c.sent + 1 } ∧ c.since + c.sent * 100000 ≤ t.now ∧ t.fb.node = s.fb.node) ∧
  (∀ (c : Claim) (s : State), Shape s → s.fb.claim = some c → s.jnOn = true → c.sent = 3 → Completes .addrAssign s fun t =>
    t.fb.claim = none ∧ c.since + 250000 ≤ t.now ∧
    (c.lost = false → t.fb.node = c.cand ∧ t.fb.addrSrc = c.src ∧ t.fb.lastHeld = c.cand ∧
      (s.fb.nbrs = [] → 15 ≤ s.fbf Fd.fbConf.TM_PRIO → s.fb.root = none →
        Raised s t prJN evFabAddr 0 (c.cand * 65536 + c.src)) ∧
      (s.fb.nbrs = [] → s.fbf Fd.fbConf.TM_PRIO < 15 → c.cand ≠ 0 → t.isRoot = true ∧ t.fb.stratum = 0)) ∧
    (c.lost = true → t.fb.newNode = some (c.cand, c.src) ∧ t.fb.node = s.fb.node)) ∧
  (∀ s : State, s.jnOn = true → s.fb.node ≠ 0 → Completes .heartbeatSend s fun t =>
    t.fb.hbAt = some t.now ∧ (∀ u, s.fb.hbAt = some u → u + s.fbf Fd.fbConf.HB_MS * 1000 ≤ t.now) ∧
    (s.portsOn ≠ [] → t.fb.seq = (s.fb.seq + s.portsOn.length) % 4096)) ∧
  (∀ (p : Fin 3) (s : State), s.fb.advAt.length = 3 → s.jnOn = true → s.fb.node ≠ 0 → s.cfb (cnObj p) Fd.cnConf.ENABLE = true →
    Completes (.routeAdvSend p) s fun t =>
      t.fb.advGen = (s.fb.advGen + 1) % 65536 ∧ t.fb.advAt.getD p none = some t.now ∧ t.fb.advDue.getD p false = false ∧
      (∀ u, s.fb.advAt.getD p none = some u →
        u + (if s.fb.advDue.getD p false then 1000000 else s.fbf Fd.fbConf.ADV_S * 1000000) ≤ t.now)) ∧
  (∀ (p : Fin 3) (s : State), Shape s → s.fb.refAt.length = 3 → s.jnOn = true → (s.port p).tt.master = true →
    s.cfb (ttObj p) Fd.ttConf.TT_EN = false → Completes (.refEventSend p) s fun t =>
      t.fb.refAt.getD p none = some t.now ∧ (∀ u, s.fb.refAt.getD p none = some u → u + 10000 ≤ t.now) ∧
      ((s.port p).item false refBuf = none →
        ∃ i, (t.port p).item false refBuf = some i ∧ i.frame = t.refFrame 0 ∧ i.use = .reference))

/-- Lost neighbours, roots and routes; the timers of relayed requests and boundary states: A lost neighbour leaves the
list, is counted on its port, and no valid shadow entry goes through it. A node loses its root 3 × HB_MS after it last
heard a master of it, or at once when every such master would raise its stratum above 14; it then follows another root
or none, and its fabric time does not step. An entry not refreshed for 3 × ADV_S, or whose next hop is gone, is
withdrawn with metric 0xFFFF and advertised; 2 × ADV_S later it is empty. All of this is in the shadow table alone. An
open request is repeated CTL_RETRY_MS after it was last sent while a route leads to its node, and is answered
UNREACHABLE otherwise. When TMO_MS passes without a response it leaves the open ones and its request is answered
TIMEOUT. A transaction held incomplete for CTL_RETRY_MS is discarded. BS_SUB goes out every 60 s, a subscription
lapses after 180 s, and boundary states go out once in a period. (R356, R358, R366, R370, R371, R372, R373) -/
def Obligations.NeighboursRoutesAndRelays : Prop :=
  (∀ (p : Fin 3) (node : Fin 4096) (n : Nbr) (s : State), s.fb.losses.length = 3 → s.jnOn = true →
    (s.fb.nbrs.find? fun x => x.port == p.val && x.node == node.val) = some n → Completes (.nbrLost p node) s fun t =>
      (∀ y, y ∈ t.fb.nbrs → ¬ (y.port = p.val ∧ y.node = node.val)) ∧ n.heardAt + 3 * s.hbUs ≤ t.now ∧
      t.fb.losses.getD p 0 = sat 16 (s.fb.losses.getD p 0 + 1) ∧ t.fb.routes = s.fb.routes ∧
      (∀ e, e ∈ s.fb.shadow → e.2.port = p.val → e.2.next = node.val → ∀ r, rtGet t.fb.shadow e.1 = some r → r.st ≠ 1)) ∧
  (∀ (r : Nat × Nat × Nat) (s : State), s.jnOn = true → s.fb.root = some r → r.2.1 ≠ ownUid → Completes .rootLost s fun t =>
    (∀ r', t.fb.root = some r' → r'.2.1 ≠ r.2.1) ∧ t.fb.offset = s.fb.offset ∧
    (s.rootMasters r.2.1 ≠ [] → (∀ n, n ∈ s.rootMasters r.2.1 → 14 ≤ n.stratum) → t.now = s.now) ∧
    ((s.rootMasters r.2.1 = [] ∨ ∃ n, n ∈ s.rootMasters r.2.1 ∧ n.stratum < 14) → t.now = max s.now (s.fb.rootAt + 3 * s.hbUs))) ∧
  (∀ (k : Fin 8192) (r : Route) (s : State), s.jnOn = true → rtGet s.fb.shadow k = some r → Completes (.routeWithdraw k) s fun t =>
    t.fb.routes = s.fb.routes ∧
    (r.st = 2 → rtGet t.fb.shadow k = none ∧ r.goneAt + 2 * s.advUs ≤ t.now) ∧
    (r.st = 1 → rtGet t.fb.shadow k = some { r with st := 2, metric := 0xFFFF, goneAt := t.now } ∧
      t.fb.advDue = [true, true, true] ∧
      (s.hasNbr r.port r.next = true → r.at_ + 3 * s.advUs ≤ t.now) ∧
      (s.hasNbr r.port r.next = false → t.now = s.now))) ∧
  (∀ (node seqn : Fin 4096) (x : Xact) (s : State), (s.fb.xacts.find? fun y => y.node == node.val && y.seq == seqn.val) = some x →
    s.jnOn = true → x.body ≠ [] → Completes (.relayRetry node seqn) s fun t =>
      t.now = max s.now (x.lastAt + s.fbf Fd.fbConf.CTL_RETRY_MS * 1000) ∧
      ((s.routeTo x.node).isSome = true →
        t.fb.xacts = s.fb.xacts.map fun y => if y.node == x.node && y.seq == x.seq then { y with lastAt := t.now } else y) ∧
      (s.routeTo x.node = none → t.fb.xacts = (s.fb.xacts.filter fun y => !(y.node == node.val && y.seq == seqn.val)) ∧
        (∀ n, x.hdr.origin = .host n → n < 8 → Shape s → MemOk s → Answered t n x.hdr stUnreachable 0 (relayData 0 [])))) ∧
  (∀ (node seqn : Fin 4096) (x : Xact) (s : State), (s.fb.xacts.find? fun y => y.node == node.val && y.seq == seqn.val) = some x →
    Completes (.relayTimeout node seqn) s fun t =>
      x.since + x.tmoMs * 1000 ≤ t.now ∧
      (∀ n, x.hdr.origin = .host n → n < 8 → Shape s → MemOk s →
        Answered t n x.hdr stTimeout 0 (if x.body.isEmpty then [] else relayData 0 [])) ∧
      t.fb.xacts = s.fb.xacts.filter fun y => !(y.node == node.val && y.seq == seqn.val)) ∧
  (∀ (src seqn : Fin 4096) (q : PartXact) (s : State), (s.fb.parts.find? fun y => y.src == src.val && y.seq == seqn.val) = some q →
    Completes (.partialTransactionDiscard src seqn) s fun t =>
      t.fb.parts = s.fb.parts.erase q ∧ q.since + s.fbf Fd.fbConf.CTL_RETRY_MS * 1000 ≤ t.now ∧
      SameOutside [.now, .fabric] s t) ∧
  (∀ s : State, s.jnOn = true → s.fb.node ≠ 0 → Completes .bsSubSend s fun t =>
    t.fb.subAt = some t.now ∧ ∀ u, s.fb.subAt = some u → u + 60000000 ≤ t.now) ∧
  (∀ (node : Fin 4096) (x : Subscr) (s : State), (s.fb.subs.find? fun y => y.node == node.val) = some x →
    Completes (.subscriptionLapse node) s fun t =>
      t.fb.subs = s.fb.subs.filter (fun y => y.node != node.val) ∧ x.at_ + 180000000 ≤ t.now ∧
      SameOutside [.now, .fabric] s t) ∧
  (∀ s : State, s.jnOn = true → s.fb.node ≠ 0 → s.fb.conflict = false → s.per.running = true →
    s.fb.bsSent ≠ some s.per.count → Completes .boundarySend s fun t =>
      t.fb.bsSent = some s.per.count ∧ t.now = s.now)

/-- How entries reach the write list, become copies, and how the hour counters count: Before tc, while the list holds
fewer than 64 entries, the controller takes the oldest of Q-REC: an idle controller with an empty list starts its copy
at once, a busy one keeps it behind the others; a poisoned entry is not written but repeated later, and reported; an
empty queue counts an underrun, and past tc nothing is taken. A copy ends no earlier than its time; its bytes, with
the next SEQ and the commit byte, then stand at the copy that R382 names. An hour of VSUP or of Mainline adds 1 to
record 4 or 5 of region 6, and the next hour counts from its end. (R29, R42, R43, R382, R383, R384, R391, R392) -/
def Obligations.RecordsAreWritten : Prop :=
  (∀ (e : QE RecEntry) (l : List (QE RecEntry)) (s : State), Shape s → s.storeOn = true → s.pastTc = false →
    s.rs.queue = e :: l → s.rs.wlist.length < 64 → s.rs.waiting = [] → Completes .recEntryTake s fun t =>
      t.rs.queue = l ∧ t.rs.cells = s.rs.cells ∧
      (e.bad = false → s.rs.cur = none → s.rs.wlist = [] →
        t.rs.cur = some { e.val with data := s.entryData e.val, whole := true } ∧ t.rs.wlist = [] ∧
        t.rs.curEnd = s.now + cdiv (copyNs s.band (s.entryData e.val).length) 1000) ∧
      (e.bad = false → s.rs.cur.isSome = true → t.rs.wlist = s.rs.wlist ++ [e.val] ∧ t.rs.cur = s.rs.cur) ∧
      (e.bad = true → t.rs.again = s.rs.again ++ [{ e with bad := false }] ∧ t.rs.wlist = s.rs.wlist ∧
        Raised s t prRec evQueuePoison 0 4)) ∧
  (∀ s : State, Shape s → s.storeOn = true → s.pastTc = false → s.rs.queue = [] → Completes .recEntryTake s fun t =>
    (t.qst.getD 4 {}).underrun = min ((s.qst.getD 4 {}).underrun + 1) 65535 ∧ t.rs = s.rs) ∧
  (∀ s : State, s.pastTc = true → exec .recEntryTake s = .next s) ∧
  (∀ (e : RecEntry) (s : State), s.rs.cur = some e → s.storeOn = true → e.tag = 0 → Completes .recCopyDone s fun t =>
    let w := s.recTarget e.region e.record e.dflt e.data
    t.rs.cells = s.rs.cells.writeBytes w.1 w.2 ∧ s.rs.curEnd ≤ t.now ∧
    t.rs.copies = (s.rs.copies + 1) % 2 ^ 32 ∧ (s.rs.wlist = [] → t.rs.cur = none)) ∧
  (∀ s : State, Shape s → s.mn.phase = .run → Completes (.counterHour false) s fun t =>
    t.rs.hot.vsupSec = 0 ∧ t.rs.vsupFrom = s.rs.vsupFrom + (3600 - s.rs.hot.vsupSec) * 1000000 ∧ t.rs.vsupFrom ≤ t.now ∧
    (s.rs.again = [] → (∀ e, e ∈ s.rs.waiting → e.prod = 0) → t.counterNow 4 = (s.counterNow 4 + 1) % 2 ^ 32)) ∧
  (∀ (u : Nat) (s : State), Shape s → s.mn.phase = .run → s.rs.mainFrom = some u → Completes (.counterHour true) s fun t =>
    t.rs.hot.mainSec = 0 ∧ t.rs.mainFrom = some (u + (3600 - s.rs.hot.mainSec) * 1000000) ∧
    u + (3600 - s.rs.hot.mainSec) * 1000000 ≤ t.now ∧
    (s.rs.again = [] → (∀ e, e ∈ s.rs.waiting → e.prod = 0) → t.counterNow 5 = (s.counterNow 5 + 1) % 2 ^ 32))

/-- What is written as a copy reads back as that copy: For every cell contents, every address and every data length that
the slot holds, a copy of format version 2 written there is read as a valid copy with the same SEQ, default mark and
data; and a torn write that leaves the commit byte of the old contents, when that byte is not the one that belongs to
the new SEQ, is not read as a valid copy of version 2. (R379, R380, spec/14_records.md Table 14.3) -/
def Obligations.CopiesReadBack : Prop :=
  (∀ (m : Mem) (a lmax seq : Nat) (dflt : Bool) (data : List Byte), m.wf = true → data.length ≤ lmax → lmax < 65536 →
    seq < 2 ^ 32 →
    readCopy2 (m.writeBytes a (copyBytes a seq dflt data)) a lmax =
      some { v1 := false, seq := seq, dflt := dflt, data := data }) ∧
  (∀ (m : Mem) (a lmax seq : Nat) (dflt : Bool) (data : List Byte), m.wf = true → data.length ≤ lmax → lmax < 65536 →
    seq < 2 ^ 32 → (m.read (a + 12 + data.length)).toNat ≠ (seq % 256) ^^^ 0x5A →
    readCopy2 (m.writeBytes a ((copyBytes a seq dflt data).take (12 + data.length))) a lmax = none)

/-- A completed write of a record is what the controller serves: In cells in canonical form, where one copy of a record is
valid with SEQ N and the other is not valid, a write of the record goes to the other copy with SEQ N + 1, and the
record as judged afterwards has the new content, with both copies valid and no duplicate. (R381, R382,
spec/14_records.md Table 14.6) -/
def Obligations.TheRecordIsServed : Prop :=
  ∀ (m : Mem) (a lmax seq : Nat) (old new dflt : List Byte) (c : RecCopy) (inA : Bool), m.wf = true →
    new.length ≤ lmax → lmax < 65536 → seq < 2 ^ 32 → c.seq = seq → c.v1 = false → c.data = old →
    readCopy m a lmax = (if inA then some c else none) →
    readCopy m (a + slotSize lmax) lmax = (if inA then none else some c) →
    let sel := judgeRecord m a lmax dflt
    let at_ := if sel.toB then a + slotSize lmax else a
    let sel' := judgeRecord (m.writeBytes at_ (copyBytes at_ ((sel.seq + 1) % 2 ^ 32) false new)) a lmax dflt
    at_ = (if inA then a + slotSize lmax else a) ∧ sel'.data = new ∧ sel'.valid = 3 ∧ sel'.seq = (seq + 1) % 2 ^ 32 ∧
      sel'.dup = false

/-- What READ and QREAD drive, and what they leave alone: A READ or QREAD inside a device-to-host slot drives the slot's
bytes, one of a whole register its value, and one of buffer bytes that belong to the host the window's bytes; nothing
else of the state changes. Bytes beyond the end of the region or beyond 4,096 read as 0 and are reported with causes
0x01 and 0x02. A read of an unmapped address drives 0 and is reported with cause 0x08. One that ends before its
address is complete, or while the target does not answer, has no effect. (R95, R97, R98, R100, R461,
spec/04_host_link.md Table 4.2) -/
def Obligations.SpiReadsReturn : Prop :=
  (∀ (mk : Option (Fin 16777216) → Nat → Instr), mk = .spiRead ∨ mk = .spiQread → ∀ s : State,
    (s.spiAlive = false → ∀ a n, Completes (mk a n) s fun t => t = s) ∧
    (HostQuiet s →
      (∀ n, Completes (mk none n) s fun t => t = s) ∧
      (∀ (a : Fin 16777216) (k n : Nat), k < 8 → 0x1800 + 256 * k ≤ a.val → a.val + n ≤ 0x1900 + 256 * k →
        Completes (mk (some a) n) s fun t =>
          t.host.lastRead = s.host.d2h.bytes (a.val - 0x1800) n ∧ SameOutside [.link] s t ∧ t.host.busy = s.host.busy) ∧
      (∀ (a : Fin 16777216) (k n : Nat), k < 8 → 0x1800 + 256 * k ≤ a.val → a.val < 0x1900 + 256 * k →
        0x1900 + 256 * k < a.val + n → n ≤ 4096 → Completes (mk (some a) n) s fun t =>
          t.host.lastRead = s.host.d2h.bytes (a.val - 0x1800) (0x1900 + 256 * k - a.val) ++
            List.replicate (a.val + n - (0x1900 + 256 * k)) 0#8 ∧
          Violation t 0x01 (0x1900 + 256 * k) ∧ t.host.spiErr = true) ∧
      (∀ (a : Fin 16777216) (r : Nat), r < 16 → a.val = 4 * r → Completes (mk (some a) 4) s fun t =>
        t.host.lastRead = leBytes 4 (s.hwReg r) ∧ SameOutside [.link] s t) ∧
      (∀ (a : Fin 16777216) (d n : Nat), d < 64 → s.host.wdescValid = true → s.owner d = 1 →
        0x10000 + s.descBase d ≤ a.val → a.val + n ≤ 0x10000 + s.descBase d + s.descSize d → a.val + n ≤ 0x50000 → n ≤ 4096 →
        Completes (mk (some a) n) s fun t =>
          t.host.lastRead = s.host.window.bytes (a.val - 0x10000) n ∧ SameOutside [.link] s t) ∧
      (∀ (a : Fin 16777216) (d n : Nat), d < 64 → s.host.wdescValid = true → s.owner d = 1 →
        0x10000 + s.descBase d ≤ a.val → a.val + 4096 ≤ 0x10000 + s.descBase d + s.descSize d → 4096 < n → a.val + n ≤ 0x50000 →
        Completes (mk (some a) n) s fun t =>
          t.host.lastRead = s.host.window.bytes (a.val - 0x10000) 4096 ++ List.replicate (n - 4096) 0#8 ∧
          Violation t 0x02 (a.val + 4096) ∧ t.host.spiErr = true) ∧
      (∀ (a : Fin 16777216) (n : Nat), 0x50000 ≤ a.val → 0 < n → n ≤ 4096 → a.val + n ≤ 0x1000000 →
        Completes (mk (some a) n) s fun t =>
          t.host.lastRead = List.replicate n 0#8 ∧ Violation t 0x08 a.val ∧ t.host.spiErr = true) ∧
      (∀ (a : Fin 16777216) (n : Nat), 0x50000 ≤ a.val → 4096 < n → a.val + n ≤ 0x1000000 →
        Completes (mk (some a) n) s fun t => t.host.lastRead = List.replicate n 0#8 ∧ Violation t 0x08 a.val)))

/-- What WRITE, QWRITE and slot writes change, and what is discarded: A write inside a host-to-device slot that is free
puts its bytes there and changes nothing else; one into a busy slot is discarded with SLOT_ERR and cause 0x06. A write
to a device-to-host slot is discarded with cause 0x0B, one to an unmapped address with cause 0x08. A write inside a
buffer of the host's puts its bytes into the window. An unknown instruction byte is reported with cause 0x04 (log 65).
A transaction cut after 10 ms has the effect of what it carried, and cause 0x03 at the first byte that it did not
carry (log 44). (R97, R98, R99, R105, R461, log 44, log 65, spec/04_host_link.md Table 4.4) -/
def Obligations.SpiWritesLand : Prop :=
  (∀ (mk : Option (Fin 16777216) → List Byte → Instr), mk = .spiWrite ∨ mk = .spiQwrite → ∀ s : State,
    (s.spiAlive = false → ∀ a l, Completes (mk a l) s fun t => t = s) ∧
    (HostQuiet s →
      (∀ l, Completes (mk none l) s fun t => t = s) ∧
      (∀ (a : Fin 16777216) (k : Nat) (l : List Byte), k < 8 → l ≠ [] → 0x1000 + 256 * k ≤ a.val →
        a.val + l.length ≤ 0x1100 + 256 * k → Completes (mk (some a) l) s fun t =>
          (bitOf s.host.busy k = false → t.host.h2d = s.host.h2d.writeBytes (a.val - 0x1000) l ∧ t.host.window = s.host.window ∧
            t.host.d2h = s.host.d2h ∧ SameOutside [.buffers] s t) ∧
          (bitOf s.host.busy k = true → SameOutside [.link, .log] s t ∧ t.host.slotErr = true ∧ Violation t 0x06 a.val)) ∧
      (∀ (a : Fin 16777216) (k : Nat) (l : List Byte), k < 8 → l ≠ [] → 0x1800 + 256 * k ≤ a.val →
        a.val + l.length ≤ 0x1900 + 256 * k → Completes (mk (some a) l) s fun t =>
          SameOutside [.link, .log] s t ∧ t.host.spiErr = true ∧ Violation t 0x0B a.val) ∧
      (∀ (a : Fin 16777216) (l : List Byte), l ≠ [] → l.length ≤ 4096 → 0x2000 ≤ a.val → a.val + l.length ≤ 0x10000 →
        Completes (mk (some a) l) s fun t =>
          SameOutside [.link, .log] s t ∧ t.host.spiErr = true ∧ Violation t 0x08 a.val) ∧
      (∀ (a : Fin 16777216) (d : Nat) (l : List Byte), d < 64 → s.host.window.wf = true → s.host.wdescValid = true →
        s.owner d = 1 → ClearOfTable s d → l.length ≤ 4096 → 0x10000 + s.descBase d ≤ a.val →
        a.val + l.length ≤ 0x10000 + s.descBase d + s.descSize d → a.val + l.length ≤ 0x50000 →
        Completes (mk (some a) l) s fun t =>
          t.host.window = s.host.window.writeBytes (a.val - 0x10000) l ∧ t.host.h2d = s.host.h2d ∧ t.host.d2h = s.host.d2h ∧
          SameOutside [.buffers] s t))) ∧
  (∀ (slot : Fin 8) (off : Fin 256) (l : List Byte) (s : State), HostQuiet s → l ≠ [] → off.val + l.length ≤ 256 →
    Completes (.slotWrite slot off l) s fun t =>
      (bitOf s.host.busy slot = false → t.host.h2d = s.host.h2d.writeBytes (256 * slot.val + off.val) l ∧
        t.host.window = s.host.window ∧ t.host.d2h = s.host.d2h ∧ SameOutside [.buffers] s t) ∧
      (bitOf s.host.busy slot = true → SameOutside [.link, .log] s t ∧ t.host.slotErr = true ∧
        Violation t 0x06 (0x1000 + 256 * slot.val + off.val))) ∧
  (∀ (code : Byte) (s : State), HostQuiet s → code.toNat ≠ 0x1A → code.toNat ≠ 0x1E → code.toNat ≠ 0x2A → code.toNat ≠ 0x2E →
    Completes (.spiUnknownInstruction code) s fun t =>
      SameOutside [.link, .log] s t ∧ t.host.spiErr = true ∧ Violation t 0x04 0) ∧
  (∀ s : State, HostQuiet s → Completes (.spiCsTimeout .noAddress) s fun t =>
    SameOutside [.link, .log] s t ∧ t.host.spiErr = true ∧ Violation t 0x03 0) ∧
  (∀ (a : Fin 16777216) (k : Nat) (l : List Byte) (s : State), HostQuiet s → k < 8 → bitOf s.host.busy k = false → l ≠ [] →
    0x1000 + 256 * k ≤ a.val → a.val + l.length ≤ 0x1100 + 256 * k → Completes (.spiCsTimeout (.write a l)) s fun t =>
      t.host.h2d = s.host.h2d.writeBytes (a.val - 0x1000) l ∧ t.host.spiErr = true ∧ Violation t 0x03 (a.val + l.length)) ∧
  (∀ (a : Fin 16777216) (k n : Nat) (s : State), HostQuiet s → k < 8 → 0x1800 + 256 * k ≤ a.val → a.val + n ≤ 0x1900 + 256 * k →
    Completes (.spiCsTimeout (.read a n)) s fun t =>
      t.host.lastRead = s.host.d2h.bytes (a.val - 0x1800) n ∧ t.host.spiErr = true ∧ Violation t 0x03 (a.val + n))

/-- What the host's writes to the hardware registers do: A 1 written to a W1C bit of STATUS, of the doorbell register or
of HANDOVER clears it and leaves the others. IRQ_MASK takes its 13 bits. Ringing a free slot sets its busy bit, clears
its DB_RESP and queues its request behind those that wait; ringing a busy slot sets SLOT_ERR. WDESC takes base and
valid bit and zeroes the table when it becomes valid or moves; it refuses to move or close a table in use, which is
reported at 0x2C (log 65). A write of a whole register acts as that register's write, none on the registers that only
read, and one cut short changes no register and is reported with cause 0x07. (R13, R99, R102, R105, R111, R113, R461,
log 65, spec/04_host_link.md Table 4.3) -/
def Obligations.HostRegisters : Prop :=
  (∀ (v : Word) (s : State), HostQuiet s → Completes (.statusW1c v) s fun t =>
    t.host.ownErr = (s.host.ownErr && !bitOf v.toNat 3) ∧ t.host.spiErr = (s.host.spiErr && !bitOf v.toNat 2) ∧
    t.host.slotErr = (s.host.slotErr && !bitOf v.toNat 1) ∧ t.host.start = (s.host.start && !bitOf v.toNat 0) ∧
    SameOutside [.link] s t) ∧
  (∀ (v : Word) (s : State), HostQuiet s → Completes (.dbStatusW1c v) s fun t =>
    (∀ n, n < 13 → bitOf t.host.db n = (bitOf s.host.db n && !bitOf v.toNat n)) ∧ t.host.log = s.host.log ∧
    SameOutside [.log] s t) ∧
  (∀ (v : Word) (s : State), HostQuiet s → Completes (.irqMaskWrite v) s fun t =>
    t.host.irqMask = v.toNat % 2 ^ 13 ∧ SameOutside [.link] s t) ∧
  (∀ (hi : Bool) (v : Word) (s : State), HostQuiet s → Completes (.handoverW1c hi v) s fun t =>
    (∀ n, n < 32 → bitOf t.host.handover (if hi then n + 32 else n) =
      (bitOf s.host.handover (if hi then n + 32 else n) && !bitOf v.toNat n)) ∧
    (∀ n, n < 32 → bitOf t.host.handover (if hi then n else n + 32) = bitOf s.host.handover (if hi then n else n + 32)) ∧
    SameOutside [.link] s t) ∧
  (∀ (v : Word) (s : State), HostQuiet s → s.serves = false → Completes (.h2dDb v) s fun t =>
    (∀ n, n < 8 → bitOf t.host.busy n = (bitOf s.host.busy n || bitOf v.toNat n)) ∧
    (∀ n, n < 8 → bitOf v.toNat n = true → bitOf s.host.busy n = false → bitOf t.host.db n = false) ∧
    t.host.reqs = ((List.range 8).filter fun n => bitOf v.toNat n && !bitOf s.host.busy n).map (fun n => { origin := .host n }) ∧
    ((∃ n, n < 8 ∧ bitOf v.toNat n = true ∧ bitOf s.host.busy n = true) → t.host.slotErr = true ∧ Violation t 0x06 0x14)) ∧
  (∀ (v : Word) (s : State), HostQuiet s → s.host.window.wf = true → Completes (.wdescWrite v) s fun t =>
    let base := bits v.toNat 17 9
    let valid := bitOf v.toNat 0
    ((s.host.wdescValid = false ∨ ∀ d, d < 64 → s.owner d = 0) →
      t.host.wdescBase = base ∧ t.host.wdescValid = valid ∧
      (valid = true → s.host.wdescValid = false ∨ base ≠ s.host.wdescBase →
        ∀ d, d < 64 → t.descWord d 0 = 0 ∧ t.descWord d 1 = 0)) ∧
    (s.host.wdescValid = true → (∃ d, d < 64 ∧ s.owner d ≠ 0) → base ≠ s.host.wdescBase ∨ valid = false →
      t.host.wdescBase = s.host.wdescBase ∧ t.host.wdescValid = true ∧ t.host.window = s.host.window ∧
      t.host.ownErr = true ∧ Violation t 0x0A 0x2C)) ∧
  (∀ (reg : Fin 16) (l : List Byte) (s : State), HostQuiet s →
    (l.length = 4 → reg.val ∈ [4, 7, 8, 9, 10] → Completes (.regWrite reg l) s fun t => t = wrReg reg.val (leAt l 0 4) s) ∧
    (l.length = 4 → reg.val = 5 → exec (.regWrite reg l) s = exec (.h2dDb (wd (leAt l 0 4))) s) ∧
    (l.length = 4 → reg.val = 11 → exec (.regWrite reg l) s = exec (.wdescWrite (wd (leAt l 0 4))) s) ∧
    (l.length = 4 → reg.val ∈ [0, 1, 2, 3, 6, 12, 13, 14, 15] → exec (.regWrite reg l) s = .next s) ∧
    (0 < l.length → l.length < 4 → Completes (.regWrite reg l) s fun t =>
      t.host.spiErr = true ∧ Violation t 0x07 (4 * reg.val) ∧ t.host.reqs = s.host.reqs ∧ t.host.irqMask = s.host.irqMask ∧
      t.host.handover = s.host.handover ∧ t.host.wdescBase = s.host.wdescBase ∧ t.host.wdescValid = s.host.wdescValid ∧
      t.host.busy = s.host.busy ∧ SameOutside [.link, .log] s t))

/-- What the host may do to a window descriptor: A FREE descriptor is claimed with the size and base written, its word 1
zero, unless the buffer would clash. A resize writes the same word, so over a FREE descriptor it claims (Table 4.9). A
buffer of the host's is resized or moved under the same test alone (log 65), which ends a transfer through it (log
67); it is handed to the device unchanged, which counts as talk and locks it when a transfer goes on with it; it is
released with word 1 zeroed. Word 1 takes USE, LAST and FILL and keeps HSEQ, while the host owns the buffer. Any other
claim, resize, hand-over or release, of a buffer of the device's or a locked one or into a clash, is refused with
OWN_ERR and cause 0x09 and changes no descriptor; releasing a FREE one writes its word 0 with 0 and changes nothing
else; without a table each is reported with cause 0x05 (log 44). (R115, R118, R119, R120, log 44, log 65, log 67,
spec/04_host_link.md Table 4.9) -/
def Obligations.DescriptorsByTheHost : Prop :=
  (∀ (d : Fin 64) (sizeU : Fin 256) (baseU : Fin 1024) (s : State), HostQuiet s → s.host.window.wf = true →
    s.host.wdescValid = true →
    (s.owner d = 0 → s.descClash d sizeU baseU = false → Completes (.descClaim d sizeU baseU) s fun t =>
      t.owner d = 1 ∧ t.descSizeU d = sizeU ∧ t.descBaseU d = baseU ∧ t.descWord d 1 = 0 ∧ SameOutside [.buffers] s t) ∧
    (s.owner d = 0 → s.descClash d sizeU baseU = true → Completes (.descClaim d sizeU baseU) s fun t =>
      t.host.window = s.host.window ∧ t.host.ownErr = true ∧ Violation t 0x09 (0x10000 + s.descAt d)) ∧
    exec (.descResize d sizeU baseU) s = exec (.descClaim d sizeU baseU) s ∧
    (s.owner d = 2 ∨ s.owner d = 3 ∨ (s.owner d = 1 ∧ s.descClash d sizeU baseU = true) →
      ∀ c, c = .descClaim d sizeU baseU ∨ c = .descResize d sizeU baseU → Completes c s fun t =>
        t.host.window = s.host.window ∧ t.host.xfers = s.host.xfers ∧ t.host.ownErr = true ∧
        Violation t 0x09 (0x10000 + s.descAt d)) ∧
    (s.owner d = 1 → s.descClash d sizeU baseU = false → Completes (.descResize d sizeU baseU) s fun t =>
      t.owner d = 1 ∧ t.descSizeU d = sizeU ∧ t.descBaseU d = baseU ∧ t.descWord d 1 = s.descWord d 1 ∧
      (sizeU.val ≠ s.descSizeU d ∨ baseU.val ≠ s.descBaseU d → ∀ x, x ∈ t.host.xfers → x.desc ≠ d.val))) ∧
  (∀ (d : Fin 64) (s : State), HostQuiet s → Shape s → s.host.window.wf = true → s.host.wdescValid = true → s.owner d = 1 →
    Completes (.descHandToDevice d) s fun t =>
      t.owner d = (if s.host.xfers.any (fun x => x.desc == d.val) then 3 else 2) ∧ t.descSizeU d = s.descSizeU d ∧
      t.descBaseU d = s.descBaseU d ∧ t.descWord d 1 = s.descWord d 1 ∧ t.host.talkAt = s.now ∧ t.host.linkLost = false ∧
      t.host.idle.getD d 0 = 1 ∧ ∀ x, x ∈ t.host.xfers → x.desc = d.val → x.waitsHost = false) ∧
  (∀ (d : Fin 64) (s : State), HostQuiet s → s.host.window.wf = true → s.host.wdescValid = true → s.owner d = 1 →
    Completes (.descRelease d) s fun t =>
      t.owner d = 0 ∧ t.descWord d 1 = 0 ∧ ∀ x, x ∈ t.host.xfers → x.desc ≠ d.val) ∧
  (∀ (d : Fin 64) (s : State), HostQuiet s → s.host.wdescValid = true →
    (s.owner d ≠ 1 → Completes (.descHandToDevice d) s fun t =>
      t.host.window = s.host.window ∧ t.host.ownErr = true ∧ Violation t 0x09 (0x10000 + s.descAt d)) ∧
    (s.owner d = 2 ∨ s.owner d = 3 → Completes (.descRelease d) s fun t =>
      t.host.window = s.host.window ∧ t.host.ownErr = true ∧ Violation t 0x09 (0x10000 + s.descAt d)) ∧
    (s.owner d = 0 → s.host.window.wf = true → Completes (.descRelease d) s fun t =>
      t.descWord d 0 = 0 ∧ t.descWord d 1 = s.descWord d 1 ∧ SameOutside [.buffers] s t)) ∧
  (∀ (d : Fin 64) (v : Word) (s : State), HostQuiet s → s.host.window.wf = true → s.host.wdescValid = true →
    (s.owner d = 1 → bits v.toNat 18 17 = 0 → bits v.toNat 23 20 = 0 → bits v.toNat 16 0 ≤ s.descSize d →
      Completes (.descWord1Write d v) s fun t =>
        t.descUse d = 0 ∧ t.descFill d = bits v.toNat 16 0 ∧ t.descLast d = bitOf v.toNat 19 ∧
        bits (t.descWord d 1) 31 24 = bits (s.descWord d 1) 31 24 ∧ t.descWord d 0 = s.descWord d 0 ∧
        SameOutside [.buffers] s t) ∧
    (s.owner d ≠ 1 ∨ s.descSize d < bits v.toNat 16 0 → Completes (.descWord1Write d v) s fun t =>
      t.host.window = s.host.window ∧ t.host.ownErr = true ∧ Violation t 0x09 (0x10000 + s.descAt d + 4))) ∧
  (∀ (d : Fin 64) (sizeU : Fin 256) (baseU : Fin 1024) (v : Word) (s : State), HostQuiet s → s.host.wdescValid = false →
    (Completes (.descWord1Write d v) s fun t =>
      t.host.window = s.host.window ∧ t.host.ownErr = true ∧ Violation t 0x05 (0x10000 + s.descAt d + 4)) ∧
    ∀ c, c = .descClaim d sizeU baseU ∨ c = .descResize d sizeU baseU ∨ c = .descHandToDevice d ∨ c = .descRelease d →
      Completes c s fun t =>
        t.host.window = s.host.window ∧ t.host.ownErr = true ∧ Violation t 0x05 (0x10000 + s.descAt d))

/-- Chunks, the end of a transfer, and LINK_LOST: Each chunk to the host fills the buffer, or holds the rest with LAST,
and hands it to HOST; with the last chunk the request is answered OK with the bytes moved. A chunk from the host is
taken and the buffer handed back with FILL 0; one with FILL 0 and LAST 0 ends the transfer with RANGE, its DETAIL
naming TOTAL (which field is at fault is the reading of log 65). A host that holds a chunk longer than XFER_TMO_MS
ends the transfer with TIMEOUT and an event. A host that has not talked for LINK_TMO_S sets LINK_LOST, counts and logs
it. (R113, R118, R119, R120, log 65, spec/04_host_link.md Table 4.11) -/
def Obligations.TransfersAndTheSilentHost : Prop :=
  (∀ (d : Fin 64) (x : Xfer) (s : State), Shape s → MemOk s → s.xferOf d = some x → x.waitsHost = false → x.toHost = true →
    x.stream ≠ 0 → x.stream < 0x100 → ClearOfTable s d →
    (s.descSize d < x.total - x.moved → Completes (.xferChunkDone d) s fun t =>
      t.owner d = 1 ∧ t.descFill d = s.descSize d ∧ t.descLast d = false ∧ bitOf t.host.handover d = true ∧
      t.host.window.bytes (s.descBase d) (x.data.take (s.descSize d)).length = x.data.take (s.descSize d) ∧
      ∃ y, t.xferOf d = some y ∧ y.moved = x.moved + s.descSize d ∧ y.data = x.data.drop (s.descSize d) ∧ y.waitsHost = true) ∧
    (∀ n, x.hdr.origin = .host n → n < 8 → x.total - x.moved ≤ s.descSize d → Completes (.xferChunkDone d) s fun t =>
      t.owner d = 1 ∧ t.descFill d = x.total - x.moved ∧ t.descLast d = true ∧ t.xferOf d = none ∧
      Answered t n x.hdr stOk 0 (leBytes 4 (x.moved + (x.total - x.moved)) ++ leBytes 2 (x.chunks + 1) ++ [0#8, 0#8]))) ∧
  (∀ (d : Fin 64) (x : Xfer) (s : State), Shape s → MemOk s → s.xferOf d = some x → x.waitsHost = false → x.toHost = false →
    s.descLast d = false → s.descFill d ≤ s.descSize d →
    (s.descFill d ≠ 0 → Completes (.xferChunkDone d) s fun t =>
      t.owner d = 1 ∧ t.descFill d = 0 ∧
      ∃ y, t.xferOf d = some y ∧ y.moved = x.moved + s.descFill d ∧ y.waitsHost = true ∧
        y.data = x.data ++ s.host.window.bytes (s.descBase d) (s.descFill d)) ∧
    (s.descFill d = 0 → ∀ n, x.hdr.origin = .host n → n < 8 → x.stream < 0x100 → Completes (.xferChunkDone d) s fun t =>
      t.xferOf d = none ∧
      Answered t n x.hdr stRange 24 (leBytes 4 x.moved ++ leBytes 2 (x.chunks + 1) ++ [0#8, 0#8]))) ∧
  (∀ (d : Fin 64) (n : Nat) (x : Xfer) (s : State), Shape s → MemOk s → s.xferOf d = some x → x.waitsHost = true →
    x.hdr.origin = .host n → n < 8 → x.stream < 0x100 → Completes (.xferTimeout d) s fun t =>
      t.xferOf d = none ∧ x.since + s.cf (sysObj 0x040) Fd.hostlink.XFER_TMO_MS * 1000 ≤ t.now ∧
      Answered t n x.hdr stTimeout 0 (leBytes 4 x.moved ++ leBytes 2 x.chunks ++ [0#8, 0#8]) ∧
      Logged t evXferEnded 0 (stTimeout * 256 + d.val)) ∧
  (∀ s : State, s.mn.ready = true → s.cf (sysObj 0x040) Fd.hostlink.LINK_TMO_S ≠ 0 → s.host.linkLost = false →
    Completes .linkLost s fun t =>
      t.host.linkLost = true ∧ t.host.linkLosses = sat 16 (s.host.linkLosses + 1) ∧
      s.host.talkAt + s.cf (sysObj 0x040) Fd.hostlink.LINK_TMO_S * 1000000 ≤ t.now ∧
      Logged t evLinkLost 0 (sat 16 (s.host.linkLosses + 1)))

/-- What ringing a doorbell does to a request that does not pass, and to one that does: While mailbox service runs, a
request of more than 240 payload bytes is answered RANGE (a window transfer's with the eight zero bytes of Table 5.6),
and one whose check value does not match BAD_CHECK with its count; neither becomes the kept request. One that repeats
the kept SEQ is answered with the kept response, and is not executed again. One of an opcode that Table 5.3 does not
list is answered BAD_VERSION. One that passes Table 4.6 waits for its command, its slot busy. A mailbox row acts on
the request at the head only when that request carries its opcode (log 1). (R104, R105, R106, R107, R108, R120, log 1,
spec/05_commands.md Table 5.18, spec/04_host_link.md Table 4.6) -/
def Obligations.RequestsAreAnsweredOnce : Prop :=
  (∀ (n : Nat) (v : Word) (s : State), n < 8 → v.toNat = 2 ^ n → HostQuiet s → Shape s → MemOk s → bitOf s.host.busy n = false →
    s.serves = true →
    let k := s.readReq { origin := .host n }
    let okCheck := mailboxCheck n k.hdr.seq (s.host.h2d.bytes (256 * n) 12) k.payload = s.slotCheck n
    let reply := fun (t : State) (b : List Byte) =>
      t.host.d2h.bytes (256 * n) b.length = b ∧ bitOf t.host.db n = true ∧ bitOf t.host.busy n = false ∧ t.host.reqs = [] ∧
        t.host.kept = s.host.kept
    (240 < k.len → Completes (.h2dDb v) s fun t =>
      reply t (responseBytes n k.hdr ([by8 stRange, 0#8] ++ leBytes 2 2 ++ s.refusalData k stRange)) ∧
          t.host.badChecks = s.host.badChecks) ∧
    (k.len ≤ 240 → ¬ okCheck → Completes (.h2dDb v) s fun t =>
      reply t (responseBytes n k.hdr ([by8 stBadCheck, 0#8] ++ leBytes 2 0)) ∧
        t.host.badChecks = sat 16 (s.host.badChecks + 1)) ∧
    (∀ b, k.len ≤ 240 → okCheck → s.host.kept.getD n none = some (k.hdr.seq, b) → Completes (.h2dDb v) s fun t =>
      reply t b ∧ t.host.talkAt = s.now ∧ SameOutside [.link, .buffers, .log, .events, .recs] s t) ∧
    (k.len ≤ 240 → okCheck → (∀ b, s.host.kept.getD n none ≠ some (k.hdr.seq, b)) → s.slotFlags n = 0 →
      s.mn.ready = true → s.mn.mode ≠ .bufferStop → opRow k.hdr.opcode = none → Completes (.h2dDb v) s fun t =>
        Answered t n k.hdr stBadVersion 0 [] ∧ t.host.reqs = []) ∧
    ((wrH2dDb v.toNat s).verdict k = .pass → Completes (.h2dDb v) s fun t =>
      t.host.reqs = [{ origin := .host n }] ∧ bitOf t.host.busy n = true ∧ bitOf t.host.db n = false ∧
      t.host.d2h = s.host.d2h ∧ t.host.kept = s.host.kept)) ∧
  (∀ (c : Instr) (op m : Nat), (c, op) ∈ ([(.ping, 0x00), (.hello, 0x01), (.modeSet, 0x02), (.restartMain, 0x03), (.objGet, 0x10),
      (.objSet, 0x11), (.objDefault, 0x12), (.objList, 0x13), (.xferRead, 0x20), (.xferWrite, 0x21), (.checkval, 0x22),
      (.recRead, 0x30), (.recWrite, 0x31), (.recStat, 0x32), (.recUnlock, 0x33), (.recLock, 0x34), (.recPassword, 0x35),
      (.recDefault, 0x36)] ++ [(.fabRelay, 0x40), (.fabPing, 0x41), (.fabRediscover, 0x42), (.fabRoute, 0x43), (.canRecover, 0x50),
      (.canCancel, 0x51), (.ttCommit, 0x52), (.canStatsClear, 0x53), (.actSet, 0x60), (.actRelease, 0x61), (.fanClear, 0x62),
      (.valveProve, 0x63), (.evtRead, 0x70), (.evtFilter, 0x71), (.timeGet, 0x72), (.timeSet, 0x73), (.depRegRead, 0xE0),
      (.depRegWrite, 0xE1), (.depLoad, 0xE2), (.depSwitch, 0xE3), (.depKey1, 0xE4), (.depKey0Off, 0xE5), (.depSvcPw, 0xE6)] :
        List (Instr × Nat)) → m ≠ op →
    ∀ (n : Nat) (k : Task) (s : State), Due s m n k → Completes c s fun t => t = s)

/-- PING, HELLO, MODE_SET and RESTART_MAIN: PING returns its payload. HELLO opens a session in the highest common version,
forgets the kept requests of the other slots and ends record unlocks; it is BUSY while another slot is, and
BAD_VERSION without a common version. MODE_SET to Platform or Mainline acts at the Changeover it names, from Depot by
a restart; to Terminus or Halt when they can be entered; to Depot with the service password, a wrong one taking an
attempt. A mode asked for at one Changeover replaces one asked for at the same, and leaves those of others.
RESTART_MAIN restarts at a Changeover, at that of an earlier one if one is due. A denied MODE_SET answers 0xFFFFFFFF
for PERIOD_COUNT (log 65). Each is answered OK. (R77, R79, R81, R109, R129, R130, R135, R335, log 16, log 65,
spec/03_power_modes.md Table 3.6, spec/05_commands.md Table 5.4) -/
def Obligations.SessionAndModeCommands : Prop :=
  ∀ (n : Nat) (k : Task) (s : State), Shape s → MemOk s →
    (Due s 0x00 n k → Completes .ping s fun t => Answered t n k.hdr stOk 0 k.payload) ∧
    (Due s 0x01 n k → Zeros k.payload [2, 3] → 1 ≤ leAt k.payload 0 1 → leAt k.payload 0 1 ≤ leAt k.payload 1 1 →
      (putBit s.host.busy n false = 0 → leAt k.payload 0 1 ≤ s.mn.protoMax → Completes .hello s fun t =>
        let ver := min (leAt k.payload 1 1) s.mn.protoMax
        t.host.session = (s.host.session + 1) % 2 ^ 32 ∧ t.host.proto = ver ∧ t.host.linkLost = false ∧
        t.rs.unlockR = 0 ∧ t.rs.unlockW = 0 ∧ (∀ m, m ≠ n → t.host.kept.getD m none = none) ∧
        Answered t n k.hdr stOk 0 (t.helloData ver)) ∧
      (putBit s.host.busy n false ≠ 0 → Completes .hello s fun t =>
        t.host.session = s.host.session ∧ t.host.proto = s.host.proto ∧ Answered t n k.hdr stBusy 0 []) ∧
      (putBit s.host.busy n false = 0 → s.mn.protoMax < leAt k.payload 0 1 → Completes .hello s fun t =>
        t.host.session = s.host.session ∧ t.host.proto = s.host.proto ∧
        Answered t n k.hdr stBadVersion 0 (s.helloData 0))) ∧
    (Due s 0x02 n k → Zeros k.payload [1, 2, 3] → ∀ m : Mode, leAt k.payload 0 1 = m.code →
      (m = .platform ∨ m = .mainline → leAt k.payload 4 8 = 0 → m ≠ s.mn.mode → s.mn.mode ≠ .depot → Completes .modeSet s fun t =>
        t.mn.modeNext = (s.mn.modeNext.filter fun x => x.2 != s.coDue) ++ [(m, s.coDue)] ∧
            Answered t n k.hdr stOk 0 (s.modeData m.code s.coDue)) ∧
      (m = .platform ∨ m = .mainline → leAt k.payload 4 8 = 0 → s.mn.mode = .depot → Completes .modeSet s fun t =>
        t.mn.restartDue = some 0x02 ∧ t.mn.endMode = some m ∧ Answered t n k.hdr stOk 0 (s.modeData m.code 0xFFFFFFFF)) ∧
      (m = .terminus ∨ m = .halt → leAt k.payload 4 8 = 0 → m ≠ s.mn.mode → s.mn.mode ≠ .depot → s.pw.rtcLost = false →
        s.pw.vbkp = true →
        (m = .halt → s.wakeArmedBad = false ∧
          (s.cf (sysObj 0x030) Fd.power.ARM_WUF ≠ 0 ∨ s.cf (sysObj 0x030) Fd.power.ARM_WUP ≠ 0)) →
        (s.cfb (sysObj 0x030) Fd.power.ARM_RTC = true → rtcSeconds s < s.cf (sysObj 0x030) Fd.power.RTC_ALARM) →
        (s.anyGuardZone = false ∨ s.cfb (sysObj 0x030) Fd.power.GZ_STBY_OK = true) → Completes .modeSet s fun t =>
          t.mn.modeNext = (s.mn.modeNext.filter fun x => x.2 != s.coDue) ++ [(m, s.coDue)] ∧
              Answered t n k.hdr stOk 0 (s.modeData m.code s.coDue)) ∧
      (m = .depot → s.mn.mode ≠ .depot → s.svcAttempts ≠ 0 → Completes .modeSet s fun t =>
        (leAt k.payload 4 8 = s.svcPw → t.mn.modeNext = (s.mn.modeNext.filter fun x => x.2 != s.coDue) ++ [(.depot, s.coDue)] ∧
            t.mn.svcWrong = s.mn.svcWrong ∧
          Answered t n k.hdr stOk 0 (s.modeData 6 s.coDue)) ∧
        (leAt k.payload 4 8 ≠ s.svcPw → t.mn.modeNext = s.mn.modeNext ∧ t.svcAttempts = s.svcAttempts - 1 ∧
          Answered t n k.hdr stDenied 0 (t.modeData 6 0xFFFFFFFF)))) ∧
    (Due s 0x03 n k → leAt k.payload 0 4 = 0x4D545352 → Completes .restartMain s fun t =>
      t.mn.restartAtCo = some (s.mn.restartAtCo.getD (0x02, s.coDue)) ∧ Answered t n k.hdr stOk 0 (leBytes 4 s.coDue))

/-- OBJ_GET, OBJ_SET, OBJ_DEFAULT and OBJ_LIST: OBJ_GET answers the words of the group. A write that passes its checks and
takes effect at a Changeover waits for it, the words in force unchanged, and is answered with TAKES 1 (in a fabric the
node keeps its own PERIOD_MS, R22); one of a set-point group is in force at once, with TAKES 0. A write that fails a
check changes nothing and is answered with the status found. More words than the group has are answered PARTIAL.
OBJ_DEFAULT writes the defaults the same way, and of a group without a writable field nothing, with TAKES 0 (log 47).
OBJ_LIST answers the entries from a first index on. (R33, R110, R123, R125, R131, log 46, log 47, spec/05_commands.md
Table 5.5) -/
def Obligations.ObjectCommands : Prop :=
  ∀ (n : Nat) (k : Task) (g : Grp) (s : State), Shape s → MemOk s → grpOf k.hdr.object = some g →
    let o := k.hdr.object
    (Due s 0x10 n k → Completes .objGet s fun t =>
      let ws := (Taken s).getWords o g
      Answered t n k.hdr stOk 0 (leBytes 2 (4 * ws.length) ++ [0#8, 0#8] ++ bytesOfWords ws) ∧ t.cfg = s.cfg) ∧
    (Due s 0x11 n k → o ≠ profObj → Zeros k.payload [2, 3] → leAt k.payload 0 2 % 4 = 0 → leAt k.payload 0 2 + 4 ≤ k.len →
      let given := wordsOf (k.payload.drop 4) (leAt k.payload 0 2 / 4)
      let ws := (Taken s).completeWords o (given.take g.words)
      (∀ v, (Taken s).writeCheck o g ws = some v → v.1 ≠ stOk → v.1 ≠ stPartial → Completes .objSet s fun t =>
        t.cfg = s.cfg ∧ t.cfgPend = s.cfgPend ∧ Answered t n k.hdr v.1 v.2 []) ∧
      ((Taken s).writeCheck o g ws = none → ws ≠ [] → objCls o ≠ 0x09 → objCls o ≠ 0x0F → (Taken s).takesOf o g ws = 1 →
        Completes .objSet s fun t =>
          t.cfg = s.cfg ∧ t.cfgPend = s.cfgPend ++ [{ obj := o, words := (Taken s).keptWords o g ws, takes := 1, co := s.coDue }] ∧
          Answered t n k.hdr (if g.words < given.length then stPartial else stOk)
            (if g.words < given.length then 4 * g.words else 0) [1#8, 0#8, 0#8, 0#8]) ∧
      ((Taken s).writeCheck o g ws = none → ws ≠ [] → objCls o = 0x01 → objGrp o = 0x050 → Completes .objSet s fun t =>
        t.cfgPend = s.cfgPend ∧ t.rwWords o g = s.mergedWords o g ws ∧
        Answered t n k.hdr (if g.words < given.length then stPartial else stOk)
          (if g.words < given.length then 4 * g.words else 0) [0#8, 0#8, 0#8, 0#8])) ∧
    (Due s 0x12 n k → g.hasRw = false → Completes .objDefault s fun t =>
      t.cfg = s.cfg ∧ t.cfgPend = s.cfgPend ∧ Answered t n k.hdr stOk 0 [0#8, 0#8, 0#8, 0#8]) ∧
    (Due s 0x12 n k → g.hasRw = true → o ≠ profObj → objCls o ≠ 0x09 → objCls o ≠ 0x0F →
      let ws := (Taken s).completeWords o (g.dfltWords.take g.words)
      (Taken s).writeCheck o g ws = none → ws ≠ [] → (Taken s).takesOf o g ws = 1 → Completes .objDefault s fun t =>
        t.cfg = s.cfg ∧ t.cfgPend = s.cfgPend ++ [{ obj := o, words := (Taken s).keptWords o g ws, takes := 1, co := s.coDue }] ∧
        Answered t n k.hdr stOk 0 [1#8, 0#8, 0#8, 0#8]) ∧
    (Due s 0x13 n k → leAt k.payload 0 1 ≤ 1 → Zeros k.payload [1] → Completes .objList s fun t =>
      let l := (Taken s).listOf o (leAt k.payload 0 1)
      let sel := (l.drop (leAt k.payload 2 2)).take 116
      Answered t n k.hdr stOk 0 (leBytes 2 l.length ++ leBytes 2 sel.length ++ sel.flatMap (leBytes 2)))

/-- XFER_READ, XFER_WRITE and CHECKVAL: XFER_READ and XFER_WRITE with a stream, sub-stream and direction of Table 5.7,
whose passwords are open and whose buffer is the device's, lock the buffer and open a transfer of the bytes asked for;
the response waits for its end. A read gives the stream as it stands at the request (log 18). Without such a buffer
they are DENIED; a direction that the stream has not is RANGE, with nothing moved. CHECKVAL computes the preset over
the fold word and the buffer's bytes: APPEND writes the value behind them, CHECK compares it with the last ones and
changes no byte; both hand the buffer to HOST and answer the value, and a mismatch counts in BAD_CHECKS. Without a
buffer of the device it is DENIED; of a length beyond the buffer it is RANGE, and the buffer is handed back. (R54,
R118, R121, R132, R133, R215, R119, log 18, log 65, spec/05_commands.md Table 5.7) -/
def Obligations.WindowCommands : Prop :=
  ∀ (n : Nat) (k : Task) (s : State), Shape s → MemOk s →
    let p := k.payload
    let d := leAt p 0 1
    let st := leAt p 1 1
    let sub := leAt p 2 2
    let total := leAt p 8 4
    (Due s 0x20 n k → d ≤ 63 → dirOk st true = true → subOk st sub = true → total ≠ 0 → total ≤ 16777216 →
      s.streamOpen st sub true = true →
      (s.xferBuf d = true → st ≠ 0 → Completes .xferRead s fun t =>
        let l := (((Taken s).streamBytes st sub).drop (leAt p 4 4)).take total
        t.host.xfers = s.host.xfers ++
            [{ hdr := k.hdr, desc := d, stream := st, sub := sub, toHost := true, total := l.length, data := l, since := s.now }] ∧
            t.owner d = 3 ∧ Unanswered s t n) ∧
      (s.xferBuf d = true → st = 0 → Completes .xferRead s fun t =>
        t.host.xfers = s.host.xfers ++
            [{ hdr := k.hdr, desc := d, stream := st, sub := sub, toHost := true, total := min total (528 * s.zs.trend.length - leAt p 4 4), off := leAt p 4 4, first := s.zs.frames + 1 - s.zs.trend.length, since := s.now }]
            ∧ t.owner d = 3 ∧ Unanswered s t n) ∧
      (s.xferBuf d = false → Completes .xferRead s fun t =>
        t.host.xfers = s.host.xfers ∧ Answered t n k.hdr stDenied 0 [])) ∧
    (∀ c : Instr, c = .xferRead ∧ Due s 0x20 n k ∧ dirOk st true = false ∨ c = .xferWrite ∧ Due s 0x21 n k ∧ dirOk st false = false →
      d ≤ 63 → Completes c s fun t =>
        t.host.xfers = s.host.xfers ∧ Answered t n k.hdr stRange 17 (List.replicate 8 0#8)) ∧
    (Due s 0x21 n k → d ≤ 63 → dirOk st false = true → subOk st sub = true → leAt p 4 4 = 0 → total ≠ 0 → total ≤ 16777216 →
      s.streamOpen st sub false = true → s.xferBuf d = true → Completes .xferWrite s fun t =>
        t.host.xfers = s.host.xfers ++
            [{ hdr := k.hdr, desc := d, stream := st, sub := sub, toHost := false, total := total, since := s.now }] ∧ t.owner d = 3 ∧
            Unanswered s t n) ∧
    (Due s 0x21 n k → d ≤ 63 → dirOk st false = true → subOk st sub = true → leAt p 4 4 = 0 → total ≠ 0 → total ≤ 16777216 →
      s.streamOpen st sub false = true → s.xferBuf d = false → Completes .xferWrite s fun t =>
        t.host.xfers = s.host.xfers ∧ Answered t n k.hdr stDenied 0 []) ∧
    (∀ (c : CrcParams), Due s 0x22 n k → d ≤ 63 → crcPreset st = some c → leAt p 2 1 ≤ 1 → leAt p 3 1 ≤ 8 →
      (∀ i, leAt p 3 1 ≤ i → i < 8 → p.getD (4 + i) 0#8 = 0#8) → leAt p 12 4 ≠ 0 → s.deviceBuf d = false →
      Completes .checkval s fun t => t.host.window = s.host.window ∧ Answered t n k.hdr stDenied 0 []) ∧
    (∀ (c : CrcParams), Due s 0x22 n k → d ≤ 63 → crcPreset st = some c → leAt p 2 1 ≤ 1 → leAt p 3 1 ≤ 8 →
      (∀ i, leAt p 3 1 ≤ i → i < 8 → p.getD (4 + i) 0#8 = 0#8) → s.descSize d < leAt p 12 4 → s.deviceBuf d = true →
      s.descUse d = 0 → Completes .checkval s fun t =>
        t.owner d = 1 ∧ Answered t n k.hdr stRange 28 []) ∧
    (∀ (c : CrcParams), Due s 0x22 n k → d ≤ 63 → crcPreset st = some c → leAt p 2 1 ≤ 1 → leAt p 3 1 ≤ 8 →
      (∀ i, leAt p 3 1 ≤ i → i < 8 → p.getD (4 + i) 0#8 = 0#8) → leAt p 12 4 ≠ 0 →
      s.deviceBuf d = true → s.descUse d = 0 →
      let w := c.width / 8
      let len := leAt p 12 4
      let fold := (p.drop 4).take (leAt p 3 1)
      (leAt p 2 1 = 0 → len + w ≤ s.descSize d → Completes .checkval s fun t =>
        let v := crcOf c (fold ++ s.host.window.bytes (s.descBase d) len)
        t.owner d = 1 ∧ Answered t n k.hdr stOk 0 (leBytes 4 v ++ leBytes 4 (len + w)) ∧
        (ClearOfTable s d → t.host.window.bytes (s.descBase d + len) w = leBytes w v)) ∧
      (leAt p 2 1 = 1 → w ≤ len → len ≤ s.descSize d → Completes .checkval s fun t =>
        let v := crcOf c (fold ++ s.host.window.bytes (s.descBase d) (len - w))
        t.owner d = 1 ∧
        Answered t n k.hdr (if s.host.window.le (s.descBase d + (len - w)) w = v then stOk else stBadCheck) 0
          (leBytes 4 v ++ leBytes 4 (len - w)) ∧
        t.host.badChecks = (if s.host.window.le (s.descBase d + (len - w)) w = v then s.host.badChecks
          else sat 16 (s.host.badChecks + 1)) ∧
        (ClearOfTable s d → t.host.window.bytes (s.descBase d) len = s.host.window.bytes (s.descBase d) len)))

/-- The REC commands: reads, writes, locks and passwords: REC_READ answers length, VALID and the bytes asked for.
REC_WRITE and REC_DEFAULT of a record that may be written enter Q-REC as a command's write and are answered when it is
done; a region whose write password is closed is DENIED. A record of regions 8 to 15, which hold none, is RANGE.
REC_STAT answers the region's counts and locks. REC_UNLOCK and REC_PASSWORD with the right password unlock, or write
the new password's record; a wrong one takes an attempt and is DENIED. REC_LOCK locks both ways. (R134, R135, R378,
R382, R391, R396, R397, spec/05_commands.md Table 5.8, spec/14_records.md Table 14.2) -/
def Obligations.RecordCommands : Prop :=
  ∀ (n : Nat) (k : Task) (s : State), Shape s → MemOk s →
    let p := k.payload
    let r := objInst k.hdr.object
    let rec_ := leAt p 0 2
    let off := leAt p 2 2
    let len := leAt p 4 2
    (Due s 0x30 n k → recAllowed 0x30 r rec_ = true → s.recReadable r = true → rec_ < s.recCount r → Zeros p [6, 7] → 0 < len →
      len ≤ 232 → off + len ≤ (s.recData r rec_).length → Completes .recRead s fun t =>
        let sel := s.recSel r rec_
        Answered t n k.hdr stOk 0 (leBytes 2 sel.data.length ++ [by8 sel.valid, 0#8] ++ (sel.data.drop off).take len) ∧
        t.rs.cells = s.rs.cells) ∧
    (Due s 0x31 n k → 16 ≤ r → s.recWritable r = true → rec_ < s.recCount r → Zeros p [6, 7] → 0 < len → len ≤ 232 →
      len + 8 = k.len → off + len ≤ (s.recData r rec_).length → Completes .recWrite s fun t =>
        Entered t { region := r, record := rec_, offset := off, whole := false, data := p.drop 8, cmd := true, tag := s.rs.nextTag } ∧
        t.host.waiting = s.host.waiting ++ [{ hdr := k.hdr, kind := .record s.rs.nextTag 0 }] ∧
        t.rs.nextTag = s.rs.nextTag + 1 ∧ Unanswered s t n) ∧
    (∀ c : Instr, (c = .recRead ∧ Due s 0x30 n k ∧ s.recReadable r = true) ∨
        (c = .recWrite ∧ Due s 0x31 n k ∧ s.recWritable r = true) ∨ (c = .recDefault ∧ Due s 0x36 n k ∧ s.recWritable r = true) →
      8 ≤ r → r < 16 → Completes c s fun t => Answered t n k.hdr stRange 16 [] ∧ t.host.waiting = s.host.waiting) ∧
    (Due s 0x31 n k → 16 ≤ r → s.recWritable r = false → Completes .recWrite s fun t =>
      Answered t n k.hdr stDenied 0 [] ∧ t.host.waiting = s.host.waiting) ∧
    (Due s 0x32 n k → Completes .recStat s fun t =>
      Answered t n k.hdr stOk 0 (leBytes 2 (s.recCount r) ++ [by8 (s.locks r), by8 (s.attempts r)] ++
        leBytes 4 (regionPlace r).2 ++ leBytes 2 (s.rs.dups.filter fun d => d.1 == r).length ++ [0#8, 0#8])) ∧
    (∀ wr : Bool, Due s 0x33 n k → leAt p 0 1 = b2n wr → Zeros p [1, 2, 3] → s.attempts r ≠ 0 →
      (leAt p 4 8 = s.regionPw r wr → Completes .recUnlock s fun t =>
        bitOf (if wr then t.rs.unlockW else t.rs.unlockR) r = true ∧
        (if wr then t.rs.unlockR = s.rs.unlockR else t.rs.unlockW = s.rs.unlockW) ∧
        Answered t n k.hdr stOk 0 [by8 (s.attempts r)]) ∧
      (leAt p 4 8 ≠ s.regionPw r wr → r < s.rs.wrong.length → Completes .recUnlock s fun t =>
        t.attempts r = s.attempts r - 1 ∧ t.rs.unlockR = s.rs.unlockR ∧ t.rs.unlockW = s.rs.unlockW ∧
        Answered t n k.hdr stDenied 0 [by8 (s.attempts r - 1)])) ∧
    (Due s 0x34 n k → Completes .recLock s fun t =>
      bitOf t.rs.unlockR r = false ∧ bitOf t.rs.unlockW r = false ∧ Answered t n k.hdr stOk 0 []) ∧
    (∀ wr : Bool, Due s 0x35 n k → leAt p 0 1 = b2n wr → Zeros p [1, 2, 3] → s.attempts r ≠ 0 →
      (leAt p 4 8 = s.regionPw r wr → Completes .recPassword s fun t =>
        Entered t
            { region := 0, record := 6 + r, offset := if wr then 8 else 0, whole := false, data := leBytes 8 (leAt p 12 8), cmd := true, tag := s.rs.nextTag }
            ∧
        t.host.waiting = s.host.waiting ++ [{ hdr := k.hdr, kind := .record s.rs.nextTag 0 }] ∧ Unanswered s t n) ∧
      (leAt p 4 8 ≠ s.regionPw r wr → r < s.rs.wrong.length → Completes .recPassword s fun t =>
        t.attempts r = s.attempts r - 1 ∧ t.host.waiting = s.host.waiting ∧
        Answered t n k.hdr stDenied 0 [by8 (s.attempts r - 1)])) ∧
    (Due s 0x36 n k → 16 ≤ r → s.recWritable r = true → rec_ < s.recCount r → Zeros p [2, 3] → Completes .recDefault s fun t =>
      Entered t
          { region := r, record := rec_, data := recDefault r rec_ ((s.lens r).getD rec_ 0), dflt := true, cmd := true, tag := s.rs.nextTag }
          ∧
      t.host.waiting = s.host.waiting ++ [{ hdr := k.hdr, kind := .record s.rs.nextTag 0 }] ∧ Unanswered s t n)

/-- The fabric, CAN and Timetable commands: FAB_RELAY and FAB_PING to a reachable node open a transaction with the next
sequence number; without a route they are answered UNREACHABLE and counted. FAB_REDISCOVER acts at the Changeover it
names; FAB_ROUTE answers the words of an entry. CAN_RECOVER starts the recovery of a port that holds; CAN_CANCEL takes
out a frame that is not under way and is DENIED, the cancel latched, for one that is; TT_COMMIT marks a pending matrix
that fits, and is RANGE for one that does not; CAN_STATS_CLEAR clears the counts. (R136, R137, R138, R329, R343, R345,
R363, R370, R371, R375, spec/05_commands.md Table 5.10) -/
def Obligations.FabricAndCanCommands : Prop :=
  ∀ (n : Nat) (k : Task) (s : State), Shape s → MemOk s →
    let p := k.payload
    let node := leAt p 0 2
    let tmo := leAt p 2 2
    let c := objInst k.hdr.object
    (node ≠ 0 → node ≤ 4095 → node ≠ s.fb.node → 10 ≤ tmo → tmo ≤ 5000 →
      (Due s 0x40 n k → (relayFamily (leAt p 4 1)).isSome = true → Zeros p [5, 6, 7] →
        (s.routeTo node = none → Completes .fabRelay s fun t =>
          t.fb.noRoute = sat 16 (s.fb.noRoute + 1) ∧ t.fb.xacts = s.fb.xacts ∧
          Answered t n k.hdr stUnreachable 0 (relayData 0 [])) ∧
        (∀ r, s.routeTo node = some r → Completes .fabRelay s fun t =>
          ∃ x, t.fb.xacts = s.fb.xacts ++ [x] ∧ x.node = node ∧ x.seq = s.fb.seq ∧ x.tmoMs = tmo ∧ x.since = s.now ∧
            x.hdr = k.hdr ∧ t.fb.seq = (s.fb.seq + 1) % 4096 ∧ Unanswered s t n ∧
            x.body = [p.getD 4 0#8, by8 s.host.proto] ++ leBytes 2 (p.drop 12).length ++ (p.drop 8).take 4 ++ p.drop 12)) ∧
      (Due s 0x41 n k →
        (s.routeTo node = none → Completes .fabPing s fun t =>
          t.fb.noRoute = sat 16 (s.fb.noRoute + 1) ∧ t.fb.xacts = s.fb.xacts ∧ Answered t n k.hdr stUnreachable 0 []) ∧
        (∀ r, s.routeTo node = some r → Completes .fabPing s fun t =>
          ∃ x, t.fb.xacts = s.fb.xacts ++ [x] ∧ x.node = node ∧ x.seq = s.fb.seq ∧ x.tmoMs = tmo ∧ x.since = s.now ∧
            x.hdr = k.hdr ∧ x.body = [] ∧ t.fb.seq = (s.fb.seq + 1) % 4096 ∧ Unanswered s t n))) ∧
    (Due s 0x42 n k → Completes .fabRediscover s fun t =>
      t.fb.rediscover = s.fb.rediscover ++ [s.coDue] ∧ Answered t n k.hdr stOk 0 (leBytes 4 s.coDue)) ∧
    (Due s 0x43 n k → node ≤ 8191 → Zeros p [2, 3] → Completes .fabRoute s fun t =>
      Answered t n k.hdr stOk 0 (leBytes 4 (s.routeWords node).1 ++ leBytes 4 (s.routeWords node).2 ++ List.replicate 8 0#8) ∧
      t.fb = s.fb) ∧
    (Due s 0x50 n k → c < 3 →
      ((s.port c).st = .held → Completes .canRecover s fun t =>
        (t.port c).st = .busOff ∧ (t.port c).byCommand = true ∧ (t.port c).offAt = s.now ∧ (t.port c).recovs = [] ∧
        Answered t n k.hdr stOk 0 [2#8, 0#8, 0#8, 0#8]) ∧
      ((s.port c).st = .active ∨ (s.port c).st = .passive → Completes .canRecover s fun t =>
        t.cans = s.cans ∧
        Answered t n k.hdr stOk 0 [if 128 ≤ (s.port c).tec ∨ 128 ≤ (s.port c).recv then 1#8 else 0#8, 0#8, 0#8, 0#8])) ∧
    (∀ (q : Bool) (i : Nat), Due s 0x51 n k → c < 3 → leAt p 0 1 = b2n q → leAt p 1 1 = i → i ≤ 31 → Zeros p [2, 3] →
      (∀ it, (s.port c).item q i = some it → (s.port c).air ≠ some (q, i) → (s.port c).qFabo = [] → (s.port c).backlog = [] →
        Completes .canCancel s fun t => (t.port c).item q i = none ∧ Answered t n k.hdr stOk 0 []) ∧
      (∀ it, (s.port c).item q i = some it → (s.port c).air = some (q, i) → Completes .canCancel s fun t =>
        (∀ j, j ∈ (t.port c).tx → j.queue = q → j.idx = i → j.cancel = true) ∧ Answered t n k.hdr stDenied 0 [])) ∧
    (Due s 0x52 n k → c < 3 →
      ((s.port c).tt.pend = none → Completes .ttCommit s fun t => t.cans = s.cans ∧ Answered t n k.hdr stDenied 0 []) ∧
      (∀ m, (s.port c).tt.pend = some m → mxFits m (s.canTim c) s.msJudged = true → Completes .ttCommit s fun t =>
        (t.port c).tt.commit = (s.port c).tt.commit ++ [s.coDue] ∧ Answered t n k.hdr stOk 0 [1#8, 0#8, 0#8, 0#8]) ∧
      (∀ m, (s.port c).tt.pend = some m → mxFits m (s.canTim c) s.msJudged = false → Completes .ttCommit s fun t =>
        t.cans = s.cans ∧ ∃ detail, Answered t n k.hdr stRange detail [])) ∧
    (Due s 0x53 n k → c < 3 → Completes .canStatsClear s fun t =>
      (t.port c).txFrames = 0 ∧ (t.port c).rxFrames = 0 ∧ (t.port c).txFails = 0 ∧ (t.port c).truncs = 0 ∧
      (t.port c).rxOvf = 0 ∧ (t.port c).implaus = 0 ∧ (t.port c).busOffs = 0 ∧ (t.port c).tdcFails = 0 ∧
      (t.port c).ramParity = 0 ∧ (t.port c).clash = 0 ∧ Answered t n k.hdr stOk 0 [])

/-- The direct actuator and the diagnostics commands: ACT_SET of a value the stage accepts holds the stage with its
duration and enters Q-CMD; a stage that Guard carries is DENIED. ACT_RELEASE ends it. FAN_CLEAR and VALVE_PROVE enter
Q-CMD for DE (R16), and are DENIED on a stage that Guard carries: the first is answered when DE has executed it (log
29), the second when its stroke has been judged. EVT_READ answers log entries; EVT_FILTER sets the threshold; TIME_GET
and TIME_SET read and set the clock, which a node that follows the fabric's wall time refuses. (R138, R139, R140,
R141, R262, R282, R362, log 29, spec/05_commands.md Table 5.11, spec/05_commands.md Table 5.13) -/
def Obligations.DirectAndDiagnosticCommands : Prop :=
  ∀ (n : Nat) (k : Task) (s : State), Shape s → MemOk s →
    let p := k.payload
    (∀ st, Stage.of (objCls k.hdr.object) (objInst k.hdr.object) = some st → s.unusedStage st = false →
      (Due s 0x60 n k → fNotFinite (wd (leAt p 0 4)) = false → Zeros p [5, 6, 7] →
        ((leAt p 4 1 = 1 ∧ leAt p 8 4 = 0) ∨ (leAt p 4 1 = 2 ∧ 0 < leAt p 8 4 ∧ leAt p 8 4 ≤ 86400)) →
        s.linkedAo st = false → s.stageAccepts st (wd (leAt p 0 4)) = true →
        (s.guardCarries st = false → Completes .actSet s fun t =>
          t.directOf st = some
              { stage := st, value := wd (leAt p 0 4), endAt := if leAt p 8 4 = 0 then none else some (s.now + leAt p 8 4 * 1000000) } ∧
          Posted t 1 { stage := st, act := .set (wd (leAt p 0 4)) } ∧
          Answered t n k.hdr stOk 0 [by8 (b2n (s.clampedBy st (wd (leAt p 0 4)))), 0#8, 0#8, 0#8]) ∧
        (s.guardCarries st = true → Completes .actSet s fun t =>
          t.directOf st = s.directOf st ∧ Answered t n k.hdr stDenied 0 [])) ∧
      (Due s 0x61 n k → Completes .actRelease s fun t =>
        t.directOf st = none ∧ Answered t n k.hdr stOk 0 [] ∧ (∀ st', st' ≠ st → t.directOf st' = s.directOf st'))) ∧
    (∀ f : Fin 12, Due s 0x62 n k → objInst k.hdr.object = f.val →
      (s.guardCarries (.fan f) = false → Completes .fanClear s fun t =>
        Posted t 1 { stage := .fan f, act := .clear } ∧ t.act.fans = s.act.fans ∧
        t.host.waiting = s.host.waiting ++ [{ hdr := k.hdr, kind := .clear f.val }] ∧ Unanswered s t n) ∧
      (s.guardCarries (.fan f) = true → Completes .fanClear s fun t => t.act = s.act ∧ Answered t n k.hdr stDenied 0 [])) ∧
    (∀ ch : Fin 24, Due s 0x63 n k → objInst k.hdr.object = ch.val →
      (s.unusedStage (.valve ch) = false → s.guardCarries (.valve ch) = false → Completes .valveProve s fun t =>
        Posted t 1 { stage := .valve ch, act := .prove } ∧ t.act.proves = s.act.proves ++ [{ gang := ch.val, since := s.now }] ∧
        t.act.valves = s.act.valves ∧
        t.host.waiting = s.host.waiting ++ [{ hdr := k.hdr, kind := .prove ch.val s.now }] ∧ Unanswered s t n) ∧
      (s.unusedStage (.valve ch) = true ∨ s.guardCarries (.valve ch) = true → Completes .valveProve s fun t =>
        t.act = s.act ∧ Answered t n k.hdr stDenied 0 [])) ∧
    (Due s 0x70 n k → 0 < leAt p 4 1 → leAt p 4 1 ≤ 11 → Zeros p [5, 6, 7] → Completes .evtRead s fun t =>
      let r := (Taken s).logFrom (leAt p 0 4) (leAt p 4 1)
      Answered t n k.hdr stOk 0 (leBytes 4 r.1 ++ leBytes 4 (((Taken s).host.seqno + 2 ^ 32 - 1) % 2 ^ 32) ++
        [by8 r.2.length, 0#8, 0#8, 0#8] ++ r.2.flatMap fun e => e.bytesWith e.seqno)) ∧
    (Due s 0x71 n k → leAt p 0 1 ≤ 3 → Zeros p [1, 2, 3] → Completes .evtFilter s fun t =>
      t.host.minPri = leAt p 0 1 ∧ Answered t n k.hdr stOk 0 []) ∧
    (Due s 0x72 n k → Completes .timeGet s fun t =>
      Answered t n k.hdr stOk 0 (leBytes 6 (rtcCount s) ++ [0#8, 0#8] ++ leBytes 8 (unsgn 64 s.fabTime) ++ leBytes 4 s.per.count) ∧
      t.rtc = s.rtc) ∧
    (Due s 0x73 n k → Zeros p [6, 7] →
      (s.wallTaken = false → Completes .timeSet s fun t =>
        t.rtc.base = leAt p 0 6 ∧ t.rtc.at_ = s.now ∧ t.rtc.valid = true ∧ rtcCount t = leAt p 0 6 ∧ Answered t n k.hdr stOk 0 []) ∧
      (s.wallTaken = true → Completes .timeSet s fun t => t.rtc = s.rtc ∧ Answered t n k.hdr stDenied 0 []))

/-- The Depot commands and the raw check-value unit: DEP_REG_READ answers the registers of a block; DEP_REG_WRITE writes
them in order, and POLY takes the word written. DEP_LOAD locks its buffer and opens the load of a bank that is not
running. DEP_SWITCH to a LOADED bank restarts the main domain, is DENIED for a bank that is not LOADED, and BAD_CHECK,
counted, for one whose image fails. DEP_KEY1 writes records 3 and 4 once, also while its write is pending,
DEP_KEY0_OFF record 4, DEP_SVC_PW record 2 with the right password. START takes INIT into the register; DATA8 feeds
one byte; DATA32 does what its four bytes do, lowest first. (R55, R56, R73, R79, R142, R143, R144, R391,
spec/05_commands.md Table 5.14, spec/02_queues_checks.md Table 2.9) -/
def Obligations.DepotCommands : Prop :=
  (∀ (n : Nat) (k : Task) (s : State), Shape s → MemOk s →
    let p := k.payload
    let b := leAt p 0 1
    (∀ size, blockSize b = some size → Zeros p [1, 6, 7] → leAt p 2 2 % 4 = 0 → 0 < leAt p 4 2 → leAt p 4 2 ≤ 58 →
      leAt p 2 2 + 4 * leAt p 4 2 ≤ size →
      (Due s 0xE0 n k → Completes .depRegRead s fun t =>
        Answered t n k.hdr stOk 0 ((List.range (leAt p 4 2)).flatMap fun i => leBytes 4 (s.blockRead b (leAt p 2 2 + 4 * i)))) ∧
      (Due s 0xE1 n k → k.len = 8 + 4 * leAt p 4 2 →
        (∀ i, i < leAt p 4 2 → wordFault b (leAt p 2 2 + 4 * i) (leAt p (8 + 4 * i) 4) = none) →
        let r := (Taken s).blockWrites b (leAt p 2 2) ((List.range (leAt p 4 2)).map fun i => leAt p (8 + 4 * i) 4)
        Completes .depRegWrite s fun t =>
          t.crc = r.1.crc ∧ t.cans = r.1.cans ∧ t.act = r.1.act ∧ Answered t n k.hdr (if r.2 then stDenied else stOk) 0 [] ∧
          (b = 0 → leAt p 2 2 = 4 → leAt p 4 2 = 1 → r.2 = false ∧ t.crc.poly = leAt p 8 4 ∧ t.crc.reg = s.crc.reg))) ∧
    (Due s 0xE2 n k → b ≤ 63 → leAt p 1 1 ≤ 1 → Zeros p [2, 3] → 512 ≤ leAt p 4 4 → leAt p 4 4 ≤ 4194304 →
      (s.mn.phase ≠ .run ∨ leAt p 1 1 ≠ s.mn.bankRun) → (∀ x, x ∈ s.host.xfers → x.stream ≠ 0x100 + leAt p 1 1) →
      s.xferBuf b = true → Completes .depLoad s fun t =>
        t.host.xfers = s.host.xfers ++
            [{ hdr := k.hdr, desc := b, stream := 0x100 + leAt p 1 1, sub := 0, toHost := false, total := leAt p 4 4, since := s.now }] ∧
            t.owner b = 3 ∧ Unanswered s t n) ∧
    (Due s 0xE3 n k → b ≤ 1 → Zeros p [1, 2, 3] →
      (s.bankState b = 1 → s.imageOk b = true → Completes .depSwitch s fun t =>
        t.mn.restartDue = some 0x21 ∧ Answered t n k.hdr stOk 0 []) ∧
      (s.bankState b = 1 → s.imageOk b = false → Completes .depSwitch s fun t =>
        t.mn.restartDue = s.mn.restartDue ∧ t.host.badChecks = sat 16 (s.host.badChecks + 1) ∧
        Answered t n k.hdr stBadCheck 0 []) ∧
      (s.bankState b ≠ 1 → Completes .depSwitch s fun t =>
        t.mn.restartDue = s.mn.restartDue ∧ Answered t n k.hdr stDenied 0 [])) ∧
    (Due s 0xE4 n k → (s.key1.isSome = true ∨ s.pendRecs.any (fun e => e.region == 0 && e.record == 3) = true) →
      Completes .depKey1 s fun t => t.rs = s.rs ∧ Answered t n k.hdr stDenied 0 []) ∧
    (Due s 0xE4 n k → s.key1 = none → s.pendRecs.any (fun e => e.region == 0 && e.record == 3) = false →
      onP256 (beNat (p.take 32), beNat (p.drop 32)) = true → Completes .depKey1 s fun t =>
      let e3 : RecEntry := { region := 0, record := 3, data := p, cmd := true }
      ({ val := e3, prod := 0 } ∈ t.rs.queue ∨ { val := e3, prod := 0 } ∈ t.rs.waiting) ∧
      Entered t { region := 0, record := 4, data := leBytes 4 0, cmd := true, tag := s.rs.nextTag } ∧
      t.host.waiting = s.host.waiting ++ [{ hdr := k.hdr, kind := .record s.rs.nextTag 0 }] ∧ Unanswered s t n) ∧
    (Due s 0xE5 n k → leAt p 0 4 = 0x46464F4B → s.key1.isSome = true → Completes .depKey0Off s fun t =>
      Entered t { region := 0, record := 4, data := leBytes 4 1, cmd := true, tag := s.rs.nextTag } ∧
      t.host.waiting = s.host.waiting ++ [{ hdr := k.hdr, kind := .record s.rs.nextTag 0 }] ∧ Unanswered s t n) ∧
    (Due s 0xE6 n k → s.svcAttempts ≠ 0 →
      (leAt p 0 8 = s.svcPw → Completes .depSvcPw s fun t =>
        Entered t { region := 0, record := 2, data := leBytes 8 (leAt p 8 8), cmd := true, tag := s.rs.nextTag } ∧
        t.host.waiting = s.host.waiting ++ [{ hdr := k.hdr, kind := .record s.rs.nextTag 0 }] ∧ Unanswered s t n) ∧
      (leAt p 0 8 ≠ s.svcPw → Completes .depSvcPw s fun t =>
        t.svcAttempts = s.svcAttempts - 1 ∧ Answered t n k.hdr stDenied 0 [by8 (s.svcAttempts - 1)]))) ∧
  (∀ s : State, s.depotOpen = true →
    (Completes .crcStart s fun t => t.crc.reg = s.crc.init % 2 ^ s.crc.width ∧ SameOutside [.crc] s t) ∧
    (s.crc.err = true → ∀ b, Completes (.crcData8 b) s fun t => t = s) ∧
    (s.crc.err = false → ∀ b, Completes (.crcData8 b) s fun t =>
      t.crc.reg = crcByte s.crc.params s.crc.reg b ∧ t.crc.poly = s.crc.poly ∧ SameOutside [.crc] s t) ∧
    (∀ v : Word, Completes (.crcData32 v) s fun t => ∃ t1 t2 t3,
      exec (.crcData8 (v.extractLsb' 0 8)) s = .next t1 ∧ exec (.crcData8 (v.extractLsb' 8 8)) t1 = .next t2 ∧
      exec (.crcData8 (v.extractLsb' 16 8)) t2 = .next t3 ∧ exec (.crcData8 (v.extractLsb' 24 8)) t3 = .next t))

/-- The four check-value presets and their check values: The presets 0 to 3 have the width, polynomial, initial value,
reflection and final XOR of Table 2.7, there is no other preset, and each gives the check value of Table 2.7 over the
nine bytes "123456789", appended lowest byte first. (R52) -/
def Obligations.TheCheckValuePresets : Prop :=
  crcPreset 0 = some ⟨8, 0x07, 0x00, false, false, 0x00⟩ ∧ crcPreset 1 = some ⟨16, 0x1021, 0xFFFF, false, false, 0x0000⟩ ∧
  crcPreset 2 = some ⟨32, 0x04C11DB7, 0xFFFFFFFF, true, true, 0xFFFFFFFF⟩ ∧
  crcPreset 3 = some ⟨32, 0x1EDC6F41, 0xFFFFFFFF, true, true, 0xFFFFFFFF⟩ ∧ (∀ k, 4 ≤ k → crcPreset k = none) ∧
  (let nine : List Byte := [0x31#8, 0x32#8, 0x33#8, 0x34#8, 0x35#8, 0x36#8, 0x37#8, 0x38#8, 0x39#8]
   (crcPreset 0).map (fun c => crcOf c nine) = some 0xF4 ∧ (crcPreset 1).map (fun c => crcOf c nine) = some 0x29B1 ∧
   (crcPreset 2).map (fun c => crcOf c nine) = some 0xCBF43926 ∧ (crcPreset 3).map (fun c => crcOf c nine) = some 0xE3069283 ∧
   leBytes 1 (crcOf crc8Smbus nine) = [0xF4#8] ∧ leBytes 2 (crcOf crc16Ibm nine) = [0xB1#8, 0x29#8] ∧
   leBytes 4 (crcOf crc32Iso nine) = [0x26#8, 0x39#8, 0xF4#8, 0xCB#8] ∧
   leBytes 4 (crcOf crc32c nine) = [0x83#8, 0x92#8, 0x06#8, 0xE3#8])

/-- Which of two valid copies is newer: For 32-bit sequence numbers, X is newer than Y exactly when their difference
modulo 2^32, read as a signed number, is positive; of two valid copies with different SEQ the judged record has the
content and SEQ of the newer one when either is; and the number that a write of the record uses wraps at 2^32. (R381) -/
def Obligations.TheNewerOfTwoCopies : Prop :=
  (∀ x y : Word, seqNewer x.toNat y.toNat = true ↔ 0 < (x - y).toInt) ∧
  (∀ (m : Mem) (a lmax : Nat) (dflt : List Byte) (x y : RecCopy), readCopy m a lmax = some x →
    readCopy m (a + slotSize lmax) lmax = some y → x.seq < 2 ^ 32 → y.seq < 2 ^ 32 →
    (seqNewer x.seq y.seq = true → (judgeRecord m a lmax dflt).data = x.data ∧ (judgeRecord m a lmax dflt).seq = x.seq) ∧
    (seqNewer y.seq x.seq = true → (judgeRecord m a lmax dflt).data = y.data ∧ (judgeRecord m a lmax dflt).seq = y.seq)) ∧
  (∀ (s : State) (r k : Nat) (dflt : Bool) (data : List Byte), (s.recSel r k).seq = 2 ^ 32 - 1 →
    (s.recTarget r k dflt data).2 = copyBytes (s.recTarget r k dflt data).1 0 dflt data)

/-- After reset every table has its length and every memory its canonical form: State.reset has every table at the length
that the spec gives it, every addressed memory in canonical form (log 3; the moment of reset is log 4), and an empty
queue of commands. (spec/01_architecture.md the part as a whole, spec/02_queues_checks.md Table 2.2,
spec/14_records.md Table 14.1, log 3, log 4) -/
def Obligations.ResetIsInOrder : Prop :=
  Shape State.reset ∧ MemOk State.reset ∧ State.reset.pending = [] ∧ core.reset = State.reset

/-- Every step keeps the length of every table and the canonical form of every memory: From every state whose tables have
their lengths and whose memories are in canonical form, whatever command stands at the front of the queue, a step that
answers a next state answers one whose tables have their lengths and whose memories are in canonical form. (The
canonical form is the model's choice, log 3.) (spec/02_queues_checks.md Table 2.2, spec/04_host_link.md Table 4.2,
spec/14_records.md Table 14.1, log 3) -/
def Obligations.EveryStepKeepsTablesAndMemories : Prop :=
  ∀ s t : State, Shape s → MemOk s → step s = .next t → Shape t ∧ MemOk t

/-- Every command runs but a start with TEST_EN high, none is refused, and no command turns time back: In every state
every command answers a next state, unless it starts the part with TEST_EN sampled high: VSUP_VALID without supply and
without the standby latch, or a wake in standby with VSUP valid. Then the only other outcome is the fault
productionTest, because the manual does not describe that state (R441). No command is refused. No command changes the
queue of waiting commands, and none turns model time back; neither does a step, and a step takes at most the command
at the front. (R441, log 51, log 1, R65) -/
def Obligations.EveryCommandRuns : Prop :=
  (∀ (c : Instr) (s : State), ¬ StartsInTest c s → ∃ t, exec c s = .next t) ∧
  (∀ (c : Instr) (s : State), (∃ t, exec c s = .next t) ∨ exec c s = .fault .productionTest) ∧
  (∀ (l : List Nat) (s : State), StartsInTest (.vsupValid l) s → exec (.vsupValid l) s = .fault .productionTest) ∧
  (∀ (c : Instr) (s t : State), exec c s = .next t → t.pending = s.pending ∧ s.now ≤ t.now) ∧
  (∀ s t : State, step s = .next t → t.pending = s.pending.drop 1 ∧ s.now ≤ t.now)

/-- What the commands that reach neither a CAN port nor the fabric leave unchanged: A command that writes no CAN port and
no fabric state changes at most the parts that writesOf lists for it: every other part of the state, memories and
queues included, is as before. A fan's own timers leave the other fans as they are, a tachometer edge every other fan,
and a door window the other zones. (spec/01_architecture.md Table 1.1, spec/09_valve_drivers.md Table 9.5,
spec/10_fans_outputs.md Table 10.3, spec/14_records.md Table 14.1) -/
def Obligations.FramesInsideTheBlock : Prop :=
  (∀ c : Instr, Part.cans ∉ writesOf c → Part.fabric ∉ writesOf c → Frame (writesOf c) c) ∧
  (∀ (n : Fin 12) (c : Instr) (s t : State), c ∈ [.kickEnd n, .fanBackoffReset n, .fanOpenLoadEnd n, .tachEdge n] →
    exec c s = .next t → ∀ m, m ≠ n.val → t.fan m = s.fan m) ∧
  (∀ (z : Fin 32) (s t : State), exec (.doorWindowExpiry z) s = .next t → ∀ y, y ≠ z.val → t.zone y = s.zone y)

/-- What the commands of the host, the mailbox, CAN and the fabric leave unchanged: A command that may write a CAN port or
the fabric's state changes at most the parts that writesOf lists for it: every other part of the state, memories and
queues included, is as before. What happens on one CAN port leaves the other ports as they are. A request that a
mailbox row executes (but for OBJ_SET, OBJ_DEFAULT and DEP_REG_WRITE, whose writes can act on anything) writes no byte
of the host-to-device slots and, in the device-to-host slots, the bytes of its response alone, or none while it is not
answered; and no byte of the window but, where it names a buffer, in that buffer and its descriptor. (spec/12_can.md
Table 12.8, spec/13_fabric.md Table 13.9, spec/04_host_link.md Table 4.2, spec/05_commands.md Table 5.3) -/
def Obligations.FramesOfLinkAndFabric : Prop :=
  (∀ c : Instr, Part.cans ∈ writesOf c ∨ Part.fabric ∈ writesOf c → Frame (writesOf c) c) ∧
  (∀ (p : Fin 3) (c : Instr) (s t : State),
    (c ∈ [.canBusOff p, .canRecovered p, .canTxdTimeout p, .busIntegration p, .send p, .rawAbort p, .pop p] ∨
      (∃ r, c = .canTxStart p r ∨ c = .ttWindowStart p r ∨ c = .ttCycleStart ⟨p, r⟩ ∨ c = .segmentAloneSend ⟨p, r⟩) ∨ (∃ r,
          c = .canTxDone p r) ∨ ∃ l i, c = .canRxError p l i) →
    exec c s = .next t → ∀ q, q ≠ p.val → t.port q = s.port q) ∧
  (∀ (n op : Nat) (k : Task) (c : Instr) (s t : State),
    let plain : List (Instr × Nat) := [(.ping, 0x00), (.hello, 0x01), (.modeSet, 0x02), (.restartMain, 0x03), (.objGet, 0x10),
      (.objList, 0x13), (.recRead, 0x30), (.recWrite, 0x31), (.recStat, 0x32), (.recUnlock, 0x33), (.recLock, 0x34),
      (.recPassword, 0x35), (.recDefault, 0x36), (.fabRelay, 0x40), (.fabPing, 0x41), (.fabRediscover, 0x42), (.fabRoute, 0x43)] ++
      [(.canRecover, 0x50), (.canCancel, 0x51), (.ttCommit, 0x52), (.canStatsClear, 0x53), (.actSet, 0x60), (.actRelease, 0x61),
      (.fanClear, 0x62), (.valveProve, 0x63), (.evtRead, 0x70), (.evtFilter, 0x71), (.timeGet, 0x72), (.timeSet, 0x73),
      (.depRegRead, 0xE0), (.depSwitch, 0xE3), (.depKey1, 0xE4), (.depKey0Off, 0xE5), (.depSvcPw, 0xE6)]
    let window : List (Instr × Nat) := [(.xferRead, 0x20), (.xferWrite, 0x21), (.checkval, 0x22), (.depLoad, 0xE2)]
    (c, op) ∈ plain ++ window → Shape s → MemOk s → Due s op n k → exec c s = .next t →
      t.host.h2d = s.host.h2d ∧
      (∀ b, t.host.kept.getD n none = some (k.hdr.seq, b) → ∀ a, a < 256 * n ∨ 256 * n + b.length ≤ a →
        t.host.d2h.read a = s.host.d2h.read a) ∧
      (bitOf t.host.busy n = true → t.host.d2h = s.host.d2h) ∧
      ((c, op) ∈ plain → t.host.window = s.host.window) ∧
      (let d := leAt k.payload 0 1
       ∀ a, a < s.descAt d ∨ s.descAt d + 8 ≤ a → a < s.descBase d ∨ s.descBase d + s.descSize d ≤ a →
        t.host.window.read a = s.host.window.read a))
end

