-- ==== Sys2Proof/Laws/Frame.lean ====
section
/-!
SUPPORT. Sys2Proof/Laws/Frame.lean: how frames compose: a frame is reflexive, transitive and grows with its list of parts; a
fold over a list has the frame of its step.
-/
namespace Sys2Proof
open Machine

/-- Every part of `V` is a part of `W`. -/
def subParts (V W : List Part) : Bool := V.all fun p => W.contains p

theorem subParts_mem {V W : List Part} (h : subParts V W = true) {p : Part} (hp : p ∈ V) : p ∈ W := by
  have := List.all_eq_true.mp h p hp
  simpa using this

theorem subParts_trans {U V W : List Part} (h : subParts U V = true) (g : subParts V W = true) : subParts U W = true :=
  List.all_eq_true.mpr fun p hp => by simpa using subParts_mem g (subParts_mem h hp)

theorem subParts_contains {V W : List Part} (h : subParts V W = true) {p : Part} (hp : p ∈ V) : W.contains p = true := by
  simpa using subParts_mem h hp

theorem Part.same_refl (s : State) (p : Part) : p.same s s := by
  cases p <;> simp [Part.same]

theorem Part.same_trans {s t u : State} {p : Part} (h : p.same s t) (g : p.same t u) : p.same s u := by
  cases p <;> simp only [Part.same] at * <;> simp_all

namespace SameOutside

variable {V W : List Part} {s t u : State}

theorem refl (W : List Part) (s : State) : SameOutside W s s := ⟨fun p _ => p.same_refl s⟩

theorem trans (h : SameOutside W s t) (g : SameOutside W t u) : SameOutside W s u :=
  ⟨fun p hp => Part.same_trans (h.same p hp) (g.same p hp)⟩

theorem mono (h : SameOutside V s t) (hs : subParts V W = true) : SameOutside W s t :=
  ⟨fun p hp => h.same p fun hv => hp (subParts_mem hs hv)⟩

/-- Appends a step with a smaller frame. -/
theorem next (h : SameOutside W s t) (g : SameOutside V t u) (hs : subParts V W = true) : SameOutside W s u :=
  h.trans (g.mono hs)

/-- A record update whose new fields lie in `W` keeps the frame. -/
theorem update {y : State}
    {f_now} {f_pw} {f_rtc} {f_mn} {f_per} {f_qEvt} {f_prods} {f_qst} {f_host} {f_crc} {f_rs} {f_band} {f_se} {f_zs} {f_act} {f_pr} {f_pn} {f_cans} {f_fb} {f_gd} {f_th} {f_st} {f_cfg} {f_cfgPend} {f_flashA} {f_flashB} {f_pending} {f_freeCtr}
    (h : SameOutside W s y)
    (c_now : W.contains .now = true ∨ f_now = y.now := by first | with_reducible exact Or.inr rfl | exact Or.inl (by decide) | exact Or.inr rfl)
    (c_pw : W.contains .supply = true ∨ f_pw = y.pw := by first | with_reducible exact Or.inr rfl | exact Or.inl (by decide) | exact Or.inr rfl)
    (c_rtc : W.contains .rtc = true ∨ f_rtc = y.rtc := by first | with_reducible exact Or.inr rfl | exact Or.inl (by decide) | exact Or.inr rfl)
    (c_mode : W.contains .mode = true ∨ (f_mn.mode = y.mn.mode ∧ f_mn.lastMode = y.mn.lastMode) := by first | exact Or.inl (by decide) | exact Or.inr ⟨rfl, rfl⟩)
    (c_main : W.contains .main = true ∨ { f_mn with mode := .shunting, lastMode := .shunting } = { y.mn with mode := .shunting, lastMode := .shunting } := by first | with_reducible exact Or.inr rfl | exact Or.inl (by decide) | exact Or.inr rfl)
    (c_per : W.contains .per = true ∨ f_per = y.per := by first | with_reducible exact Or.inr rfl | exact Or.inl (by decide) | exact Or.inr rfl)
    (c_qEvt : W.contains .events = true ∨ f_qEvt = y.qEvt := by first | with_reducible exact Or.inr rfl | exact Or.inl (by decide) | exact Or.inr rfl)
    (c_prods : W.contains .events = true ∨ f_prods = y.prods := by first | with_reducible exact Or.inr rfl | exact Or.inl (by decide) | exact Or.inr rfl)
    (c_qst : W.contains .events = true ∨ f_qst = y.qst := by first | with_reducible exact Or.inr rfl | exact Or.inl (by decide) | exact Or.inr rfl)
    (c_log : W.contains .log = true ∨ (f_host.log = y.host.log ∧ f_host.seqno = y.host.seqno ∧ f_host.db = y.host.db) := by first | exact Or.inl (by decide) | exact Or.inr ⟨rfl, rfl, rfl⟩)
    (c_link : W.contains .link = true ∨ { f_host with log := [], seqno := 0, db := 0, h2d := [], d2h := [], window := [] } = { y.host with log := [], seqno := 0, db := 0, h2d := [], d2h := [], window := [] } := by first | with_reducible exact Or.inr rfl | exact Or.inl (by decide) | exact Or.inr rfl)
    (c_buf : W.contains .buffers = true ∨ (f_host.h2d = y.host.h2d ∧ f_host.d2h = y.host.d2h ∧ f_host.window = y.host.window) := by first | exact Or.inl (by decide) | exact Or.inr ⟨rfl, rfl, rfl⟩)
    (c_crc : W.contains .crc = true ∨ f_crc = y.crc := by first | with_reducible exact Or.inr rfl | exact Or.inl (by decide) | exact Or.inr rfl)
    (c_cells : W.contains .cells = true ∨ f_rs.cells = y.rs.cells := by first | with_reducible exact Or.inr rfl | exact Or.inl (by decide) | exact Or.inr rfl)
    (c_recs : W.contains .recs = true ∨ { f_rs with cells := [] } = { y.rs with cells := [] } := by first | with_reducible exact Or.inr rfl | exact Or.inl (by decide) | exact Or.inr rfl)
    (c_band : W.contains .band = true ∨ f_band = y.band := by first | with_reducible exact Or.inr rfl | exact Or.inl (by decide) | exact Or.inr rfl)
    (c_se : W.contains .sense = true ∨ f_se = y.se := by first | with_reducible exact Or.inr rfl | exact Or.inl (by decide) | exact Or.inr rfl)
    (c_zs : W.contains .zones = true ∨ f_zs = y.zs := by first | with_reducible exact Or.inr rfl | exact Or.inl (by decide) | exact Or.inr rfl)
    (c_act : W.contains .act = true ∨ f_act = y.act := by first | with_reducible exact Or.inr rfl | exact Or.inl (by decide) | exact Or.inr rfl)
    (c_pr : W.contains .predict = true ∨ f_pr = y.pr := by first | with_reducible exact Or.inr rfl | exact Or.inl (by decide) | exact Or.inr rfl)
    (c_pn : W.contains .panel = true ∨ f_pn = y.pn := by first | with_reducible exact Or.inr rfl | exact Or.inl (by decide) | exact Or.inr rfl)
    (c_cans : W.contains .cans = true ∨ f_cans = y.cans := by first | with_reducible exact Or.inr rfl | exact Or.inl (by decide) | exact Or.inr rfl)
    (c_fb : W.contains .fabric = true ∨ f_fb = y.fb := by first | with_reducible exact Or.inr rfl | exact Or.inl (by decide) | exact Or.inr rfl)
    (c_gd : W.contains .guard = true ∨ f_gd = y.gd := by first | with_reducible exact Or.inr rfl | exact Or.inl (by decide) | exact Or.inr rfl)
    (c_th : W.contains .thermal = true ∨ { f_th with bufStop := none } = { y.th with bufStop := none } := by first | with_reducible exact Or.inr rfl | exact Or.inl (by decide) | exact Or.inr rfl)
    (c_bs : W.contains .bufStop = true ∨ f_th.bufStop = y.th.bufStop := by first | with_reducible exact Or.inr rfl | exact Or.inl (by decide) | exact Or.inr rfl)
    (c_st : W.contains .straps = true ∨ f_st = y.st := by first | with_reducible exact Or.inr rfl | exact Or.inl (by decide) | exact Or.inr rfl)
    (c_cfg : W.contains .cfg = true ∨ f_cfg = y.cfg := by first | with_reducible exact Or.inr rfl | exact Or.inl (by decide) | exact Or.inr rfl)
    (c_cfgPend : W.contains .cfgPend = true ∨ f_cfgPend = y.cfgPend := by first | with_reducible exact Or.inr rfl | exact Or.inl (by decide) | exact Or.inr rfl)
    (c_flashA : W.contains .flash = true ∨ f_flashA = y.flashA := by first | with_reducible exact Or.inr rfl | exact Or.inl (by decide) | exact Or.inr rfl)
    (c_flashB : W.contains .flash = true ∨ f_flashB = y.flashB := by first | with_reducible exact Or.inr rfl | exact Or.inl (by decide) | exact Or.inr rfl)
    (c_pending : W.contains .pending = true ∨ f_pending = y.pending := by first | with_reducible exact Or.inr rfl | exact Or.inl (by decide) | exact Or.inr rfl)
    (c_freeCtr : W.contains .free = true ∨ f_freeCtr = y.freeCtr := by first | with_reducible exact Or.inr rfl | exact Or.inl (by decide) | exact Or.inr rfl) :
    SameOutside W s (State.mk f_now f_pw f_rtc f_mn f_per f_qEvt f_prods f_qst f_host f_crc f_rs f_band f_se f_zs f_act f_pr f_pn f_cans f_fb f_gd f_th f_st f_cfg f_cfgPend f_flashA f_flashB f_pending f_freeCtr) := by
  have k (p : Part) (q : Prop) (hp : p ∉ W) (c : W.contains p = true ∨ q) : q := by simpa [hp] using c
  refine ⟨fun p hp => Part.same_trans (h.same p hp) ?_⟩
  cases p with
  | now => exact k _ _ hp c_now
  | supply => exact k _ _ hp c_pw
  | rtc => exact k _ _ hp c_rtc
  | mode => exact k _ _ hp c_mode
  | main => exact k _ _ hp c_main
  | per => exact k _ _ hp c_per
  | events => exact ⟨k _ _ hp c_qEvt, k _ _ hp c_prods, k _ _ hp c_qst⟩
  | log => exact k _ _ hp c_log
  | link => exact k _ _ hp c_link
  | buffers => exact k _ _ hp c_buf
  | crc => exact k _ _ hp c_crc
  | cells => exact k _ _ hp c_cells
  | recs => exact k _ _ hp c_recs
  | band => exact k _ _ hp c_band
  | sense => exact k _ _ hp c_se
  | zones => exact k _ _ hp c_zs
  | act => exact k _ _ hp c_act
  | predict => exact k _ _ hp c_pr
  | panel => exact k _ _ hp c_pn
  | cans => exact k _ _ hp c_cans
  | fabric => exact k _ _ hp c_fb
  | guard => exact k _ _ hp c_gd
  | thermal => exact k _ _ hp c_th
  | bufStop => exact k _ _ hp c_bs
  | straps => exact k _ _ hp c_st
  | cfg => exact k _ _ hp c_cfg
  | cfgPend => exact k _ _ hp c_cfgPend
  | flash => exact ⟨k _ _ hp c_flashA, k _ _ hp c_flashB⟩
  | pending => exact k _ _ hp c_pending
  | free => exact k _ _ hp c_freeCtr

/-- A fold over a list has the frame of its step. -/
theorem foldl {α : Type} {f : State → α → State} (hf : ∀ x a, SameOutside W x (f x a)) (l : List α) (s : State) :
    SameOutside W s (l.foldl f s) := by
  induction l generalizing s with
  | nil => exact refl W s
  | cons a l ih => exact (hf s a).trans (ih (f s a))

/-- A fold over a list after a prefix has the frame of both. -/
theorem foldl' {α : Type} {f : State → α → State} {l : List α} (h : SameOutside W s t) (hf : ∀ x a, SameOutside W x (f x a)) :
    SameOutside W s (l.foldl f t) :=
  h.trans (foldl hf l t)

/-- A named intermediate state: its frame is shown once, and nothing else of it is used. -/
theorem gen (x : State) (h : SameOutside W s x) (k : SameOutside W s x → SameOutside W s u) : SameOutside W s u := k h

/-- The state of a pair. -/
theorem of_fst {β : Type} {b : β} {p : State × β} (h : p = (u, b)) (k : SameOutside W s p.1) : SameOutside W s u := by
  subst h; exact k

/-- The state of an optional result. -/
theorem of_some {o : Option State} (h : o = some u) (k : SameOutside W s (o.getD t)) : SameOutside W s u := by
  subst h; exact k

/-- The types whose local values keep their definition in a frame's proof: a part of the state is a part of their fields. -/
inductive Kept : Type → Prop
  | host : Kept HostLink
  | recs : Kept RecStore
  | main : Kept Main
  | thermal : Kept Thermal
  | pair {β : Type} : Kept (State × β)

theorem keep {α : Type} (_ : α) (h : SameOutside W s u) (_ : Kept α := by constructor) : SameOutside W s u := h

end SameOutside

end Sys2Proof
end

