-- ==== Sys2Proof/Laws/Mem.lean ====
section
/-!
SUPPORT. Sys2Proof/Laws/Mem.lean: the addressed memories: every write keeps the canonical form, a byte reads as it was written last,
and a write leaves every other byte as it was.
-/
namespace Sys2Proof.Machine
open Sys2Proof

/-! ### One byte -/

/-- The canonical form of a longer memory. -/
theorem Mem.wfFrom_cons {k lo : Nat} {b : Byte} {m : Mem} :
    Mem.wfFrom lo ((k, b) :: m) = true ↔ lo ≤ k ∧ b ≠ 0 ∧ Mem.wfFrom (k + 1) m = true := by
  simp only [Mem.wfFrom, Bool.and_eq_true, decide_eq_true_eq, and_assoc]

theorem Mem.wfFrom_mono {m : Mem} {lo lo' : Nat} (h : lo' ≤ lo) (w : Mem.wfFrom lo m = true) : Mem.wfFrom lo' m = true := by
  cases m with
  | nil => rfl
  | cons c m =>
    rw [Mem.wfFrom_cons] at *
    exact ⟨by omega, w.2⟩

theorem Mem.write_wfFrom {a : Nat} {v : Byte} {m : Mem} {lo : Nat} (h : lo ≤ a) (w : Mem.wfFrom lo m = true) :
    Mem.wfFrom lo (Mem.write a v m) = true := by
  induction m generalizing lo with
  | nil =>
    rw [Mem.write]
    split
    · rfl
    · rw [Mem.wfFrom_cons]; exact ⟨h, ‹_›, rfl⟩
  | cons c m ih =>
    obtain ⟨k, b⟩ := c
    have w' := Mem.wfFrom_cons.mp w
    rw [Mem.write]
    split
    · split
      · exact w
      · exact Mem.wfFrom_cons.mpr ⟨h, ‹_›, Mem.wfFrom_cons.mpr ⟨by omega, w'.2⟩⟩
    · split
      · split
        · exact Mem.wfFrom_mono (by omega) w'.2.2
        · subst_vars; exact Mem.wfFrom_cons.mpr ⟨h, ‹_›, w'.2.2⟩
      · exact Mem.wfFrom_cons.mpr ⟨w'.1, w'.2.1, ih (by omega) w'.2.2⟩

/-- A write keeps the canonical form. -/
theorem Mem.write_wf {a : Nat} {v : Byte} {m : Mem} (w : m.wf = true) : (Mem.write a v m).wf = true :=
  Mem.write_wfFrom (Nat.zero_le a) w

/-- Below the first address of a canonical memory everything reads 0. -/
theorem Mem.read_below {m : Mem} {lo a : Nat} (w : Mem.wfFrom lo m = true) (h : a < lo) : m.read a = 0 := by
  induction m generalizing lo with
  | nil => rfl
  | cons c m ih =>
    obtain ⟨k, b⟩ := c
    rw [Mem.wfFrom_cons] at w
    rw [Mem.read, if_neg (by omega), ih w.2.2 (by omega)]

theorem Mem.read_write_from {a : Nat} {v : Byte} {m : Mem} {lo : Nat} (w : Mem.wfFrom lo m = true) :
    (Mem.write a v m).read a = v := by
  induction m generalizing lo with
  | nil =>
    rw [Mem.write]
    split
    · subst_vars; rfl
    · rw [Mem.read, if_pos rfl]
  | cons c m ih =>
    obtain ⟨k, b⟩ := c
    have w' := Mem.wfFrom_cons.mp w
    rw [Mem.write]
    split
    · split
      · rw [Mem.read, if_neg (by omega), Mem.read_below w'.2.2 (by omega)]; exact Eq.symm ‹_›
      · rw [Mem.read, if_pos rfl]
    · split
      · split
        · rw [Mem.read_below w'.2.2 (by omega)]; exact Eq.symm ‹_›
        · rw [Mem.read, if_pos rfl]
      · rw [Mem.read, if_neg (by omega), ih w'.2.2]

/-- A byte reads as it was written. -/
theorem Mem.read_write_self {a : Nat} {v : Byte} {m : Mem} (w : m.wf = true) : (Mem.write a v m).read a = v :=
  Mem.read_write_from w

/-- A write leaves every other byte as it was. -/
theorem Mem.read_write_ne {a b : Nat} {v : Byte} {m : Mem} (h : b ≠ a) : (Mem.write a v m).read b = m.read b := by
  induction m with
  | nil =>
    rw [Mem.write]
    split
    · rfl
    · exact if_neg h.symm
  | cons c m ih =>
    obtain ⟨k, x⟩ := c
    rw [Mem.write]
    split
    · split
      · rfl
      · rw [Mem.read, if_neg h.symm]
    · split
      · split
        · rw [Mem.read, if_neg (by omega)]
        · rw [Mem.read, if_neg h.symm, Mem.read, if_neg (by omega)]
      · rw [Mem.read, Mem.read, ih]

/-! ### Byte lists -/

/-- Writing a list of bytes keeps the canonical form. -/
theorem Mem.writeBytes_wf {a : Nat} {l : List Byte} {m : Mem} (w : m.wf = true) : (Mem.writeBytes a l m).wf = true := by
  induction l generalizing a m with
  | nil => exact w
  | cons b l ih => exact ih (Mem.write_wf w)

/-- Writing a list of bytes leaves every byte outside it as it was. -/
theorem Mem.read_writeBytes_out {a b : Nat} {l : List Byte} {m : Mem} (h : b < a ∨ a + l.length ≤ b) :
    (Mem.writeBytes a l m).read b = m.read b := by
  induction l generalizing a m with
  | nil => rfl
  | cons v l ih =>
    simp only [List.length_cons] at h
    rw [Mem.writeBytes, ih (by omega), Mem.read_write_ne (by omega)]

/-- Each byte of a written list reads as it was written. -/
theorem Mem.read_writeBytes_in {a i : Nat} {l : List Byte} {m : Mem} (w : m.wf = true) (h : i < l.length) :
    (Mem.writeBytes a l m).read (a + i) = l.getD i 0 := by
  induction l generalizing a i m with
  | nil => simp at h
  | cons v l ih =>
    cases i with
    | zero => rw [Mem.writeBytes, Mem.read_writeBytes_out (by omega), Nat.add_zero, Mem.read_write_self w]; rfl
    | succ i =>
      have := ih (a := a + 1) (i := i) (m := Mem.write a v m) (Mem.write_wf w) (by simpa using h)
      rw [Mem.writeBytes, show a + (i + 1) = a + 1 + i by omega, this]
      simp

/-- The bytes of a written list read back. -/
theorem Mem.bytes_writeBytes {a : Nat} {l : List Byte} {m : Mem} (w : m.wf = true) : (Mem.writeBytes a l m).bytes a l.length = l := by
  apply List.ext_getElem
  · simp [Mem.bytes]
  · intro i h₁ h₂
    simp [Mem.bytes, Mem.read_writeBytes_in w h₂, List.getD_eq_getElem?_getD, h₂]

/-- Bytes outside a written list read as before. -/
theorem Mem.bytes_writeBytes_out {a b n : Nat} {l : List Byte} {m : Mem} (h : b + n ≤ a ∨ a + l.length ≤ b) :
    (Mem.writeBytes a l m).bytes b n = m.bytes b n := by
  apply List.map_congr_left
  intro i hi
  rw [List.mem_range] at hi
  exact Mem.read_writeBytes_out (by omega)

/-! ### At reset -/

/-- Every memory has its canonical form at reset. -/
theorem reset_mem_wf : State.reset.host.h2d.wf = true ∧ State.reset.host.d2h.wf = true ∧ State.reset.host.window.wf = true ∧
    State.reset.rs.cells.wf = true ∧ State.reset.flashA.wf = true ∧ State.reset.flashB.wf = true := by decide

end Sys2Proof.Machine
end

