-- ==== Sys2Proof/Laws/State.lean ====
section
/-!
SUPPORT. Sys2Proof/Laws/State.lean: what each operation that updates the state leaves in each field of it, one lemma per field, so
that no proof unfolds a record update; and what the element of a table is after a change of one element.
-/
namespace Sys2Proof.Machine
open Sys2Proof

/-! ### Tables -/

@[simp] theorem length_lmod {α : Type} (l : List α) (i : Nat) (f : α → α) : (lmod l i f).length = l.length := by simp [lmod]

@[simp] theorem length_lset {α : Type} (l : List α) (i : Nat) (a : α) : (lset l i a).length = l.length := by simp [lset]

/-- The changed element. -/
theorem getD_lmod_self {α : Type} {l : List α} {i : Nat} (f : α → α) (d : α) (h : i < l.length) :
    (lmod l i f).getD i d = f (l.getD i d) := by
  simp [lmod, List.getD_eq_getElem?_getD, h]

/-- Every other element. -/
theorem getD_lmod_ne {α : Type} {l : List α} {i j : Nat} (f : α → α) (d : α) (h : j ≠ i) :
    (lmod l i f).getD j d = l.getD j d := by
  simp [lmod, List.getD_eq_getElem?_getD, h.symm]

/-- The replaced element. -/
theorem getD_lset_self {α : Type} {l : List α} {i : Nat} (a d : α) (h : i < l.length) : (lset l i a).getD i d = a := by
  simp [lset, List.getD_eq_getElem?_getD, h]

/-- Every element that was not replaced. -/
theorem getD_lset_ne {α : Type} {l : List α} {i j : Nat} (a d : α) (h : j ≠ i) : (lset l i a).getD j d = l.getD j d := by
  simp [lset, List.getD_eq_getElem?_getD, h.symm]

/-! ### One element of a table of the state -/

theorem State.modVlv_vlv_self (s : State) {ch : Nat} (f : Valve → Valve) (h : ch < s.act.valves.length) : (s.modVlv ch f).vlv ch = f (s.vlv ch) :=
  getD_lmod_self f _ h

theorem State.modVlv_vlv_ne (s : State) {ch j : Nat} (f : Valve → Valve) (h : j ≠ ch) : (s.modVlv ch f).vlv j = s.vlv j :=
  getD_lmod_ne f _ h

theorem State.modGrp_vgrp_self (s : State) {g : Nat} (f : VGroup → VGroup) (h : g < s.act.groups.length) : (s.modGrp g f).vgrp g = f (s.vgrp g) :=
  getD_lmod_self f _ h

theorem State.modGrp_vgrp_ne (s : State) {g j : Nat} (f : VGroup → VGroup) (h : j ≠ g) : (s.modGrp g f).vgrp j = s.vgrp j :=
  getD_lmod_ne f _ h

theorem State.modFan_fan_self (s : State) {n : Nat} (f : Fan → Fan) (h : n < s.act.fans.length) : (s.modFan n f).fan n = f (s.fan n) :=
  getD_lmod_self f _ h

theorem State.modFan_fan_ne (s : State) {n j : Nat} (f : Fan → Fan) (h : j ≠ n) : (s.modFan n f).fan j = s.fan j :=
  getD_lmod_ne f _ h

theorem State.modAo_ao_self (s : State) {n : Nat} (f : Ao → Ao) (h : n < s.act.aos.length) : (s.modAo n f).ao n = f (s.ao n) :=
  getD_lmod_self f _ h

theorem State.modAo_ao_ne (s : State) {n j : Nat} (f : Ao → Ao) (h : j ≠ n) : (s.modAo n f).ao j = s.ao j :=
  getD_lmod_ne f _ h

theorem State.modPort_port_self (s : State) {p : Nat} (f : Port → Port) (h : p < s.cans.length) : (s.modPort p f).port p = f (s.port p) :=
  getD_lmod_self f _ h

theorem State.modPort_port_ne (s : State) {p j : Nat} (f : Port → Port) (h : j ≠ p) : (s.modPort p f).port j = s.port j :=
  getD_lmod_ne f _ h

theorem State.modGz_gz_self (s : State) {z : Nat} (f : GZone → GZone) (h : z < s.gd.zones.length) : (s.modGz z f).gz z = f (s.gz z) :=
  getD_lmod_self f _ h

theorem State.modGz_gz_ne (s : State) {z j : Nat} (f : GZone → GZone) (h : j ≠ z) : (s.modGz z f).gz j = s.gz j :=
  getD_lmod_ne f _ h

theorem State.modEnc_enc_self (s : State) {e : Nat} (f : Enc → Enc) (h : e < s.pn.encs.length) : (s.modEnc e f).enc e = f (s.enc e) :=
  getD_lmod_self f _ h

theorem State.modEnc_enc_ne (s : State) {e j : Nat} (f : Enc → Enc) (h : j ≠ e) : (s.modEnc e f).enc j = s.enc j :=
  getD_lmod_ne f _ h

theorem State.modPt_pt_self (s : State) {p : Nat} (f : Point → Point) (h : p < s.se.pts.length) : (s.modPt p f).pt p = f (s.pt p) :=
  getD_lmod_self f _ h

theorem State.modPt_pt_ne (s : State) {p j : Nat} (f : Point → Point) (h : j ≠ p) : (s.modPt p f).pt j = s.pt j :=
  getD_lmod_ne f _ h

theorem State.modMod_md_self (s : State) {n : Nat} (f : Modu → Modu) (h : n < s.se.mods.length) : (s.modMod n f).md n = f (s.md n) :=
  getD_lmod_self f _ h

theorem State.modMod_md_ne (s : State) {n j : Nat} (f : Modu → Modu) (h : j ≠ n) : (s.modMod n f).md j = s.md j :=
  getD_lmod_ne f _ h

theorem State.modDie_die_self (s : State) {n : Nat} (f : Die → Die) (h : n < s.th.dies.length) : (s.modDie n f).die n = f (s.die n) :=
  getD_lmod_self f _ h

theorem State.modDie_die_ne (s : State) {n j : Nat} (f : Die → Die) (h : j ≠ n) : (s.modDie n f).die j = s.die j :=
  getD_lmod_ne f _ h

theorem State.modLim_lim_self (s : State) {g : Nat} (f : Limit → Limit) (h : g < s.th.lims.length) : (s.modLim g f).lim g = f (s.lim g) :=
  getD_lmod_self f _ h

theorem State.modLim_lim_ne (s : State) {g j : Nat} (f : Limit → Limit) (h : j ≠ g) : (s.modLim g f).lim j = s.lim j :=
  getD_lmod_ne f _ h

theorem State.modZone_zone_self (s : State) {z : Nat} (f : Zone → Zone) (h : z < s.zs.zn.length) : (s.modZone z f).zone z = f (s.zone z) :=
  getD_lmod_self f _ h

theorem State.modZone_zone_ne (s : State) {z j : Nat} (f : Zone → Zone) (h : j ≠ z) : (s.modZone z f).zone j = s.zone j :=
  getD_lmod_ne f _ h

theorem State.modLoop_loop_self (s : State) {k : Nat} (f : Loop → Loop) (h : k < s.zs.lp.length) : (s.modLoop k f).loop k = f (s.loop k) :=
  getD_lmod_self f _ h

theorem State.modLoop_loop_ne (s : State) {k j : Nat} (f : Loop → Loop) (h : j ≠ k) : (s.modLoop k f).loop j = s.loop j :=
  getD_lmod_ne f _ h

theorem State.modCore_core_self (s : State) {c : Nat} (f : ZCore → ZCore) (h : c < s.per.cores.length) : (s.modCore c f).core c = f (s.core c) :=
  getD_lmod_self f _ h

theorem State.modCore_core_ne (s : State) {c j : Nat} (f : ZCore → ZCore) (h : j ≠ c) : (s.modCore c f).core j = s.core j :=
  getD_lmod_ne f _ h

/-! ### `State.advTo` -/

@[simp] theorem State.advTo_now (s : State) (t : Nat) : (s.advTo t).now = max s.now t := rfl
@[simp] theorem State.advTo_pw (s : State) (t : Nat) : (s.advTo t).pw = s.pw := rfl
@[simp] theorem State.advTo_rtc (s : State) (t : Nat) : (s.advTo t).rtc = s.rtc := rfl
@[simp] theorem State.advTo_mn (s : State) (t : Nat) : (s.advTo t).mn = s.mn := rfl
@[simp] theorem State.advTo_per (s : State) (t : Nat) : (s.advTo t).per = s.per := rfl
@[simp] theorem State.advTo_qEvt (s : State) (t : Nat) : (s.advTo t).qEvt = s.qEvt := rfl
@[simp] theorem State.advTo_prods (s : State) (t : Nat) : (s.advTo t).prods = s.prods := rfl
@[simp] theorem State.advTo_qst (s : State) (t : Nat) : (s.advTo t).qst = s.qst := rfl
@[simp] theorem State.advTo_host (s : State) (t : Nat) : (s.advTo t).host = s.host := rfl
@[simp] theorem State.advTo_crc (s : State) (t : Nat) : (s.advTo t).crc = s.crc := rfl
@[simp] theorem State.advTo_rs (s : State) (t : Nat) : (s.advTo t).rs = s.rs := rfl
@[simp] theorem State.advTo_band (s : State) (t : Nat) : (s.advTo t).band = s.band := rfl
@[simp] theorem State.advTo_se (s : State) (t : Nat) : (s.advTo t).se = s.se := rfl
@[simp] theorem State.advTo_zs (s : State) (t : Nat) : (s.advTo t).zs = s.zs := rfl
@[simp] theorem State.advTo_act (s : State) (t : Nat) : (s.advTo t).act = s.act := rfl
@[simp] theorem State.advTo_pr (s : State) (t : Nat) : (s.advTo t).pr = s.pr := rfl
@[simp] theorem State.advTo_pn (s : State) (t : Nat) : (s.advTo t).pn = s.pn := rfl
@[simp] theorem State.advTo_cans (s : State) (t : Nat) : (s.advTo t).cans = s.cans := rfl
@[simp] theorem State.advTo_fb (s : State) (t : Nat) : (s.advTo t).fb = s.fb := rfl
@[simp] theorem State.advTo_gd (s : State) (t : Nat) : (s.advTo t).gd = s.gd := rfl
@[simp] theorem State.advTo_th (s : State) (t : Nat) : (s.advTo t).th = s.th := rfl
@[simp] theorem State.advTo_st (s : State) (t : Nat) : (s.advTo t).st = s.st := rfl
@[simp] theorem State.advTo_cfg (s : State) (t : Nat) : (s.advTo t).cfg = s.cfg := rfl
@[simp] theorem State.advTo_cfgPend (s : State) (t : Nat) : (s.advTo t).cfgPend = s.cfgPend := rfl
@[simp] theorem State.advTo_flashA (s : State) (t : Nat) : (s.advTo t).flashA = s.flashA := rfl
@[simp] theorem State.advTo_flashB (s : State) (t : Nat) : (s.advTo t).flashB = s.flashB := rfl
@[simp] theorem State.advTo_pending (s : State) (t : Nat) : (s.advTo t).pending = s.pending := rfl
@[simp] theorem State.advTo_freeCtr (s : State) (t : Nat) : (s.advTo t).freeCtr = s.freeCtr := rfl

/-! ### `State.freeNext` -/

@[simp] theorem State.freeNext_now (s : State) : (s.freeNext).now = s.now := rfl
@[simp] theorem State.freeNext_pw (s : State) : (s.freeNext).pw = s.pw := rfl
@[simp] theorem State.freeNext_rtc (s : State) : (s.freeNext).rtc = s.rtc := rfl
@[simp] theorem State.freeNext_mn (s : State) : (s.freeNext).mn = s.mn := rfl
@[simp] theorem State.freeNext_per (s : State) : (s.freeNext).per = s.per := rfl
@[simp] theorem State.freeNext_qEvt (s : State) : (s.freeNext).qEvt = s.qEvt := rfl
@[simp] theorem State.freeNext_prods (s : State) : (s.freeNext).prods = s.prods := rfl
@[simp] theorem State.freeNext_qst (s : State) : (s.freeNext).qst = s.qst := rfl
@[simp] theorem State.freeNext_host (s : State) : (s.freeNext).host = s.host := rfl
@[simp] theorem State.freeNext_crc (s : State) : (s.freeNext).crc = s.crc := rfl
@[simp] theorem State.freeNext_rs (s : State) : (s.freeNext).rs = s.rs := rfl
@[simp] theorem State.freeNext_band (s : State) : (s.freeNext).band = s.band := rfl
@[simp] theorem State.freeNext_se (s : State) : (s.freeNext).se = s.se := rfl
@[simp] theorem State.freeNext_zs (s : State) : (s.freeNext).zs = s.zs := rfl
@[simp] theorem State.freeNext_act (s : State) : (s.freeNext).act = s.act := rfl
@[simp] theorem State.freeNext_pr (s : State) : (s.freeNext).pr = s.pr := rfl
@[simp] theorem State.freeNext_pn (s : State) : (s.freeNext).pn = s.pn := rfl
@[simp] theorem State.freeNext_cans (s : State) : (s.freeNext).cans = s.cans := rfl
@[simp] theorem State.freeNext_fb (s : State) : (s.freeNext).fb = s.fb := rfl
@[simp] theorem State.freeNext_gd (s : State) : (s.freeNext).gd = s.gd := rfl
@[simp] theorem State.freeNext_th (s : State) : (s.freeNext).th = s.th := rfl
@[simp] theorem State.freeNext_st (s : State) : (s.freeNext).st = s.st := rfl
@[simp] theorem State.freeNext_cfg (s : State) : (s.freeNext).cfg = s.cfg := rfl
@[simp] theorem State.freeNext_cfgPend (s : State) : (s.freeNext).cfgPend = s.cfgPend := rfl
@[simp] theorem State.freeNext_flashA (s : State) : (s.freeNext).flashA = s.flashA := rfl
@[simp] theorem State.freeNext_flashB (s : State) : (s.freeNext).flashB = s.flashB := rfl
@[simp] theorem State.freeNext_pending (s : State) : (s.freeNext).pending = s.pending := rfl
@[simp] theorem State.freeNext_freeCtr (s : State) : (s.freeNext).freeCtr = s.freeCtr + 1 := rfl

/-! ### `State.modQ` -/

@[simp] theorem State.modQ_now (s : State) (q : Nat) (f : QStat → QStat) : (s.modQ q f).now = s.now := rfl
@[simp] theorem State.modQ_pw (s : State) (q : Nat) (f : QStat → QStat) : (s.modQ q f).pw = s.pw := rfl
@[simp] theorem State.modQ_rtc (s : State) (q : Nat) (f : QStat → QStat) : (s.modQ q f).rtc = s.rtc := rfl
@[simp] theorem State.modQ_mn (s : State) (q : Nat) (f : QStat → QStat) : (s.modQ q f).mn = s.mn := rfl
@[simp] theorem State.modQ_per (s : State) (q : Nat) (f : QStat → QStat) : (s.modQ q f).per = s.per := rfl
@[simp] theorem State.modQ_qEvt (s : State) (q : Nat) (f : QStat → QStat) : (s.modQ q f).qEvt = s.qEvt := rfl
@[simp] theorem State.modQ_prods (s : State) (q : Nat) (f : QStat → QStat) : (s.modQ q f).prods = s.prods := rfl
@[simp] theorem State.modQ_qst (s : State) (q : Nat) (f : QStat → QStat) : (s.modQ q f).qst = lmod s.qst q f := rfl
@[simp] theorem State.modQ_host (s : State) (q : Nat) (f : QStat → QStat) : (s.modQ q f).host = s.host := rfl
@[simp] theorem State.modQ_crc (s : State) (q : Nat) (f : QStat → QStat) : (s.modQ q f).crc = s.crc := rfl
@[simp] theorem State.modQ_rs (s : State) (q : Nat) (f : QStat → QStat) : (s.modQ q f).rs = s.rs := rfl
@[simp] theorem State.modQ_band (s : State) (q : Nat) (f : QStat → QStat) : (s.modQ q f).band = s.band := rfl
@[simp] theorem State.modQ_se (s : State) (q : Nat) (f : QStat → QStat) : (s.modQ q f).se = s.se := rfl
@[simp] theorem State.modQ_zs (s : State) (q : Nat) (f : QStat → QStat) : (s.modQ q f).zs = s.zs := rfl
@[simp] theorem State.modQ_act (s : State) (q : Nat) (f : QStat → QStat) : (s.modQ q f).act = s.act := rfl
@[simp] theorem State.modQ_pr (s : State) (q : Nat) (f : QStat → QStat) : (s.modQ q f).pr = s.pr := rfl
@[simp] theorem State.modQ_pn (s : State) (q : Nat) (f : QStat → QStat) : (s.modQ q f).pn = s.pn := rfl
@[simp] theorem State.modQ_cans (s : State) (q : Nat) (f : QStat → QStat) : (s.modQ q f).cans = s.cans := rfl
@[simp] theorem State.modQ_fb (s : State) (q : Nat) (f : QStat → QStat) : (s.modQ q f).fb = s.fb := rfl
@[simp] theorem State.modQ_gd (s : State) (q : Nat) (f : QStat → QStat) : (s.modQ q f).gd = s.gd := rfl
@[simp] theorem State.modQ_th (s : State) (q : Nat) (f : QStat → QStat) : (s.modQ q f).th = s.th := rfl
@[simp] theorem State.modQ_st (s : State) (q : Nat) (f : QStat → QStat) : (s.modQ q f).st = s.st := rfl
@[simp] theorem State.modQ_cfg (s : State) (q : Nat) (f : QStat → QStat) : (s.modQ q f).cfg = s.cfg := rfl
@[simp] theorem State.modQ_cfgPend (s : State) (q : Nat) (f : QStat → QStat) : (s.modQ q f).cfgPend = s.cfgPend := rfl
@[simp] theorem State.modQ_flashA (s : State) (q : Nat) (f : QStat → QStat) : (s.modQ q f).flashA = s.flashA := rfl
@[simp] theorem State.modQ_flashB (s : State) (q : Nat) (f : QStat → QStat) : (s.modQ q f).flashB = s.flashB := rfl
@[simp] theorem State.modQ_pending (s : State) (q : Nat) (f : QStat → QStat) : (s.modQ q f).pending = s.pending := rfl
@[simp] theorem State.modQ_freeCtr (s : State) (q : Nat) (f : QStat → QStat) : (s.modQ q f).freeCtr = s.freeCtr := rfl

/-! ### `State.noteHigh` -/

@[simp] theorem State.noteHigh_now (s : State) (q occ : Nat) : (s.noteHigh q occ).now = s.now := rfl
@[simp] theorem State.noteHigh_pw (s : State) (q occ : Nat) : (s.noteHigh q occ).pw = s.pw := rfl
@[simp] theorem State.noteHigh_rtc (s : State) (q occ : Nat) : (s.noteHigh q occ).rtc = s.rtc := rfl
@[simp] theorem State.noteHigh_mn (s : State) (q occ : Nat) : (s.noteHigh q occ).mn = s.mn := rfl
@[simp] theorem State.noteHigh_per (s : State) (q occ : Nat) : (s.noteHigh q occ).per = s.per := rfl
@[simp] theorem State.noteHigh_qEvt (s : State) (q occ : Nat) : (s.noteHigh q occ).qEvt = s.qEvt := rfl
@[simp] theorem State.noteHigh_prods (s : State) (q occ : Nat) : (s.noteHigh q occ).prods = s.prods := rfl
@[simp] theorem State.noteHigh_qst (s : State) (q occ : Nat) : (s.noteHigh q occ).qst = lmod s.qst q fun x => { x with high := sat 16 (max x.high occ) } := rfl
@[simp] theorem State.noteHigh_host (s : State) (q occ : Nat) : (s.noteHigh q occ).host = s.host := rfl
@[simp] theorem State.noteHigh_crc (s : State) (q occ : Nat) : (s.noteHigh q occ).crc = s.crc := rfl
@[simp] theorem State.noteHigh_rs (s : State) (q occ : Nat) : (s.noteHigh q occ).rs = s.rs := rfl
@[simp] theorem State.noteHigh_band (s : State) (q occ : Nat) : (s.noteHigh q occ).band = s.band := rfl
@[simp] theorem State.noteHigh_se (s : State) (q occ : Nat) : (s.noteHigh q occ).se = s.se := rfl
@[simp] theorem State.noteHigh_zs (s : State) (q occ : Nat) : (s.noteHigh q occ).zs = s.zs := rfl
@[simp] theorem State.noteHigh_act (s : State) (q occ : Nat) : (s.noteHigh q occ).act = s.act := rfl
@[simp] theorem State.noteHigh_pr (s : State) (q occ : Nat) : (s.noteHigh q occ).pr = s.pr := rfl
@[simp] theorem State.noteHigh_pn (s : State) (q occ : Nat) : (s.noteHigh q occ).pn = s.pn := rfl
@[simp] theorem State.noteHigh_cans (s : State) (q occ : Nat) : (s.noteHigh q occ).cans = s.cans := rfl
@[simp] theorem State.noteHigh_fb (s : State) (q occ : Nat) : (s.noteHigh q occ).fb = s.fb := rfl
@[simp] theorem State.noteHigh_gd (s : State) (q occ : Nat) : (s.noteHigh q occ).gd = s.gd := rfl
@[simp] theorem State.noteHigh_th (s : State) (q occ : Nat) : (s.noteHigh q occ).th = s.th := rfl
@[simp] theorem State.noteHigh_st (s : State) (q occ : Nat) : (s.noteHigh q occ).st = s.st := rfl
@[simp] theorem State.noteHigh_cfg (s : State) (q occ : Nat) : (s.noteHigh q occ).cfg = s.cfg := rfl
@[simp] theorem State.noteHigh_cfgPend (s : State) (q occ : Nat) : (s.noteHigh q occ).cfgPend = s.cfgPend := rfl
@[simp] theorem State.noteHigh_flashA (s : State) (q occ : Nat) : (s.noteHigh q occ).flashA = s.flashA := rfl
@[simp] theorem State.noteHigh_flashB (s : State) (q occ : Nat) : (s.noteHigh q occ).flashB = s.flashB := rfl
@[simp] theorem State.noteHigh_pending (s : State) (q occ : Nat) : (s.noteHigh q occ).pending = s.pending := rfl
@[simp] theorem State.noteHigh_freeCtr (s : State) (q occ : Nat) : (s.noteHigh q occ).freeCtr = s.freeCtr := rfl

/-! ### `State.noteStall` -/

@[simp] theorem State.noteStall_now (s : State) (q : Nat) : (s.noteStall q).now = s.now := rfl
@[simp] theorem State.noteStall_pw (s : State) (q : Nat) : (s.noteStall q).pw = s.pw := rfl
@[simp] theorem State.noteStall_rtc (s : State) (q : Nat) : (s.noteStall q).rtc = s.rtc := rfl
@[simp] theorem State.noteStall_mn (s : State) (q : Nat) : (s.noteStall q).mn = s.mn := rfl
@[simp] theorem State.noteStall_per (s : State) (q : Nat) : (s.noteStall q).per = s.per := rfl
@[simp] theorem State.noteStall_qEvt (s : State) (q : Nat) : (s.noteStall q).qEvt = s.qEvt := rfl
@[simp] theorem State.noteStall_prods (s : State) (q : Nat) : (s.noteStall q).prods = s.prods := rfl
@[simp] theorem State.noteStall_qst (s : State) (q : Nat) : (s.noteStall q).qst = lmod s.qst q fun x => { x with stalls := sat 32 (x.stalls + 1) } := rfl
@[simp] theorem State.noteStall_host (s : State) (q : Nat) : (s.noteStall q).host = s.host := rfl
@[simp] theorem State.noteStall_crc (s : State) (q : Nat) : (s.noteStall q).crc = s.crc := rfl
@[simp] theorem State.noteStall_rs (s : State) (q : Nat) : (s.noteStall q).rs = s.rs := rfl
@[simp] theorem State.noteStall_band (s : State) (q : Nat) : (s.noteStall q).band = s.band := rfl
@[simp] theorem State.noteStall_se (s : State) (q : Nat) : (s.noteStall q).se = s.se := rfl
@[simp] theorem State.noteStall_zs (s : State) (q : Nat) : (s.noteStall q).zs = s.zs := rfl
@[simp] theorem State.noteStall_act (s : State) (q : Nat) : (s.noteStall q).act = s.act := rfl
@[simp] theorem State.noteStall_pr (s : State) (q : Nat) : (s.noteStall q).pr = s.pr := rfl
@[simp] theorem State.noteStall_pn (s : State) (q : Nat) : (s.noteStall q).pn = s.pn := rfl
@[simp] theorem State.noteStall_cans (s : State) (q : Nat) : (s.noteStall q).cans = s.cans := rfl
@[simp] theorem State.noteStall_fb (s : State) (q : Nat) : (s.noteStall q).fb = s.fb := rfl
@[simp] theorem State.noteStall_gd (s : State) (q : Nat) : (s.noteStall q).gd = s.gd := rfl
@[simp] theorem State.noteStall_th (s : State) (q : Nat) : (s.noteStall q).th = s.th := rfl
@[simp] theorem State.noteStall_st (s : State) (q : Nat) : (s.noteStall q).st = s.st := rfl
@[simp] theorem State.noteStall_cfg (s : State) (q : Nat) : (s.noteStall q).cfg = s.cfg := rfl
@[simp] theorem State.noteStall_cfgPend (s : State) (q : Nat) : (s.noteStall q).cfgPend = s.cfgPend := rfl
@[simp] theorem State.noteStall_flashA (s : State) (q : Nat) : (s.noteStall q).flashA = s.flashA := rfl
@[simp] theorem State.noteStall_flashB (s : State) (q : Nat) : (s.noteStall q).flashB = s.flashB := rfl
@[simp] theorem State.noteStall_pending (s : State) (q : Nat) : (s.noteStall q).pending = s.pending := rfl
@[simp] theorem State.noteStall_freeCtr (s : State) (q : Nat) : (s.noteStall q).freeCtr = s.freeCtr := rfl

/-! ### `State.notePoison` -/

@[simp] theorem State.notePoison_now (s : State) (q : Nat) : (s.notePoison q).now = s.now := rfl
@[simp] theorem State.notePoison_pw (s : State) (q : Nat) : (s.notePoison q).pw = s.pw := rfl
@[simp] theorem State.notePoison_rtc (s : State) (q : Nat) : (s.notePoison q).rtc = s.rtc := rfl
@[simp] theorem State.notePoison_mn (s : State) (q : Nat) : (s.notePoison q).mn = s.mn := rfl
@[simp] theorem State.notePoison_per (s : State) (q : Nat) : (s.notePoison q).per = s.per := rfl
@[simp] theorem State.notePoison_qEvt (s : State) (q : Nat) : (s.notePoison q).qEvt = s.qEvt := rfl
@[simp] theorem State.notePoison_prods (s : State) (q : Nat) : (s.notePoison q).prods = s.prods := rfl
@[simp] theorem State.notePoison_qst (s : State) (q : Nat) : (s.notePoison q).qst = lmod s.qst q fun x => { x with poison := sat 16 (x.poison + 1), poisonSeen := true } := rfl
@[simp] theorem State.notePoison_host (s : State) (q : Nat) : (s.notePoison q).host = s.host := rfl
@[simp] theorem State.notePoison_crc (s : State) (q : Nat) : (s.notePoison q).crc = s.crc := rfl
@[simp] theorem State.notePoison_rs (s : State) (q : Nat) : (s.notePoison q).rs = s.rs := rfl
@[simp] theorem State.notePoison_band (s : State) (q : Nat) : (s.notePoison q).band = s.band := rfl
@[simp] theorem State.notePoison_se (s : State) (q : Nat) : (s.notePoison q).se = s.se := rfl
@[simp] theorem State.notePoison_zs (s : State) (q : Nat) : (s.notePoison q).zs = s.zs := rfl
@[simp] theorem State.notePoison_act (s : State) (q : Nat) : (s.notePoison q).act = s.act := rfl
@[simp] theorem State.notePoison_pr (s : State) (q : Nat) : (s.notePoison q).pr = s.pr := rfl
@[simp] theorem State.notePoison_pn (s : State) (q : Nat) : (s.notePoison q).pn = s.pn := rfl
@[simp] theorem State.notePoison_cans (s : State) (q : Nat) : (s.notePoison q).cans = s.cans := rfl
@[simp] theorem State.notePoison_fb (s : State) (q : Nat) : (s.notePoison q).fb = s.fb := rfl
@[simp] theorem State.notePoison_gd (s : State) (q : Nat) : (s.notePoison q).gd = s.gd := rfl
@[simp] theorem State.notePoison_th (s : State) (q : Nat) : (s.notePoison q).th = s.th := rfl
@[simp] theorem State.notePoison_st (s : State) (q : Nat) : (s.notePoison q).st = s.st := rfl
@[simp] theorem State.notePoison_cfg (s : State) (q : Nat) : (s.notePoison q).cfg = s.cfg := rfl
@[simp] theorem State.notePoison_cfgPend (s : State) (q : Nat) : (s.notePoison q).cfgPend = s.cfgPend := rfl
@[simp] theorem State.notePoison_flashA (s : State) (q : Nat) : (s.notePoison q).flashA = s.flashA := rfl
@[simp] theorem State.notePoison_flashB (s : State) (q : Nat) : (s.notePoison q).flashB = s.flashB := rfl
@[simp] theorem State.notePoison_pending (s : State) (q : Nat) : (s.notePoison q).pending = s.pending := rfl
@[simp] theorem State.notePoison_freeCtr (s : State) (q : Nat) : (s.notePoison q).freeCtr = s.freeCtr := rfl

/-! ### `State.enqEvt` -/

@[simp] theorem State.enqEvt_now (s : State) (e : EvtEntry) : (s.enqEvt e).now = s.now := rfl
@[simp] theorem State.enqEvt_pw (s : State) (e : EvtEntry) : (s.enqEvt e).pw = s.pw := rfl
@[simp] theorem State.enqEvt_rtc (s : State) (e : EvtEntry) : (s.enqEvt e).rtc = s.rtc := rfl
@[simp] theorem State.enqEvt_mn (s : State) (e : EvtEntry) : (s.enqEvt e).mn = s.mn := rfl
@[simp] theorem State.enqEvt_per (s : State) (e : EvtEntry) : (s.enqEvt e).per = s.per := rfl
@[simp] theorem State.enqEvt_qEvt (s : State) (e : EvtEntry) : (s.enqEvt e).qEvt = lmod s.qEvt e.pri (· ++ [e]) := rfl
@[simp] theorem State.enqEvt_prods (s : State) (e : EvtEntry) : (s.enqEvt e).prods = s.prods := rfl
@[simp] theorem State.enqEvt_qst (s : State) (e : EvtEntry) : (s.enqEvt e).qst = lmod s.qst 3 fun x => { x with high := sat 16 (max x.high ((lmod s.qEvt e.pri (· ++ [e])).map List.length).sum) } := rfl
@[simp] theorem State.enqEvt_host (s : State) (e : EvtEntry) : (s.enqEvt e).host = s.host := rfl
@[simp] theorem State.enqEvt_crc (s : State) (e : EvtEntry) : (s.enqEvt e).crc = s.crc := rfl
@[simp] theorem State.enqEvt_rs (s : State) (e : EvtEntry) : (s.enqEvt e).rs = s.rs := rfl
@[simp] theorem State.enqEvt_band (s : State) (e : EvtEntry) : (s.enqEvt e).band = s.band := rfl
@[simp] theorem State.enqEvt_se (s : State) (e : EvtEntry) : (s.enqEvt e).se = s.se := rfl
@[simp] theorem State.enqEvt_zs (s : State) (e : EvtEntry) : (s.enqEvt e).zs = s.zs := rfl
@[simp] theorem State.enqEvt_act (s : State) (e : EvtEntry) : (s.enqEvt e).act = s.act := rfl
@[simp] theorem State.enqEvt_pr (s : State) (e : EvtEntry) : (s.enqEvt e).pr = s.pr := rfl
@[simp] theorem State.enqEvt_pn (s : State) (e : EvtEntry) : (s.enqEvt e).pn = s.pn := rfl
@[simp] theorem State.enqEvt_cans (s : State) (e : EvtEntry) : (s.enqEvt e).cans = s.cans := rfl
@[simp] theorem State.enqEvt_fb (s : State) (e : EvtEntry) : (s.enqEvt e).fb = s.fb := rfl
@[simp] theorem State.enqEvt_gd (s : State) (e : EvtEntry) : (s.enqEvt e).gd = s.gd := rfl
@[simp] theorem State.enqEvt_th (s : State) (e : EvtEntry) : (s.enqEvt e).th = s.th := rfl
@[simp] theorem State.enqEvt_st (s : State) (e : EvtEntry) : (s.enqEvt e).st = s.st := rfl
@[simp] theorem State.enqEvt_cfg (s : State) (e : EvtEntry) : (s.enqEvt e).cfg = s.cfg := rfl
@[simp] theorem State.enqEvt_cfgPend (s : State) (e : EvtEntry) : (s.enqEvt e).cfgPend = s.cfgPend := rfl
@[simp] theorem State.enqEvt_flashA (s : State) (e : EvtEntry) : (s.enqEvt e).flashA = s.flashA := rfl
@[simp] theorem State.enqEvt_flashB (s : State) (e : EvtEntry) : (s.enqEvt e).flashB = s.flashB := rfl
@[simp] theorem State.enqEvt_pending (s : State) (e : EvtEntry) : (s.enqEvt e).pending = s.pending := rfl
@[simp] theorem State.enqEvt_freeCtr (s : State) (e : EvtEntry) : (s.enqEvt e).freeCtr = s.freeCtr := rfl

/-! ### `State.ring` -/

@[simp] theorem State.ring_now (s : State) (mask : Nat) : (s.ring mask).now = s.now := rfl
@[simp] theorem State.ring_pw (s : State) (mask : Nat) : (s.ring mask).pw = s.pw := rfl
@[simp] theorem State.ring_rtc (s : State) (mask : Nat) : (s.ring mask).rtc = s.rtc := rfl
@[simp] theorem State.ring_mn (s : State) (mask : Nat) : (s.ring mask).mn = s.mn := rfl
@[simp] theorem State.ring_per (s : State) (mask : Nat) : (s.ring mask).per = s.per := rfl
@[simp] theorem State.ring_qEvt (s : State) (mask : Nat) : (s.ring mask).qEvt = s.qEvt := rfl
@[simp] theorem State.ring_prods (s : State) (mask : Nat) : (s.ring mask).prods = s.prods := rfl
@[simp] theorem State.ring_qst (s : State) (mask : Nat) : (s.ring mask).qst = s.qst := rfl
@[simp] theorem State.ring_host (s : State) (mask : Nat) : (s.ring mask).host = { s.host with db := s.host.db ||| mask } := rfl
@[simp] theorem State.ring_crc (s : State) (mask : Nat) : (s.ring mask).crc = s.crc := rfl
@[simp] theorem State.ring_rs (s : State) (mask : Nat) : (s.ring mask).rs = s.rs := rfl
@[simp] theorem State.ring_band (s : State) (mask : Nat) : (s.ring mask).band = s.band := rfl
@[simp] theorem State.ring_se (s : State) (mask : Nat) : (s.ring mask).se = s.se := rfl
@[simp] theorem State.ring_zs (s : State) (mask : Nat) : (s.ring mask).zs = s.zs := rfl
@[simp] theorem State.ring_act (s : State) (mask : Nat) : (s.ring mask).act = s.act := rfl
@[simp] theorem State.ring_pr (s : State) (mask : Nat) : (s.ring mask).pr = s.pr := rfl
@[simp] theorem State.ring_pn (s : State) (mask : Nat) : (s.ring mask).pn = s.pn := rfl
@[simp] theorem State.ring_cans (s : State) (mask : Nat) : (s.ring mask).cans = s.cans := rfl
@[simp] theorem State.ring_fb (s : State) (mask : Nat) : (s.ring mask).fb = s.fb := rfl
@[simp] theorem State.ring_gd (s : State) (mask : Nat) : (s.ring mask).gd = s.gd := rfl
@[simp] theorem State.ring_th (s : State) (mask : Nat) : (s.ring mask).th = s.th := rfl
@[simp] theorem State.ring_st (s : State) (mask : Nat) : (s.ring mask).st = s.st := rfl
@[simp] theorem State.ring_cfg (s : State) (mask : Nat) : (s.ring mask).cfg = s.cfg := rfl
@[simp] theorem State.ring_cfgPend (s : State) (mask : Nat) : (s.ring mask).cfgPend = s.cfgPend := rfl
@[simp] theorem State.ring_flashA (s : State) (mask : Nat) : (s.ring mask).flashA = s.flashA := rfl
@[simp] theorem State.ring_flashB (s : State) (mask : Nat) : (s.ring mask).flashB = s.flashB := rfl
@[simp] theorem State.ring_pending (s : State) (mask : Nat) : (s.ring mask).pending = s.pending := rfl
@[simp] theorem State.ring_freeCtr (s : State) (mask : Nat) : (s.ring mask).freeCtr = s.freeCtr := rfl

/-! ### `State.setDescWord` -/

@[simp] theorem State.setDescWord_now (s : State) (d k v : Nat) : (s.setDescWord d k v).now = s.now := rfl
@[simp] theorem State.setDescWord_pw (s : State) (d k v : Nat) : (s.setDescWord d k v).pw = s.pw := rfl
@[simp] theorem State.setDescWord_rtc (s : State) (d k v : Nat) : (s.setDescWord d k v).rtc = s.rtc := rfl
@[simp] theorem State.setDescWord_mn (s : State) (d k v : Nat) : (s.setDescWord d k v).mn = s.mn := rfl
@[simp] theorem State.setDescWord_per (s : State) (d k v : Nat) : (s.setDescWord d k v).per = s.per := rfl
@[simp] theorem State.setDescWord_qEvt (s : State) (d k v : Nat) : (s.setDescWord d k v).qEvt = s.qEvt := rfl
@[simp] theorem State.setDescWord_prods (s : State) (d k v : Nat) : (s.setDescWord d k v).prods = s.prods := rfl
@[simp] theorem State.setDescWord_qst (s : State) (d k v : Nat) : (s.setDescWord d k v).qst = s.qst := rfl
@[simp] theorem State.setDescWord_host (s : State) (d k v : Nat) : (s.setDescWord d k v).host = { s.host with window := s.host.window.writeBytes (s.descAt d + 4 * k) (leBytes 4 v) } := rfl
@[simp] theorem State.setDescWord_crc (s : State) (d k v : Nat) : (s.setDescWord d k v).crc = s.crc := rfl
@[simp] theorem State.setDescWord_rs (s : State) (d k v : Nat) : (s.setDescWord d k v).rs = s.rs := rfl
@[simp] theorem State.setDescWord_band (s : State) (d k v : Nat) : (s.setDescWord d k v).band = s.band := rfl
@[simp] theorem State.setDescWord_se (s : State) (d k v : Nat) : (s.setDescWord d k v).se = s.se := rfl
@[simp] theorem State.setDescWord_zs (s : State) (d k v : Nat) : (s.setDescWord d k v).zs = s.zs := rfl
@[simp] theorem State.setDescWord_act (s : State) (d k v : Nat) : (s.setDescWord d k v).act = s.act := rfl
@[simp] theorem State.setDescWord_pr (s : State) (d k v : Nat) : (s.setDescWord d k v).pr = s.pr := rfl
@[simp] theorem State.setDescWord_pn (s : State) (d k v : Nat) : (s.setDescWord d k v).pn = s.pn := rfl
@[simp] theorem State.setDescWord_cans (s : State) (d k v : Nat) : (s.setDescWord d k v).cans = s.cans := rfl
@[simp] theorem State.setDescWord_fb (s : State) (d k v : Nat) : (s.setDescWord d k v).fb = s.fb := rfl
@[simp] theorem State.setDescWord_gd (s : State) (d k v : Nat) : (s.setDescWord d k v).gd = s.gd := rfl
@[simp] theorem State.setDescWord_th (s : State) (d k v : Nat) : (s.setDescWord d k v).th = s.th := rfl
@[simp] theorem State.setDescWord_st (s : State) (d k v : Nat) : (s.setDescWord d k v).st = s.st := rfl
@[simp] theorem State.setDescWord_cfg (s : State) (d k v : Nat) : (s.setDescWord d k v).cfg = s.cfg := rfl
@[simp] theorem State.setDescWord_cfgPend (s : State) (d k v : Nat) : (s.setDescWord d k v).cfgPend = s.cfgPend := rfl
@[simp] theorem State.setDescWord_flashA (s : State) (d k v : Nat) : (s.setDescWord d k v).flashA = s.flashA := rfl
@[simp] theorem State.setDescWord_flashB (s : State) (d k v : Nat) : (s.setDescWord d k v).flashB = s.flashB := rfl
@[simp] theorem State.setDescWord_pending (s : State) (d k v : Nat) : (s.setDescWord d k v).pending = s.pending := rfl
@[simp] theorem State.setDescWord_freeCtr (s : State) (d k v : Nat) : (s.setDescWord d k v).freeCtr = s.freeCtr := rfl

/-! ### `State.modCore` -/

@[simp] theorem State.modCore_now (s : State) (c : Nat) (f : ZCore → ZCore) : (s.modCore c f).now = s.now := rfl
@[simp] theorem State.modCore_pw (s : State) (c : Nat) (f : ZCore → ZCore) : (s.modCore c f).pw = s.pw := rfl
@[simp] theorem State.modCore_rtc (s : State) (c : Nat) (f : ZCore → ZCore) : (s.modCore c f).rtc = s.rtc := rfl
@[simp] theorem State.modCore_mn (s : State) (c : Nat) (f : ZCore → ZCore) : (s.modCore c f).mn = s.mn := rfl
@[simp] theorem State.modCore_per (s : State) (c : Nat) (f : ZCore → ZCore) : (s.modCore c f).per = { s.per with cores := lmod s.per.cores c f } := rfl
@[simp] theorem State.modCore_qEvt (s : State) (c : Nat) (f : ZCore → ZCore) : (s.modCore c f).qEvt = s.qEvt := rfl
@[simp] theorem State.modCore_prods (s : State) (c : Nat) (f : ZCore → ZCore) : (s.modCore c f).prods = s.prods := rfl
@[simp] theorem State.modCore_qst (s : State) (c : Nat) (f : ZCore → ZCore) : (s.modCore c f).qst = s.qst := rfl
@[simp] theorem State.modCore_host (s : State) (c : Nat) (f : ZCore → ZCore) : (s.modCore c f).host = s.host := rfl
@[simp] theorem State.modCore_crc (s : State) (c : Nat) (f : ZCore → ZCore) : (s.modCore c f).crc = s.crc := rfl
@[simp] theorem State.modCore_rs (s : State) (c : Nat) (f : ZCore → ZCore) : (s.modCore c f).rs = s.rs := rfl
@[simp] theorem State.modCore_band (s : State) (c : Nat) (f : ZCore → ZCore) : (s.modCore c f).band = s.band := rfl
@[simp] theorem State.modCore_se (s : State) (c : Nat) (f : ZCore → ZCore) : (s.modCore c f).se = s.se := rfl
@[simp] theorem State.modCore_zs (s : State) (c : Nat) (f : ZCore → ZCore) : (s.modCore c f).zs = s.zs := rfl
@[simp] theorem State.modCore_act (s : State) (c : Nat) (f : ZCore → ZCore) : (s.modCore c f).act = s.act := rfl
@[simp] theorem State.modCore_pr (s : State) (c : Nat) (f : ZCore → ZCore) : (s.modCore c f).pr = s.pr := rfl
@[simp] theorem State.modCore_pn (s : State) (c : Nat) (f : ZCore → ZCore) : (s.modCore c f).pn = s.pn := rfl
@[simp] theorem State.modCore_cans (s : State) (c : Nat) (f : ZCore → ZCore) : (s.modCore c f).cans = s.cans := rfl
@[simp] theorem State.modCore_fb (s : State) (c : Nat) (f : ZCore → ZCore) : (s.modCore c f).fb = s.fb := rfl
@[simp] theorem State.modCore_gd (s : State) (c : Nat) (f : ZCore → ZCore) : (s.modCore c f).gd = s.gd := rfl
@[simp] theorem State.modCore_th (s : State) (c : Nat) (f : ZCore → ZCore) : (s.modCore c f).th = s.th := rfl
@[simp] theorem State.modCore_st (s : State) (c : Nat) (f : ZCore → ZCore) : (s.modCore c f).st = s.st := rfl
@[simp] theorem State.modCore_cfg (s : State) (c : Nat) (f : ZCore → ZCore) : (s.modCore c f).cfg = s.cfg := rfl
@[simp] theorem State.modCore_cfgPend (s : State) (c : Nat) (f : ZCore → ZCore) : (s.modCore c f).cfgPend = s.cfgPend := rfl
@[simp] theorem State.modCore_flashA (s : State) (c : Nat) (f : ZCore → ZCore) : (s.modCore c f).flashA = s.flashA := rfl
@[simp] theorem State.modCore_flashB (s : State) (c : Nat) (f : ZCore → ZCore) : (s.modCore c f).flashB = s.flashB := rfl
@[simp] theorem State.modCore_pending (s : State) (c : Nat) (f : ZCore → ZCore) : (s.modCore c f).pending = s.pending := rfl
@[simp] theorem State.modCore_freeCtr (s : State) (c : Nat) (f : ZCore → ZCore) : (s.modCore c f).freeCtr = s.freeCtr := rfl

/-! ### `State.modPort` -/

@[simp] theorem State.modPort_now (s : State) (p : Nat) (f : Port → Port) : (s.modPort p f).now = s.now := rfl
@[simp] theorem State.modPort_pw (s : State) (p : Nat) (f : Port → Port) : (s.modPort p f).pw = s.pw := rfl
@[simp] theorem State.modPort_rtc (s : State) (p : Nat) (f : Port → Port) : (s.modPort p f).rtc = s.rtc := rfl
@[simp] theorem State.modPort_mn (s : State) (p : Nat) (f : Port → Port) : (s.modPort p f).mn = s.mn := rfl
@[simp] theorem State.modPort_per (s : State) (p : Nat) (f : Port → Port) : (s.modPort p f).per = s.per := rfl
@[simp] theorem State.modPort_qEvt (s : State) (p : Nat) (f : Port → Port) : (s.modPort p f).qEvt = s.qEvt := rfl
@[simp] theorem State.modPort_prods (s : State) (p : Nat) (f : Port → Port) : (s.modPort p f).prods = s.prods := rfl
@[simp] theorem State.modPort_qst (s : State) (p : Nat) (f : Port → Port) : (s.modPort p f).qst = s.qst := rfl
@[simp] theorem State.modPort_host (s : State) (p : Nat) (f : Port → Port) : (s.modPort p f).host = s.host := rfl
@[simp] theorem State.modPort_crc (s : State) (p : Nat) (f : Port → Port) : (s.modPort p f).crc = s.crc := rfl
@[simp] theorem State.modPort_rs (s : State) (p : Nat) (f : Port → Port) : (s.modPort p f).rs = s.rs := rfl
@[simp] theorem State.modPort_band (s : State) (p : Nat) (f : Port → Port) : (s.modPort p f).band = s.band := rfl
@[simp] theorem State.modPort_se (s : State) (p : Nat) (f : Port → Port) : (s.modPort p f).se = s.se := rfl
@[simp] theorem State.modPort_zs (s : State) (p : Nat) (f : Port → Port) : (s.modPort p f).zs = s.zs := rfl
@[simp] theorem State.modPort_act (s : State) (p : Nat) (f : Port → Port) : (s.modPort p f).act = s.act := rfl
@[simp] theorem State.modPort_pr (s : State) (p : Nat) (f : Port → Port) : (s.modPort p f).pr = s.pr := rfl
@[simp] theorem State.modPort_pn (s : State) (p : Nat) (f : Port → Port) : (s.modPort p f).pn = s.pn := rfl
@[simp] theorem State.modPort_cans (s : State) (p : Nat) (f : Port → Port) : (s.modPort p f).cans = lmod s.cans p f := rfl
@[simp] theorem State.modPort_fb (s : State) (p : Nat) (f : Port → Port) : (s.modPort p f).fb = s.fb := rfl
@[simp] theorem State.modPort_gd (s : State) (p : Nat) (f : Port → Port) : (s.modPort p f).gd = s.gd := rfl
@[simp] theorem State.modPort_th (s : State) (p : Nat) (f : Port → Port) : (s.modPort p f).th = s.th := rfl
@[simp] theorem State.modPort_st (s : State) (p : Nat) (f : Port → Port) : (s.modPort p f).st = s.st := rfl
@[simp] theorem State.modPort_cfg (s : State) (p : Nat) (f : Port → Port) : (s.modPort p f).cfg = s.cfg := rfl
@[simp] theorem State.modPort_cfgPend (s : State) (p : Nat) (f : Port → Port) : (s.modPort p f).cfgPend = s.cfgPend := rfl
@[simp] theorem State.modPort_flashA (s : State) (p : Nat) (f : Port → Port) : (s.modPort p f).flashA = s.flashA := rfl
@[simp] theorem State.modPort_flashB (s : State) (p : Nat) (f : Port → Port) : (s.modPort p f).flashB = s.flashB := rfl
@[simp] theorem State.modPort_pending (s : State) (p : Nat) (f : Port → Port) : (s.modPort p f).pending = s.pending := rfl
@[simp] theorem State.modPort_freeCtr (s : State) (p : Nat) (f : Port → Port) : (s.modPort p f).freeCtr = s.freeCtr := rfl

/-! ### `State.modGz` -/

@[simp] theorem State.modGz_now (s : State) (z : Nat) (f : GZone → GZone) : (s.modGz z f).now = s.now := rfl
@[simp] theorem State.modGz_pw (s : State) (z : Nat) (f : GZone → GZone) : (s.modGz z f).pw = s.pw := rfl
@[simp] theorem State.modGz_rtc (s : State) (z : Nat) (f : GZone → GZone) : (s.modGz z f).rtc = s.rtc := rfl
@[simp] theorem State.modGz_mn (s : State) (z : Nat) (f : GZone → GZone) : (s.modGz z f).mn = s.mn := rfl
@[simp] theorem State.modGz_per (s : State) (z : Nat) (f : GZone → GZone) : (s.modGz z f).per = s.per := rfl
@[simp] theorem State.modGz_qEvt (s : State) (z : Nat) (f : GZone → GZone) : (s.modGz z f).qEvt = s.qEvt := rfl
@[simp] theorem State.modGz_prods (s : State) (z : Nat) (f : GZone → GZone) : (s.modGz z f).prods = s.prods := rfl
@[simp] theorem State.modGz_qst (s : State) (z : Nat) (f : GZone → GZone) : (s.modGz z f).qst = s.qst := rfl
@[simp] theorem State.modGz_host (s : State) (z : Nat) (f : GZone → GZone) : (s.modGz z f).host = s.host := rfl
@[simp] theorem State.modGz_crc (s : State) (z : Nat) (f : GZone → GZone) : (s.modGz z f).crc = s.crc := rfl
@[simp] theorem State.modGz_rs (s : State) (z : Nat) (f : GZone → GZone) : (s.modGz z f).rs = s.rs := rfl
@[simp] theorem State.modGz_band (s : State) (z : Nat) (f : GZone → GZone) : (s.modGz z f).band = s.band := rfl
@[simp] theorem State.modGz_se (s : State) (z : Nat) (f : GZone → GZone) : (s.modGz z f).se = s.se := rfl
@[simp] theorem State.modGz_zs (s : State) (z : Nat) (f : GZone → GZone) : (s.modGz z f).zs = s.zs := rfl
@[simp] theorem State.modGz_act (s : State) (z : Nat) (f : GZone → GZone) : (s.modGz z f).act = s.act := rfl
@[simp] theorem State.modGz_pr (s : State) (z : Nat) (f : GZone → GZone) : (s.modGz z f).pr = s.pr := rfl
@[simp] theorem State.modGz_pn (s : State) (z : Nat) (f : GZone → GZone) : (s.modGz z f).pn = s.pn := rfl
@[simp] theorem State.modGz_cans (s : State) (z : Nat) (f : GZone → GZone) : (s.modGz z f).cans = s.cans := rfl
@[simp] theorem State.modGz_fb (s : State) (z : Nat) (f : GZone → GZone) : (s.modGz z f).fb = s.fb := rfl
@[simp] theorem State.modGz_gd (s : State) (z : Nat) (f : GZone → GZone) : (s.modGz z f).gd = { s.gd with zones := lmod s.gd.zones z f } := rfl
@[simp] theorem State.modGz_th (s : State) (z : Nat) (f : GZone → GZone) : (s.modGz z f).th = s.th := rfl
@[simp] theorem State.modGz_st (s : State) (z : Nat) (f : GZone → GZone) : (s.modGz z f).st = s.st := rfl
@[simp] theorem State.modGz_cfg (s : State) (z : Nat) (f : GZone → GZone) : (s.modGz z f).cfg = s.cfg := rfl
@[simp] theorem State.modGz_cfgPend (s : State) (z : Nat) (f : GZone → GZone) : (s.modGz z f).cfgPend = s.cfgPend := rfl
@[simp] theorem State.modGz_flashA (s : State) (z : Nat) (f : GZone → GZone) : (s.modGz z f).flashA = s.flashA := rfl
@[simp] theorem State.modGz_flashB (s : State) (z : Nat) (f : GZone → GZone) : (s.modGz z f).flashB = s.flashB := rfl
@[simp] theorem State.modGz_pending (s : State) (z : Nat) (f : GZone → GZone) : (s.modGz z f).pending = s.pending := rfl
@[simp] theorem State.modGz_freeCtr (s : State) (z : Nat) (f : GZone → GZone) : (s.modGz z f).freeCtr = s.freeCtr := rfl

/-! ### `State.modPn` -/

@[simp] theorem State.modPn_now (s : State) (f : Panel → Panel) : (s.modPn f).now = s.now := rfl
@[simp] theorem State.modPn_pw (s : State) (f : Panel → Panel) : (s.modPn f).pw = s.pw := rfl
@[simp] theorem State.modPn_rtc (s : State) (f : Panel → Panel) : (s.modPn f).rtc = s.rtc := rfl
@[simp] theorem State.modPn_mn (s : State) (f : Panel → Panel) : (s.modPn f).mn = s.mn := rfl
@[simp] theorem State.modPn_per (s : State) (f : Panel → Panel) : (s.modPn f).per = s.per := rfl
@[simp] theorem State.modPn_qEvt (s : State) (f : Panel → Panel) : (s.modPn f).qEvt = s.qEvt := rfl
@[simp] theorem State.modPn_prods (s : State) (f : Panel → Panel) : (s.modPn f).prods = s.prods := rfl
@[simp] theorem State.modPn_qst (s : State) (f : Panel → Panel) : (s.modPn f).qst = s.qst := rfl
@[simp] theorem State.modPn_host (s : State) (f : Panel → Panel) : (s.modPn f).host = s.host := rfl
@[simp] theorem State.modPn_crc (s : State) (f : Panel → Panel) : (s.modPn f).crc = s.crc := rfl
@[simp] theorem State.modPn_rs (s : State) (f : Panel → Panel) : (s.modPn f).rs = s.rs := rfl
@[simp] theorem State.modPn_band (s : State) (f : Panel → Panel) : (s.modPn f).band = s.band := rfl
@[simp] theorem State.modPn_se (s : State) (f : Panel → Panel) : (s.modPn f).se = s.se := rfl
@[simp] theorem State.modPn_zs (s : State) (f : Panel → Panel) : (s.modPn f).zs = s.zs := rfl
@[simp] theorem State.modPn_act (s : State) (f : Panel → Panel) : (s.modPn f).act = s.act := rfl
@[simp] theorem State.modPn_pr (s : State) (f : Panel → Panel) : (s.modPn f).pr = s.pr := rfl
@[simp] theorem State.modPn_pn (s : State) (f : Panel → Panel) : (s.modPn f).pn = f s.pn := rfl
@[simp] theorem State.modPn_cans (s : State) (f : Panel → Panel) : (s.modPn f).cans = s.cans := rfl
@[simp] theorem State.modPn_fb (s : State) (f : Panel → Panel) : (s.modPn f).fb = s.fb := rfl
@[simp] theorem State.modPn_gd (s : State) (f : Panel → Panel) : (s.modPn f).gd = s.gd := rfl
@[simp] theorem State.modPn_th (s : State) (f : Panel → Panel) : (s.modPn f).th = s.th := rfl
@[simp] theorem State.modPn_st (s : State) (f : Panel → Panel) : (s.modPn f).st = s.st := rfl
@[simp] theorem State.modPn_cfg (s : State) (f : Panel → Panel) : (s.modPn f).cfg = s.cfg := rfl
@[simp] theorem State.modPn_cfgPend (s : State) (f : Panel → Panel) : (s.modPn f).cfgPend = s.cfgPend := rfl
@[simp] theorem State.modPn_flashA (s : State) (f : Panel → Panel) : (s.modPn f).flashA = s.flashA := rfl
@[simp] theorem State.modPn_flashB (s : State) (f : Panel → Panel) : (s.modPn f).flashB = s.flashB := rfl
@[simp] theorem State.modPn_pending (s : State) (f : Panel → Panel) : (s.modPn f).pending = s.pending := rfl
@[simp] theorem State.modPn_freeCtr (s : State) (f : Panel → Panel) : (s.modPn f).freeCtr = s.freeCtr := rfl

/-! ### `State.modEnc` -/

@[simp] theorem State.modEnc_now (s : State) (e : Nat) (f : Enc → Enc) : (s.modEnc e f).now = s.now := rfl
@[simp] theorem State.modEnc_pw (s : State) (e : Nat) (f : Enc → Enc) : (s.modEnc e f).pw = s.pw := rfl
@[simp] theorem State.modEnc_rtc (s : State) (e : Nat) (f : Enc → Enc) : (s.modEnc e f).rtc = s.rtc := rfl
@[simp] theorem State.modEnc_mn (s : State) (e : Nat) (f : Enc → Enc) : (s.modEnc e f).mn = s.mn := rfl
@[simp] theorem State.modEnc_per (s : State) (e : Nat) (f : Enc → Enc) : (s.modEnc e f).per = s.per := rfl
@[simp] theorem State.modEnc_qEvt (s : State) (e : Nat) (f : Enc → Enc) : (s.modEnc e f).qEvt = s.qEvt := rfl
@[simp] theorem State.modEnc_prods (s : State) (e : Nat) (f : Enc → Enc) : (s.modEnc e f).prods = s.prods := rfl
@[simp] theorem State.modEnc_qst (s : State) (e : Nat) (f : Enc → Enc) : (s.modEnc e f).qst = s.qst := rfl
@[simp] theorem State.modEnc_host (s : State) (e : Nat) (f : Enc → Enc) : (s.modEnc e f).host = s.host := rfl
@[simp] theorem State.modEnc_crc (s : State) (e : Nat) (f : Enc → Enc) : (s.modEnc e f).crc = s.crc := rfl
@[simp] theorem State.modEnc_rs (s : State) (e : Nat) (f : Enc → Enc) : (s.modEnc e f).rs = s.rs := rfl
@[simp] theorem State.modEnc_band (s : State) (e : Nat) (f : Enc → Enc) : (s.modEnc e f).band = s.band := rfl
@[simp] theorem State.modEnc_se (s : State) (e : Nat) (f : Enc → Enc) : (s.modEnc e f).se = s.se := rfl
@[simp] theorem State.modEnc_zs (s : State) (e : Nat) (f : Enc → Enc) : (s.modEnc e f).zs = s.zs := rfl
@[simp] theorem State.modEnc_act (s : State) (e : Nat) (f : Enc → Enc) : (s.modEnc e f).act = s.act := rfl
@[simp] theorem State.modEnc_pr (s : State) (e : Nat) (f : Enc → Enc) : (s.modEnc e f).pr = s.pr := rfl
@[simp] theorem State.modEnc_pn (s : State) (e : Nat) (f : Enc → Enc) : (s.modEnc e f).pn = { s.pn with encs := lmod s.pn.encs e f } := rfl
@[simp] theorem State.modEnc_cans (s : State) (e : Nat) (f : Enc → Enc) : (s.modEnc e f).cans = s.cans := rfl
@[simp] theorem State.modEnc_fb (s : State) (e : Nat) (f : Enc → Enc) : (s.modEnc e f).fb = s.fb := rfl
@[simp] theorem State.modEnc_gd (s : State) (e : Nat) (f : Enc → Enc) : (s.modEnc e f).gd = s.gd := rfl
@[simp] theorem State.modEnc_th (s : State) (e : Nat) (f : Enc → Enc) : (s.modEnc e f).th = s.th := rfl
@[simp] theorem State.modEnc_st (s : State) (e : Nat) (f : Enc → Enc) : (s.modEnc e f).st = s.st := rfl
@[simp] theorem State.modEnc_cfg (s : State) (e : Nat) (f : Enc → Enc) : (s.modEnc e f).cfg = s.cfg := rfl
@[simp] theorem State.modEnc_cfgPend (s : State) (e : Nat) (f : Enc → Enc) : (s.modEnc e f).cfgPend = s.cfgPend := rfl
@[simp] theorem State.modEnc_flashA (s : State) (e : Nat) (f : Enc → Enc) : (s.modEnc e f).flashA = s.flashA := rfl
@[simp] theorem State.modEnc_flashB (s : State) (e : Nat) (f : Enc → Enc) : (s.modEnc e f).flashB = s.flashB := rfl
@[simp] theorem State.modEnc_pending (s : State) (e : Nat) (f : Enc → Enc) : (s.modEnc e f).pending = s.pending := rfl
@[simp] theorem State.modEnc_freeCtr (s : State) (e : Nat) (f : Enc → Enc) : (s.modEnc e f).freeCtr = s.freeCtr := rfl

/-! ### `State.modPt` -/

@[simp] theorem State.modPt_now (s : State) (p : Nat) (f : Point → Point) : (s.modPt p f).now = s.now := rfl
@[simp] theorem State.modPt_pw (s : State) (p : Nat) (f : Point → Point) : (s.modPt p f).pw = s.pw := rfl
@[simp] theorem State.modPt_rtc (s : State) (p : Nat) (f : Point → Point) : (s.modPt p f).rtc = s.rtc := rfl
@[simp] theorem State.modPt_mn (s : State) (p : Nat) (f : Point → Point) : (s.modPt p f).mn = s.mn := rfl
@[simp] theorem State.modPt_per (s : State) (p : Nat) (f : Point → Point) : (s.modPt p f).per = s.per := rfl
@[simp] theorem State.modPt_qEvt (s : State) (p : Nat) (f : Point → Point) : (s.modPt p f).qEvt = s.qEvt := rfl
@[simp] theorem State.modPt_prods (s : State) (p : Nat) (f : Point → Point) : (s.modPt p f).prods = s.prods := rfl
@[simp] theorem State.modPt_qst (s : State) (p : Nat) (f : Point → Point) : (s.modPt p f).qst = s.qst := rfl
@[simp] theorem State.modPt_host (s : State) (p : Nat) (f : Point → Point) : (s.modPt p f).host = s.host := rfl
@[simp] theorem State.modPt_crc (s : State) (p : Nat) (f : Point → Point) : (s.modPt p f).crc = s.crc := rfl
@[simp] theorem State.modPt_rs (s : State) (p : Nat) (f : Point → Point) : (s.modPt p f).rs = s.rs := rfl
@[simp] theorem State.modPt_band (s : State) (p : Nat) (f : Point → Point) : (s.modPt p f).band = s.band := rfl
@[simp] theorem State.modPt_se (s : State) (p : Nat) (f : Point → Point) : (s.modPt p f).se = { s.se with pts := lmod s.se.pts p f } := rfl
@[simp] theorem State.modPt_zs (s : State) (p : Nat) (f : Point → Point) : (s.modPt p f).zs = s.zs := rfl
@[simp] theorem State.modPt_act (s : State) (p : Nat) (f : Point → Point) : (s.modPt p f).act = s.act := rfl
@[simp] theorem State.modPt_pr (s : State) (p : Nat) (f : Point → Point) : (s.modPt p f).pr = s.pr := rfl
@[simp] theorem State.modPt_pn (s : State) (p : Nat) (f : Point → Point) : (s.modPt p f).pn = s.pn := rfl
@[simp] theorem State.modPt_cans (s : State) (p : Nat) (f : Point → Point) : (s.modPt p f).cans = s.cans := rfl
@[simp] theorem State.modPt_fb (s : State) (p : Nat) (f : Point → Point) : (s.modPt p f).fb = s.fb := rfl
@[simp] theorem State.modPt_gd (s : State) (p : Nat) (f : Point → Point) : (s.modPt p f).gd = s.gd := rfl
@[simp] theorem State.modPt_th (s : State) (p : Nat) (f : Point → Point) : (s.modPt p f).th = s.th := rfl
@[simp] theorem State.modPt_st (s : State) (p : Nat) (f : Point → Point) : (s.modPt p f).st = s.st := rfl
@[simp] theorem State.modPt_cfg (s : State) (p : Nat) (f : Point → Point) : (s.modPt p f).cfg = s.cfg := rfl
@[simp] theorem State.modPt_cfgPend (s : State) (p : Nat) (f : Point → Point) : (s.modPt p f).cfgPend = s.cfgPend := rfl
@[simp] theorem State.modPt_flashA (s : State) (p : Nat) (f : Point → Point) : (s.modPt p f).flashA = s.flashA := rfl
@[simp] theorem State.modPt_flashB (s : State) (p : Nat) (f : Point → Point) : (s.modPt p f).flashB = s.flashB := rfl
@[simp] theorem State.modPt_pending (s : State) (p : Nat) (f : Point → Point) : (s.modPt p f).pending = s.pending := rfl
@[simp] theorem State.modPt_freeCtr (s : State) (p : Nat) (f : Point → Point) : (s.modPt p f).freeCtr = s.freeCtr := rfl

/-! ### `State.modMod` -/

@[simp] theorem State.modMod_now (s : State) (n : Nat) (f : Modu → Modu) : (s.modMod n f).now = s.now := rfl
@[simp] theorem State.modMod_pw (s : State) (n : Nat) (f : Modu → Modu) : (s.modMod n f).pw = s.pw := rfl
@[simp] theorem State.modMod_rtc (s : State) (n : Nat) (f : Modu → Modu) : (s.modMod n f).rtc = s.rtc := rfl
@[simp] theorem State.modMod_mn (s : State) (n : Nat) (f : Modu → Modu) : (s.modMod n f).mn = s.mn := rfl
@[simp] theorem State.modMod_per (s : State) (n : Nat) (f : Modu → Modu) : (s.modMod n f).per = s.per := rfl
@[simp] theorem State.modMod_qEvt (s : State) (n : Nat) (f : Modu → Modu) : (s.modMod n f).qEvt = s.qEvt := rfl
@[simp] theorem State.modMod_prods (s : State) (n : Nat) (f : Modu → Modu) : (s.modMod n f).prods = s.prods := rfl
@[simp] theorem State.modMod_qst (s : State) (n : Nat) (f : Modu → Modu) : (s.modMod n f).qst = s.qst := rfl
@[simp] theorem State.modMod_host (s : State) (n : Nat) (f : Modu → Modu) : (s.modMod n f).host = s.host := rfl
@[simp] theorem State.modMod_crc (s : State) (n : Nat) (f : Modu → Modu) : (s.modMod n f).crc = s.crc := rfl
@[simp] theorem State.modMod_rs (s : State) (n : Nat) (f : Modu → Modu) : (s.modMod n f).rs = s.rs := rfl
@[simp] theorem State.modMod_band (s : State) (n : Nat) (f : Modu → Modu) : (s.modMod n f).band = s.band := rfl
@[simp] theorem State.modMod_se (s : State) (n : Nat) (f : Modu → Modu) : (s.modMod n f).se = { s.se with mods := lmod s.se.mods n f } := rfl
@[simp] theorem State.modMod_zs (s : State) (n : Nat) (f : Modu → Modu) : (s.modMod n f).zs = s.zs := rfl
@[simp] theorem State.modMod_act (s : State) (n : Nat) (f : Modu → Modu) : (s.modMod n f).act = s.act := rfl
@[simp] theorem State.modMod_pr (s : State) (n : Nat) (f : Modu → Modu) : (s.modMod n f).pr = s.pr := rfl
@[simp] theorem State.modMod_pn (s : State) (n : Nat) (f : Modu → Modu) : (s.modMod n f).pn = s.pn := rfl
@[simp] theorem State.modMod_cans (s : State) (n : Nat) (f : Modu → Modu) : (s.modMod n f).cans = s.cans := rfl
@[simp] theorem State.modMod_fb (s : State) (n : Nat) (f : Modu → Modu) : (s.modMod n f).fb = s.fb := rfl
@[simp] theorem State.modMod_gd (s : State) (n : Nat) (f : Modu → Modu) : (s.modMod n f).gd = s.gd := rfl
@[simp] theorem State.modMod_th (s : State) (n : Nat) (f : Modu → Modu) : (s.modMod n f).th = s.th := rfl
@[simp] theorem State.modMod_st (s : State) (n : Nat) (f : Modu → Modu) : (s.modMod n f).st = s.st := rfl
@[simp] theorem State.modMod_cfg (s : State) (n : Nat) (f : Modu → Modu) : (s.modMod n f).cfg = s.cfg := rfl
@[simp] theorem State.modMod_cfgPend (s : State) (n : Nat) (f : Modu → Modu) : (s.modMod n f).cfgPend = s.cfgPend := rfl
@[simp] theorem State.modMod_flashA (s : State) (n : Nat) (f : Modu → Modu) : (s.modMod n f).flashA = s.flashA := rfl
@[simp] theorem State.modMod_flashB (s : State) (n : Nat) (f : Modu → Modu) : (s.modMod n f).flashB = s.flashB := rfl
@[simp] theorem State.modMod_pending (s : State) (n : Nat) (f : Modu → Modu) : (s.modMod n f).pending = s.pending := rfl
@[simp] theorem State.modMod_freeCtr (s : State) (n : Nat) (f : Modu → Modu) : (s.modMod n f).freeCtr = s.freeCtr := rfl

/-! ### `State.modMdl` -/

@[simp] theorem State.modMdl_now (s : State) (z : Nat) (f : Model → Model) : (s.modMdl z f).now = s.now := rfl
@[simp] theorem State.modMdl_pw (s : State) (z : Nat) (f : Model → Model) : (s.modMdl z f).pw = s.pw := rfl
@[simp] theorem State.modMdl_rtc (s : State) (z : Nat) (f : Model → Model) : (s.modMdl z f).rtc = s.rtc := rfl
@[simp] theorem State.modMdl_mn (s : State) (z : Nat) (f : Model → Model) : (s.modMdl z f).mn = s.mn := rfl
@[simp] theorem State.modMdl_per (s : State) (z : Nat) (f : Model → Model) : (s.modMdl z f).per = s.per := rfl
@[simp] theorem State.modMdl_qEvt (s : State) (z : Nat) (f : Model → Model) : (s.modMdl z f).qEvt = s.qEvt := rfl
@[simp] theorem State.modMdl_prods (s : State) (z : Nat) (f : Model → Model) : (s.modMdl z f).prods = s.prods := rfl
@[simp] theorem State.modMdl_qst (s : State) (z : Nat) (f : Model → Model) : (s.modMdl z f).qst = s.qst := rfl
@[simp] theorem State.modMdl_host (s : State) (z : Nat) (f : Model → Model) : (s.modMdl z f).host = s.host := rfl
@[simp] theorem State.modMdl_crc (s : State) (z : Nat) (f : Model → Model) : (s.modMdl z f).crc = s.crc := rfl
@[simp] theorem State.modMdl_rs (s : State) (z : Nat) (f : Model → Model) : (s.modMdl z f).rs = s.rs := rfl
@[simp] theorem State.modMdl_band (s : State) (z : Nat) (f : Model → Model) : (s.modMdl z f).band = s.band := rfl
@[simp] theorem State.modMdl_se (s : State) (z : Nat) (f : Model → Model) : (s.modMdl z f).se = s.se := rfl
@[simp] theorem State.modMdl_zs (s : State) (z : Nat) (f : Model → Model) : (s.modMdl z f).zs = s.zs := rfl
@[simp] theorem State.modMdl_act (s : State) (z : Nat) (f : Model → Model) : (s.modMdl z f).act = s.act := rfl
@[simp] theorem State.modMdl_pr (s : State) (z : Nat) (f : Model → Model) : (s.modMdl z f).pr = { s.pr with models := lmod s.pr.models z f } := rfl
@[simp] theorem State.modMdl_pn (s : State) (z : Nat) (f : Model → Model) : (s.modMdl z f).pn = s.pn := rfl
@[simp] theorem State.modMdl_cans (s : State) (z : Nat) (f : Model → Model) : (s.modMdl z f).cans = s.cans := rfl
@[simp] theorem State.modMdl_fb (s : State) (z : Nat) (f : Model → Model) : (s.modMdl z f).fb = s.fb := rfl
@[simp] theorem State.modMdl_gd (s : State) (z : Nat) (f : Model → Model) : (s.modMdl z f).gd = s.gd := rfl
@[simp] theorem State.modMdl_th (s : State) (z : Nat) (f : Model → Model) : (s.modMdl z f).th = s.th := rfl
@[simp] theorem State.modMdl_st (s : State) (z : Nat) (f : Model → Model) : (s.modMdl z f).st = s.st := rfl
@[simp] theorem State.modMdl_cfg (s : State) (z : Nat) (f : Model → Model) : (s.modMdl z f).cfg = s.cfg := rfl
@[simp] theorem State.modMdl_cfgPend (s : State) (z : Nat) (f : Model → Model) : (s.modMdl z f).cfgPend = s.cfgPend := rfl
@[simp] theorem State.modMdl_flashA (s : State) (z : Nat) (f : Model → Model) : (s.modMdl z f).flashA = s.flashA := rfl
@[simp] theorem State.modMdl_flashB (s : State) (z : Nat) (f : Model → Model) : (s.modMdl z f).flashB = s.flashB := rfl
@[simp] theorem State.modMdl_pending (s : State) (z : Nat) (f : Model → Model) : (s.modMdl z f).pending = s.pending := rfl
@[simp] theorem State.modMdl_freeCtr (s : State) (z : Nat) (f : Model → Model) : (s.modMdl z f).freeCtr = s.freeCtr := rfl

/-! ### `State.modVlv` -/

@[simp] theorem State.modVlv_now (s : State) (ch : Nat) (f : Valve → Valve) : (s.modVlv ch f).now = s.now := rfl
@[simp] theorem State.modVlv_pw (s : State) (ch : Nat) (f : Valve → Valve) : (s.modVlv ch f).pw = s.pw := rfl
@[simp] theorem State.modVlv_rtc (s : State) (ch : Nat) (f : Valve → Valve) : (s.modVlv ch f).rtc = s.rtc := rfl
@[simp] theorem State.modVlv_mn (s : State) (ch : Nat) (f : Valve → Valve) : (s.modVlv ch f).mn = s.mn := rfl
@[simp] theorem State.modVlv_per (s : State) (ch : Nat) (f : Valve → Valve) : (s.modVlv ch f).per = s.per := rfl
@[simp] theorem State.modVlv_qEvt (s : State) (ch : Nat) (f : Valve → Valve) : (s.modVlv ch f).qEvt = s.qEvt := rfl
@[simp] theorem State.modVlv_prods (s : State) (ch : Nat) (f : Valve → Valve) : (s.modVlv ch f).prods = s.prods := rfl
@[simp] theorem State.modVlv_qst (s : State) (ch : Nat) (f : Valve → Valve) : (s.modVlv ch f).qst = s.qst := rfl
@[simp] theorem State.modVlv_host (s : State) (ch : Nat) (f : Valve → Valve) : (s.modVlv ch f).host = s.host := rfl
@[simp] theorem State.modVlv_crc (s : State) (ch : Nat) (f : Valve → Valve) : (s.modVlv ch f).crc = s.crc := rfl
@[simp] theorem State.modVlv_rs (s : State) (ch : Nat) (f : Valve → Valve) : (s.modVlv ch f).rs = s.rs := rfl
@[simp] theorem State.modVlv_band (s : State) (ch : Nat) (f : Valve → Valve) : (s.modVlv ch f).band = s.band := rfl
@[simp] theorem State.modVlv_se (s : State) (ch : Nat) (f : Valve → Valve) : (s.modVlv ch f).se = s.se := rfl
@[simp] theorem State.modVlv_zs (s : State) (ch : Nat) (f : Valve → Valve) : (s.modVlv ch f).zs = s.zs := rfl
@[simp] theorem State.modVlv_act (s : State) (ch : Nat) (f : Valve → Valve) : (s.modVlv ch f).act = { s.act with valves := lmod s.act.valves ch f } := rfl
@[simp] theorem State.modVlv_pr (s : State) (ch : Nat) (f : Valve → Valve) : (s.modVlv ch f).pr = s.pr := rfl
@[simp] theorem State.modVlv_pn (s : State) (ch : Nat) (f : Valve → Valve) : (s.modVlv ch f).pn = s.pn := rfl
@[simp] theorem State.modVlv_cans (s : State) (ch : Nat) (f : Valve → Valve) : (s.modVlv ch f).cans = s.cans := rfl
@[simp] theorem State.modVlv_fb (s : State) (ch : Nat) (f : Valve → Valve) : (s.modVlv ch f).fb = s.fb := rfl
@[simp] theorem State.modVlv_gd (s : State) (ch : Nat) (f : Valve → Valve) : (s.modVlv ch f).gd = s.gd := rfl
@[simp] theorem State.modVlv_th (s : State) (ch : Nat) (f : Valve → Valve) : (s.modVlv ch f).th = s.th := rfl
@[simp] theorem State.modVlv_st (s : State) (ch : Nat) (f : Valve → Valve) : (s.modVlv ch f).st = s.st := rfl
@[simp] theorem State.modVlv_cfg (s : State) (ch : Nat) (f : Valve → Valve) : (s.modVlv ch f).cfg = s.cfg := rfl
@[simp] theorem State.modVlv_cfgPend (s : State) (ch : Nat) (f : Valve → Valve) : (s.modVlv ch f).cfgPend = s.cfgPend := rfl
@[simp] theorem State.modVlv_flashA (s : State) (ch : Nat) (f : Valve → Valve) : (s.modVlv ch f).flashA = s.flashA := rfl
@[simp] theorem State.modVlv_flashB (s : State) (ch : Nat) (f : Valve → Valve) : (s.modVlv ch f).flashB = s.flashB := rfl
@[simp] theorem State.modVlv_pending (s : State) (ch : Nat) (f : Valve → Valve) : (s.modVlv ch f).pending = s.pending := rfl
@[simp] theorem State.modVlv_freeCtr (s : State) (ch : Nat) (f : Valve → Valve) : (s.modVlv ch f).freeCtr = s.freeCtr := rfl

/-! ### `State.modGrp` -/

@[simp] theorem State.modGrp_now (s : State) (g : Nat) (f : VGroup → VGroup) : (s.modGrp g f).now = s.now := rfl
@[simp] theorem State.modGrp_pw (s : State) (g : Nat) (f : VGroup → VGroup) : (s.modGrp g f).pw = s.pw := rfl
@[simp] theorem State.modGrp_rtc (s : State) (g : Nat) (f : VGroup → VGroup) : (s.modGrp g f).rtc = s.rtc := rfl
@[simp] theorem State.modGrp_mn (s : State) (g : Nat) (f : VGroup → VGroup) : (s.modGrp g f).mn = s.mn := rfl
@[simp] theorem State.modGrp_per (s : State) (g : Nat) (f : VGroup → VGroup) : (s.modGrp g f).per = s.per := rfl
@[simp] theorem State.modGrp_qEvt (s : State) (g : Nat) (f : VGroup → VGroup) : (s.modGrp g f).qEvt = s.qEvt := rfl
@[simp] theorem State.modGrp_prods (s : State) (g : Nat) (f : VGroup → VGroup) : (s.modGrp g f).prods = s.prods := rfl
@[simp] theorem State.modGrp_qst (s : State) (g : Nat) (f : VGroup → VGroup) : (s.modGrp g f).qst = s.qst := rfl
@[simp] theorem State.modGrp_host (s : State) (g : Nat) (f : VGroup → VGroup) : (s.modGrp g f).host = s.host := rfl
@[simp] theorem State.modGrp_crc (s : State) (g : Nat) (f : VGroup → VGroup) : (s.modGrp g f).crc = s.crc := rfl
@[simp] theorem State.modGrp_rs (s : State) (g : Nat) (f : VGroup → VGroup) : (s.modGrp g f).rs = s.rs := rfl
@[simp] theorem State.modGrp_band (s : State) (g : Nat) (f : VGroup → VGroup) : (s.modGrp g f).band = s.band := rfl
@[simp] theorem State.modGrp_se (s : State) (g : Nat) (f : VGroup → VGroup) : (s.modGrp g f).se = s.se := rfl
@[simp] theorem State.modGrp_zs (s : State) (g : Nat) (f : VGroup → VGroup) : (s.modGrp g f).zs = s.zs := rfl
@[simp] theorem State.modGrp_act (s : State) (g : Nat) (f : VGroup → VGroup) : (s.modGrp g f).act = { s.act with groups := lmod s.act.groups g f } := rfl
@[simp] theorem State.modGrp_pr (s : State) (g : Nat) (f : VGroup → VGroup) : (s.modGrp g f).pr = s.pr := rfl
@[simp] theorem State.modGrp_pn (s : State) (g : Nat) (f : VGroup → VGroup) : (s.modGrp g f).pn = s.pn := rfl
@[simp] theorem State.modGrp_cans (s : State) (g : Nat) (f : VGroup → VGroup) : (s.modGrp g f).cans = s.cans := rfl
@[simp] theorem State.modGrp_fb (s : State) (g : Nat) (f : VGroup → VGroup) : (s.modGrp g f).fb = s.fb := rfl
@[simp] theorem State.modGrp_gd (s : State) (g : Nat) (f : VGroup → VGroup) : (s.modGrp g f).gd = s.gd := rfl
@[simp] theorem State.modGrp_th (s : State) (g : Nat) (f : VGroup → VGroup) : (s.modGrp g f).th = s.th := rfl
@[simp] theorem State.modGrp_st (s : State) (g : Nat) (f : VGroup → VGroup) : (s.modGrp g f).st = s.st := rfl
@[simp] theorem State.modGrp_cfg (s : State) (g : Nat) (f : VGroup → VGroup) : (s.modGrp g f).cfg = s.cfg := rfl
@[simp] theorem State.modGrp_cfgPend (s : State) (g : Nat) (f : VGroup → VGroup) : (s.modGrp g f).cfgPend = s.cfgPend := rfl
@[simp] theorem State.modGrp_flashA (s : State) (g : Nat) (f : VGroup → VGroup) : (s.modGrp g f).flashA = s.flashA := rfl
@[simp] theorem State.modGrp_flashB (s : State) (g : Nat) (f : VGroup → VGroup) : (s.modGrp g f).flashB = s.flashB := rfl
@[simp] theorem State.modGrp_pending (s : State) (g : Nat) (f : VGroup → VGroup) : (s.modGrp g f).pending = s.pending := rfl
@[simp] theorem State.modGrp_freeCtr (s : State) (g : Nat) (f : VGroup → VGroup) : (s.modGrp g f).freeCtr = s.freeCtr := rfl

/-! ### `State.modFan` -/

@[simp] theorem State.modFan_now (s : State) (n : Nat) (f : Fan → Fan) : (s.modFan n f).now = s.now := rfl
@[simp] theorem State.modFan_pw (s : State) (n : Nat) (f : Fan → Fan) : (s.modFan n f).pw = s.pw := rfl
@[simp] theorem State.modFan_rtc (s : State) (n : Nat) (f : Fan → Fan) : (s.modFan n f).rtc = s.rtc := rfl
@[simp] theorem State.modFan_mn (s : State) (n : Nat) (f : Fan → Fan) : (s.modFan n f).mn = s.mn := rfl
@[simp] theorem State.modFan_per (s : State) (n : Nat) (f : Fan → Fan) : (s.modFan n f).per = s.per := rfl
@[simp] theorem State.modFan_qEvt (s : State) (n : Nat) (f : Fan → Fan) : (s.modFan n f).qEvt = s.qEvt := rfl
@[simp] theorem State.modFan_prods (s : State) (n : Nat) (f : Fan → Fan) : (s.modFan n f).prods = s.prods := rfl
@[simp] theorem State.modFan_qst (s : State) (n : Nat) (f : Fan → Fan) : (s.modFan n f).qst = s.qst := rfl
@[simp] theorem State.modFan_host (s : State) (n : Nat) (f : Fan → Fan) : (s.modFan n f).host = s.host := rfl
@[simp] theorem State.modFan_crc (s : State) (n : Nat) (f : Fan → Fan) : (s.modFan n f).crc = s.crc := rfl
@[simp] theorem State.modFan_rs (s : State) (n : Nat) (f : Fan → Fan) : (s.modFan n f).rs = s.rs := rfl
@[simp] theorem State.modFan_band (s : State) (n : Nat) (f : Fan → Fan) : (s.modFan n f).band = s.band := rfl
@[simp] theorem State.modFan_se (s : State) (n : Nat) (f : Fan → Fan) : (s.modFan n f).se = s.se := rfl
@[simp] theorem State.modFan_zs (s : State) (n : Nat) (f : Fan → Fan) : (s.modFan n f).zs = s.zs := rfl
@[simp] theorem State.modFan_act (s : State) (n : Nat) (f : Fan → Fan) : (s.modFan n f).act = { s.act with fans := lmod s.act.fans n f } := rfl
@[simp] theorem State.modFan_pr (s : State) (n : Nat) (f : Fan → Fan) : (s.modFan n f).pr = s.pr := rfl
@[simp] theorem State.modFan_pn (s : State) (n : Nat) (f : Fan → Fan) : (s.modFan n f).pn = s.pn := rfl
@[simp] theorem State.modFan_cans (s : State) (n : Nat) (f : Fan → Fan) : (s.modFan n f).cans = s.cans := rfl
@[simp] theorem State.modFan_fb (s : State) (n : Nat) (f : Fan → Fan) : (s.modFan n f).fb = s.fb := rfl
@[simp] theorem State.modFan_gd (s : State) (n : Nat) (f : Fan → Fan) : (s.modFan n f).gd = s.gd := rfl
@[simp] theorem State.modFan_th (s : State) (n : Nat) (f : Fan → Fan) : (s.modFan n f).th = s.th := rfl
@[simp] theorem State.modFan_st (s : State) (n : Nat) (f : Fan → Fan) : (s.modFan n f).st = s.st := rfl
@[simp] theorem State.modFan_cfg (s : State) (n : Nat) (f : Fan → Fan) : (s.modFan n f).cfg = s.cfg := rfl
@[simp] theorem State.modFan_cfgPend (s : State) (n : Nat) (f : Fan → Fan) : (s.modFan n f).cfgPend = s.cfgPend := rfl
@[simp] theorem State.modFan_flashA (s : State) (n : Nat) (f : Fan → Fan) : (s.modFan n f).flashA = s.flashA := rfl
@[simp] theorem State.modFan_flashB (s : State) (n : Nat) (f : Fan → Fan) : (s.modFan n f).flashB = s.flashB := rfl
@[simp] theorem State.modFan_pending (s : State) (n : Nat) (f : Fan → Fan) : (s.modFan n f).pending = s.pending := rfl
@[simp] theorem State.modFan_freeCtr (s : State) (n : Nat) (f : Fan → Fan) : (s.modFan n f).freeCtr = s.freeCtr := rfl

/-! ### `State.modAo` -/

@[simp] theorem State.modAo_now (s : State) (n : Nat) (f : Ao → Ao) : (s.modAo n f).now = s.now := rfl
@[simp] theorem State.modAo_pw (s : State) (n : Nat) (f : Ao → Ao) : (s.modAo n f).pw = s.pw := rfl
@[simp] theorem State.modAo_rtc (s : State) (n : Nat) (f : Ao → Ao) : (s.modAo n f).rtc = s.rtc := rfl
@[simp] theorem State.modAo_mn (s : State) (n : Nat) (f : Ao → Ao) : (s.modAo n f).mn = s.mn := rfl
@[simp] theorem State.modAo_per (s : State) (n : Nat) (f : Ao → Ao) : (s.modAo n f).per = s.per := rfl
@[simp] theorem State.modAo_qEvt (s : State) (n : Nat) (f : Ao → Ao) : (s.modAo n f).qEvt = s.qEvt := rfl
@[simp] theorem State.modAo_prods (s : State) (n : Nat) (f : Ao → Ao) : (s.modAo n f).prods = s.prods := rfl
@[simp] theorem State.modAo_qst (s : State) (n : Nat) (f : Ao → Ao) : (s.modAo n f).qst = s.qst := rfl
@[simp] theorem State.modAo_host (s : State) (n : Nat) (f : Ao → Ao) : (s.modAo n f).host = s.host := rfl
@[simp] theorem State.modAo_crc (s : State) (n : Nat) (f : Ao → Ao) : (s.modAo n f).crc = s.crc := rfl
@[simp] theorem State.modAo_rs (s : State) (n : Nat) (f : Ao → Ao) : (s.modAo n f).rs = s.rs := rfl
@[simp] theorem State.modAo_band (s : State) (n : Nat) (f : Ao → Ao) : (s.modAo n f).band = s.band := rfl
@[simp] theorem State.modAo_se (s : State) (n : Nat) (f : Ao → Ao) : (s.modAo n f).se = s.se := rfl
@[simp] theorem State.modAo_zs (s : State) (n : Nat) (f : Ao → Ao) : (s.modAo n f).zs = s.zs := rfl
@[simp] theorem State.modAo_act (s : State) (n : Nat) (f : Ao → Ao) : (s.modAo n f).act = { s.act with aos := lmod s.act.aos n f } := rfl
@[simp] theorem State.modAo_pr (s : State) (n : Nat) (f : Ao → Ao) : (s.modAo n f).pr = s.pr := rfl
@[simp] theorem State.modAo_pn (s : State) (n : Nat) (f : Ao → Ao) : (s.modAo n f).pn = s.pn := rfl
@[simp] theorem State.modAo_cans (s : State) (n : Nat) (f : Ao → Ao) : (s.modAo n f).cans = s.cans := rfl
@[simp] theorem State.modAo_fb (s : State) (n : Nat) (f : Ao → Ao) : (s.modAo n f).fb = s.fb := rfl
@[simp] theorem State.modAo_gd (s : State) (n : Nat) (f : Ao → Ao) : (s.modAo n f).gd = s.gd := rfl
@[simp] theorem State.modAo_th (s : State) (n : Nat) (f : Ao → Ao) : (s.modAo n f).th = s.th := rfl
@[simp] theorem State.modAo_st (s : State) (n : Nat) (f : Ao → Ao) : (s.modAo n f).st = s.st := rfl
@[simp] theorem State.modAo_cfg (s : State) (n : Nat) (f : Ao → Ao) : (s.modAo n f).cfg = s.cfg := rfl
@[simp] theorem State.modAo_cfgPend (s : State) (n : Nat) (f : Ao → Ao) : (s.modAo n f).cfgPend = s.cfgPend := rfl
@[simp] theorem State.modAo_flashA (s : State) (n : Nat) (f : Ao → Ao) : (s.modAo n f).flashA = s.flashA := rfl
@[simp] theorem State.modAo_flashB (s : State) (n : Nat) (f : Ao → Ao) : (s.modAo n f).flashB = s.flashB := rfl
@[simp] theorem State.modAo_pending (s : State) (n : Nat) (f : Ao → Ao) : (s.modAo n f).pending = s.pending := rfl
@[simp] theorem State.modAo_freeCtr (s : State) (n : Nat) (f : Ao → Ao) : (s.modAo n f).freeCtr = s.freeCtr := rfl

/-! ### `State.modDie` -/

@[simp] theorem State.modDie_now (s : State) (n : Nat) (f : Die → Die) : (s.modDie n f).now = s.now := rfl
@[simp] theorem State.modDie_pw (s : State) (n : Nat) (f : Die → Die) : (s.modDie n f).pw = s.pw := rfl
@[simp] theorem State.modDie_rtc (s : State) (n : Nat) (f : Die → Die) : (s.modDie n f).rtc = s.rtc := rfl
@[simp] theorem State.modDie_mn (s : State) (n : Nat) (f : Die → Die) : (s.modDie n f).mn = s.mn := rfl
@[simp] theorem State.modDie_per (s : State) (n : Nat) (f : Die → Die) : (s.modDie n f).per = s.per := rfl
@[simp] theorem State.modDie_qEvt (s : State) (n : Nat) (f : Die → Die) : (s.modDie n f).qEvt = s.qEvt := rfl
@[simp] theorem State.modDie_prods (s : State) (n : Nat) (f : Die → Die) : (s.modDie n f).prods = s.prods := rfl
@[simp] theorem State.modDie_qst (s : State) (n : Nat) (f : Die → Die) : (s.modDie n f).qst = s.qst := rfl
@[simp] theorem State.modDie_host (s : State) (n : Nat) (f : Die → Die) : (s.modDie n f).host = s.host := rfl
@[simp] theorem State.modDie_crc (s : State) (n : Nat) (f : Die → Die) : (s.modDie n f).crc = s.crc := rfl
@[simp] theorem State.modDie_rs (s : State) (n : Nat) (f : Die → Die) : (s.modDie n f).rs = s.rs := rfl
@[simp] theorem State.modDie_band (s : State) (n : Nat) (f : Die → Die) : (s.modDie n f).band = s.band := rfl
@[simp] theorem State.modDie_se (s : State) (n : Nat) (f : Die → Die) : (s.modDie n f).se = s.se := rfl
@[simp] theorem State.modDie_zs (s : State) (n : Nat) (f : Die → Die) : (s.modDie n f).zs = s.zs := rfl
@[simp] theorem State.modDie_act (s : State) (n : Nat) (f : Die → Die) : (s.modDie n f).act = s.act := rfl
@[simp] theorem State.modDie_pr (s : State) (n : Nat) (f : Die → Die) : (s.modDie n f).pr = s.pr := rfl
@[simp] theorem State.modDie_pn (s : State) (n : Nat) (f : Die → Die) : (s.modDie n f).pn = s.pn := rfl
@[simp] theorem State.modDie_cans (s : State) (n : Nat) (f : Die → Die) : (s.modDie n f).cans = s.cans := rfl
@[simp] theorem State.modDie_fb (s : State) (n : Nat) (f : Die → Die) : (s.modDie n f).fb = s.fb := rfl
@[simp] theorem State.modDie_gd (s : State) (n : Nat) (f : Die → Die) : (s.modDie n f).gd = s.gd := rfl
@[simp] theorem State.modDie_th (s : State) (n : Nat) (f : Die → Die) : (s.modDie n f).th = { s.th with dies := lmod s.th.dies n f } := rfl
@[simp] theorem State.modDie_st (s : State) (n : Nat) (f : Die → Die) : (s.modDie n f).st = s.st := rfl
@[simp] theorem State.modDie_cfg (s : State) (n : Nat) (f : Die → Die) : (s.modDie n f).cfg = s.cfg := rfl
@[simp] theorem State.modDie_cfgPend (s : State) (n : Nat) (f : Die → Die) : (s.modDie n f).cfgPend = s.cfgPend := rfl
@[simp] theorem State.modDie_flashA (s : State) (n : Nat) (f : Die → Die) : (s.modDie n f).flashA = s.flashA := rfl
@[simp] theorem State.modDie_flashB (s : State) (n : Nat) (f : Die → Die) : (s.modDie n f).flashB = s.flashB := rfl
@[simp] theorem State.modDie_pending (s : State) (n : Nat) (f : Die → Die) : (s.modDie n f).pending = s.pending := rfl
@[simp] theorem State.modDie_freeCtr (s : State) (n : Nat) (f : Die → Die) : (s.modDie n f).freeCtr = s.freeCtr := rfl

/-! ### `State.modLim` -/

@[simp] theorem State.modLim_now (s : State) (g : Nat) (f : Limit → Limit) : (s.modLim g f).now = s.now := rfl
@[simp] theorem State.modLim_pw (s : State) (g : Nat) (f : Limit → Limit) : (s.modLim g f).pw = s.pw := rfl
@[simp] theorem State.modLim_rtc (s : State) (g : Nat) (f : Limit → Limit) : (s.modLim g f).rtc = s.rtc := rfl
@[simp] theorem State.modLim_mn (s : State) (g : Nat) (f : Limit → Limit) : (s.modLim g f).mn = s.mn := rfl
@[simp] theorem State.modLim_per (s : State) (g : Nat) (f : Limit → Limit) : (s.modLim g f).per = s.per := rfl
@[simp] theorem State.modLim_qEvt (s : State) (g : Nat) (f : Limit → Limit) : (s.modLim g f).qEvt = s.qEvt := rfl
@[simp] theorem State.modLim_prods (s : State) (g : Nat) (f : Limit → Limit) : (s.modLim g f).prods = s.prods := rfl
@[simp] theorem State.modLim_qst (s : State) (g : Nat) (f : Limit → Limit) : (s.modLim g f).qst = s.qst := rfl
@[simp] theorem State.modLim_host (s : State) (g : Nat) (f : Limit → Limit) : (s.modLim g f).host = s.host := rfl
@[simp] theorem State.modLim_crc (s : State) (g : Nat) (f : Limit → Limit) : (s.modLim g f).crc = s.crc := rfl
@[simp] theorem State.modLim_rs (s : State) (g : Nat) (f : Limit → Limit) : (s.modLim g f).rs = s.rs := rfl
@[simp] theorem State.modLim_band (s : State) (g : Nat) (f : Limit → Limit) : (s.modLim g f).band = s.band := rfl
@[simp] theorem State.modLim_se (s : State) (g : Nat) (f : Limit → Limit) : (s.modLim g f).se = s.se := rfl
@[simp] theorem State.modLim_zs (s : State) (g : Nat) (f : Limit → Limit) : (s.modLim g f).zs = s.zs := rfl
@[simp] theorem State.modLim_act (s : State) (g : Nat) (f : Limit → Limit) : (s.modLim g f).act = s.act := rfl
@[simp] theorem State.modLim_pr (s : State) (g : Nat) (f : Limit → Limit) : (s.modLim g f).pr = s.pr := rfl
@[simp] theorem State.modLim_pn (s : State) (g : Nat) (f : Limit → Limit) : (s.modLim g f).pn = s.pn := rfl
@[simp] theorem State.modLim_cans (s : State) (g : Nat) (f : Limit → Limit) : (s.modLim g f).cans = s.cans := rfl
@[simp] theorem State.modLim_fb (s : State) (g : Nat) (f : Limit → Limit) : (s.modLim g f).fb = s.fb := rfl
@[simp] theorem State.modLim_gd (s : State) (g : Nat) (f : Limit → Limit) : (s.modLim g f).gd = s.gd := rfl
@[simp] theorem State.modLim_th (s : State) (g : Nat) (f : Limit → Limit) : (s.modLim g f).th = { s.th with lims := lmod s.th.lims g f } := rfl
@[simp] theorem State.modLim_st (s : State) (g : Nat) (f : Limit → Limit) : (s.modLim g f).st = s.st := rfl
@[simp] theorem State.modLim_cfg (s : State) (g : Nat) (f : Limit → Limit) : (s.modLim g f).cfg = s.cfg := rfl
@[simp] theorem State.modLim_cfgPend (s : State) (g : Nat) (f : Limit → Limit) : (s.modLim g f).cfgPend = s.cfgPend := rfl
@[simp] theorem State.modLim_flashA (s : State) (g : Nat) (f : Limit → Limit) : (s.modLim g f).flashA = s.flashA := rfl
@[simp] theorem State.modLim_flashB (s : State) (g : Nat) (f : Limit → Limit) : (s.modLim g f).flashB = s.flashB := rfl
@[simp] theorem State.modLim_pending (s : State) (g : Nat) (f : Limit → Limit) : (s.modLim g f).pending = s.pending := rfl
@[simp] theorem State.modLim_freeCtr (s : State) (g : Nat) (f : Limit → Limit) : (s.modLim g f).freeCtr = s.freeCtr := rfl

/-! ### `State.setVdrv` -/

@[simp] theorem State.setVdrv_now (s : State) (mv : Nat) : (s.setVdrv mv).now = s.now := rfl
@[simp] theorem State.setVdrv_pw (s : State) (mv : Nat) : (s.setVdrv mv).pw = { s.pw with vdrvMv := mv } := rfl
@[simp] theorem State.setVdrv_rtc (s : State) (mv : Nat) : (s.setVdrv mv).rtc = s.rtc := rfl
@[simp] theorem State.setVdrv_mn (s : State) (mv : Nat) : (s.setVdrv mv).mn = s.mn := rfl
@[simp] theorem State.setVdrv_per (s : State) (mv : Nat) : (s.setVdrv mv).per = s.per := rfl
@[simp] theorem State.setVdrv_qEvt (s : State) (mv : Nat) : (s.setVdrv mv).qEvt = s.qEvt := rfl
@[simp] theorem State.setVdrv_prods (s : State) (mv : Nat) : (s.setVdrv mv).prods = s.prods := rfl
@[simp] theorem State.setVdrv_qst (s : State) (mv : Nat) : (s.setVdrv mv).qst = s.qst := rfl
@[simp] theorem State.setVdrv_host (s : State) (mv : Nat) : (s.setVdrv mv).host = s.host := rfl
@[simp] theorem State.setVdrv_crc (s : State) (mv : Nat) : (s.setVdrv mv).crc = s.crc := rfl
@[simp] theorem State.setVdrv_rs (s : State) (mv : Nat) : (s.setVdrv mv).rs = s.rs := rfl
@[simp] theorem State.setVdrv_band (s : State) (mv : Nat) : (s.setVdrv mv).band = s.band := rfl
@[simp] theorem State.setVdrv_se (s : State) (mv : Nat) : (s.setVdrv mv).se = s.se := rfl
@[simp] theorem State.setVdrv_zs (s : State) (mv : Nat) : (s.setVdrv mv).zs = s.zs := rfl
@[simp] theorem State.setVdrv_act (s : State) (mv : Nat) : (s.setVdrv mv).act = s.act := rfl
@[simp] theorem State.setVdrv_pr (s : State) (mv : Nat) : (s.setVdrv mv).pr = s.pr := rfl
@[simp] theorem State.setVdrv_pn (s : State) (mv : Nat) : (s.setVdrv mv).pn = s.pn := rfl
@[simp] theorem State.setVdrv_cans (s : State) (mv : Nat) : (s.setVdrv mv).cans = s.cans := rfl
@[simp] theorem State.setVdrv_fb (s : State) (mv : Nat) : (s.setVdrv mv).fb = s.fb := rfl
@[simp] theorem State.setVdrv_gd (s : State) (mv : Nat) : (s.setVdrv mv).gd = s.gd := rfl
@[simp] theorem State.setVdrv_th (s : State) (mv : Nat) : (s.setVdrv mv).th = s.th := rfl
@[simp] theorem State.setVdrv_st (s : State) (mv : Nat) : (s.setVdrv mv).st = s.st := rfl
@[simp] theorem State.setVdrv_cfg (s : State) (mv : Nat) : (s.setVdrv mv).cfg = s.cfg := rfl
@[simp] theorem State.setVdrv_cfgPend (s : State) (mv : Nat) : (s.setVdrv mv).cfgPend = s.cfgPend := rfl
@[simp] theorem State.setVdrv_flashA (s : State) (mv : Nat) : (s.setVdrv mv).flashA = s.flashA := rfl
@[simp] theorem State.setVdrv_flashB (s : State) (mv : Nat) : (s.setVdrv mv).flashB = s.flashB := rfl
@[simp] theorem State.setVdrv_pending (s : State) (mv : Nat) : (s.setVdrv mv).pending = s.pending := rfl
@[simp] theorem State.setVdrv_freeCtr (s : State) (mv : Nat) : (s.setVdrv mv).freeCtr = s.freeCtr := rfl

/-! ### `State.modZone` -/

@[simp] theorem State.modZone_now (s : State) (z : Nat) (f : Zone → Zone) : (s.modZone z f).now = s.now := rfl
@[simp] theorem State.modZone_pw (s : State) (z : Nat) (f : Zone → Zone) : (s.modZone z f).pw = s.pw := rfl
@[simp] theorem State.modZone_rtc (s : State) (z : Nat) (f : Zone → Zone) : (s.modZone z f).rtc = s.rtc := rfl
@[simp] theorem State.modZone_mn (s : State) (z : Nat) (f : Zone → Zone) : (s.modZone z f).mn = s.mn := rfl
@[simp] theorem State.modZone_per (s : State) (z : Nat) (f : Zone → Zone) : (s.modZone z f).per = s.per := rfl
@[simp] theorem State.modZone_qEvt (s : State) (z : Nat) (f : Zone → Zone) : (s.modZone z f).qEvt = s.qEvt := rfl
@[simp] theorem State.modZone_prods (s : State) (z : Nat) (f : Zone → Zone) : (s.modZone z f).prods = s.prods := rfl
@[simp] theorem State.modZone_qst (s : State) (z : Nat) (f : Zone → Zone) : (s.modZone z f).qst = s.qst := rfl
@[simp] theorem State.modZone_host (s : State) (z : Nat) (f : Zone → Zone) : (s.modZone z f).host = s.host := rfl
@[simp] theorem State.modZone_crc (s : State) (z : Nat) (f : Zone → Zone) : (s.modZone z f).crc = s.crc := rfl
@[simp] theorem State.modZone_rs (s : State) (z : Nat) (f : Zone → Zone) : (s.modZone z f).rs = s.rs := rfl
@[simp] theorem State.modZone_band (s : State) (z : Nat) (f : Zone → Zone) : (s.modZone z f).band = s.band := rfl
@[simp] theorem State.modZone_se (s : State) (z : Nat) (f : Zone → Zone) : (s.modZone z f).se = s.se := rfl
@[simp] theorem State.modZone_zs (s : State) (z : Nat) (f : Zone → Zone) : (s.modZone z f).zs = { s.zs with zn := lmod s.zs.zn z f } := rfl
@[simp] theorem State.modZone_act (s : State) (z : Nat) (f : Zone → Zone) : (s.modZone z f).act = s.act := rfl
@[simp] theorem State.modZone_pr (s : State) (z : Nat) (f : Zone → Zone) : (s.modZone z f).pr = s.pr := rfl
@[simp] theorem State.modZone_pn (s : State) (z : Nat) (f : Zone → Zone) : (s.modZone z f).pn = s.pn := rfl
@[simp] theorem State.modZone_cans (s : State) (z : Nat) (f : Zone → Zone) : (s.modZone z f).cans = s.cans := rfl
@[simp] theorem State.modZone_fb (s : State) (z : Nat) (f : Zone → Zone) : (s.modZone z f).fb = s.fb := rfl
@[simp] theorem State.modZone_gd (s : State) (z : Nat) (f : Zone → Zone) : (s.modZone z f).gd = s.gd := rfl
@[simp] theorem State.modZone_th (s : State) (z : Nat) (f : Zone → Zone) : (s.modZone z f).th = s.th := rfl
@[simp] theorem State.modZone_st (s : State) (z : Nat) (f : Zone → Zone) : (s.modZone z f).st = s.st := rfl
@[simp] theorem State.modZone_cfg (s : State) (z : Nat) (f : Zone → Zone) : (s.modZone z f).cfg = s.cfg := rfl
@[simp] theorem State.modZone_cfgPend (s : State) (z : Nat) (f : Zone → Zone) : (s.modZone z f).cfgPend = s.cfgPend := rfl
@[simp] theorem State.modZone_flashA (s : State) (z : Nat) (f : Zone → Zone) : (s.modZone z f).flashA = s.flashA := rfl
@[simp] theorem State.modZone_flashB (s : State) (z : Nat) (f : Zone → Zone) : (s.modZone z f).flashB = s.flashB := rfl
@[simp] theorem State.modZone_pending (s : State) (z : Nat) (f : Zone → Zone) : (s.modZone z f).pending = s.pending := rfl
@[simp] theorem State.modZone_freeCtr (s : State) (z : Nat) (f : Zone → Zone) : (s.modZone z f).freeCtr = s.freeCtr := rfl

/-! ### `State.modLoop` -/

@[simp] theorem State.modLoop_now (s : State) (k : Nat) (f : Loop → Loop) : (s.modLoop k f).now = s.now := rfl
@[simp] theorem State.modLoop_pw (s : State) (k : Nat) (f : Loop → Loop) : (s.modLoop k f).pw = s.pw := rfl
@[simp] theorem State.modLoop_rtc (s : State) (k : Nat) (f : Loop → Loop) : (s.modLoop k f).rtc = s.rtc := rfl
@[simp] theorem State.modLoop_mn (s : State) (k : Nat) (f : Loop → Loop) : (s.modLoop k f).mn = s.mn := rfl
@[simp] theorem State.modLoop_per (s : State) (k : Nat) (f : Loop → Loop) : (s.modLoop k f).per = s.per := rfl
@[simp] theorem State.modLoop_qEvt (s : State) (k : Nat) (f : Loop → Loop) : (s.modLoop k f).qEvt = s.qEvt := rfl
@[simp] theorem State.modLoop_prods (s : State) (k : Nat) (f : Loop → Loop) : (s.modLoop k f).prods = s.prods := rfl
@[simp] theorem State.modLoop_qst (s : State) (k : Nat) (f : Loop → Loop) : (s.modLoop k f).qst = s.qst := rfl
@[simp] theorem State.modLoop_host (s : State) (k : Nat) (f : Loop → Loop) : (s.modLoop k f).host = s.host := rfl
@[simp] theorem State.modLoop_crc (s : State) (k : Nat) (f : Loop → Loop) : (s.modLoop k f).crc = s.crc := rfl
@[simp] theorem State.modLoop_rs (s : State) (k : Nat) (f : Loop → Loop) : (s.modLoop k f).rs = s.rs := rfl
@[simp] theorem State.modLoop_band (s : State) (k : Nat) (f : Loop → Loop) : (s.modLoop k f).band = s.band := rfl
@[simp] theorem State.modLoop_se (s : State) (k : Nat) (f : Loop → Loop) : (s.modLoop k f).se = s.se := rfl
@[simp] theorem State.modLoop_zs (s : State) (k : Nat) (f : Loop → Loop) : (s.modLoop k f).zs = { s.zs with lp := lmod s.zs.lp k f } := rfl
@[simp] theorem State.modLoop_act (s : State) (k : Nat) (f : Loop → Loop) : (s.modLoop k f).act = s.act := rfl
@[simp] theorem State.modLoop_pr (s : State) (k : Nat) (f : Loop → Loop) : (s.modLoop k f).pr = s.pr := rfl
@[simp] theorem State.modLoop_pn (s : State) (k : Nat) (f : Loop → Loop) : (s.modLoop k f).pn = s.pn := rfl
@[simp] theorem State.modLoop_cans (s : State) (k : Nat) (f : Loop → Loop) : (s.modLoop k f).cans = s.cans := rfl
@[simp] theorem State.modLoop_fb (s : State) (k : Nat) (f : Loop → Loop) : (s.modLoop k f).fb = s.fb := rfl
@[simp] theorem State.modLoop_gd (s : State) (k : Nat) (f : Loop → Loop) : (s.modLoop k f).gd = s.gd := rfl
@[simp] theorem State.modLoop_th (s : State) (k : Nat) (f : Loop → Loop) : (s.modLoop k f).th = s.th := rfl
@[simp] theorem State.modLoop_st (s : State) (k : Nat) (f : Loop → Loop) : (s.modLoop k f).st = s.st := rfl
@[simp] theorem State.modLoop_cfg (s : State) (k : Nat) (f : Loop → Loop) : (s.modLoop k f).cfg = s.cfg := rfl
@[simp] theorem State.modLoop_cfgPend (s : State) (k : Nat) (f : Loop → Loop) : (s.modLoop k f).cfgPend = s.cfgPend := rfl
@[simp] theorem State.modLoop_flashA (s : State) (k : Nat) (f : Loop → Loop) : (s.modLoop k f).flashA = s.flashA := rfl
@[simp] theorem State.modLoop_flashB (s : State) (k : Nat) (f : Loop → Loop) : (s.modLoop k f).flashB = s.flashB := rfl
@[simp] theorem State.modLoop_pending (s : State) (k : Nat) (f : Loop → Loop) : (s.modLoop k f).pending = s.pending := rfl
@[simp] theorem State.modLoop_freeCtr (s : State) (k : Nat) (f : Loop → Loop) : (s.modLoop k f).freeCtr = s.freeCtr := rfl

/-! ### `State.modInp` -/

@[simp] theorem State.modInp_now (s : State) (z i : Nat) (f : Inp → Inp) : (s.modInp z i f).now = s.now := rfl
@[simp] theorem State.modInp_pw (s : State) (z i : Nat) (f : Inp → Inp) : (s.modInp z i f).pw = s.pw := rfl
@[simp] theorem State.modInp_rtc (s : State) (z i : Nat) (f : Inp → Inp) : (s.modInp z i f).rtc = s.rtc := rfl
@[simp] theorem State.modInp_mn (s : State) (z i : Nat) (f : Inp → Inp) : (s.modInp z i f).mn = s.mn := rfl
@[simp] theorem State.modInp_per (s : State) (z i : Nat) (f : Inp → Inp) : (s.modInp z i f).per = s.per := rfl
@[simp] theorem State.modInp_qEvt (s : State) (z i : Nat) (f : Inp → Inp) : (s.modInp z i f).qEvt = s.qEvt := rfl
@[simp] theorem State.modInp_prods (s : State) (z i : Nat) (f : Inp → Inp) : (s.modInp z i f).prods = s.prods := rfl
@[simp] theorem State.modInp_qst (s : State) (z i : Nat) (f : Inp → Inp) : (s.modInp z i f).qst = s.qst := rfl
@[simp] theorem State.modInp_host (s : State) (z i : Nat) (f : Inp → Inp) : (s.modInp z i f).host = s.host := rfl
@[simp] theorem State.modInp_crc (s : State) (z i : Nat) (f : Inp → Inp) : (s.modInp z i f).crc = s.crc := rfl
@[simp] theorem State.modInp_rs (s : State) (z i : Nat) (f : Inp → Inp) : (s.modInp z i f).rs = s.rs := rfl
@[simp] theorem State.modInp_band (s : State) (z i : Nat) (f : Inp → Inp) : (s.modInp z i f).band = s.band := rfl
@[simp] theorem State.modInp_se (s : State) (z i : Nat) (f : Inp → Inp) : (s.modInp z i f).se = s.se := rfl
@[simp] theorem State.modInp_zs (s : State) (z i : Nat) (f : Inp → Inp) : (s.modInp z i f).zs = { s.zs with zn := lmod s.zs.zn z fun x => { x with inputs := lmod x.inputs i f } } := rfl
@[simp] theorem State.modInp_act (s : State) (z i : Nat) (f : Inp → Inp) : (s.modInp z i f).act = s.act := rfl
@[simp] theorem State.modInp_pr (s : State) (z i : Nat) (f : Inp → Inp) : (s.modInp z i f).pr = s.pr := rfl
@[simp] theorem State.modInp_pn (s : State) (z i : Nat) (f : Inp → Inp) : (s.modInp z i f).pn = s.pn := rfl
@[simp] theorem State.modInp_cans (s : State) (z i : Nat) (f : Inp → Inp) : (s.modInp z i f).cans = s.cans := rfl
@[simp] theorem State.modInp_fb (s : State) (z i : Nat) (f : Inp → Inp) : (s.modInp z i f).fb = s.fb := rfl
@[simp] theorem State.modInp_gd (s : State) (z i : Nat) (f : Inp → Inp) : (s.modInp z i f).gd = s.gd := rfl
@[simp] theorem State.modInp_th (s : State) (z i : Nat) (f : Inp → Inp) : (s.modInp z i f).th = s.th := rfl
@[simp] theorem State.modInp_st (s : State) (z i : Nat) (f : Inp → Inp) : (s.modInp z i f).st = s.st := rfl
@[simp] theorem State.modInp_cfg (s : State) (z i : Nat) (f : Inp → Inp) : (s.modInp z i f).cfg = s.cfg := rfl
@[simp] theorem State.modInp_cfgPend (s : State) (z i : Nat) (f : Inp → Inp) : (s.modInp z i f).cfgPend = s.cfgPend := rfl
@[simp] theorem State.modInp_flashA (s : State) (z i : Nat) (f : Inp → Inp) : (s.modInp z i f).flashA = s.flashA := rfl
@[simp] theorem State.modInp_flashB (s : State) (z i : Nat) (f : Inp → Inp) : (s.modInp z i f).flashB = s.flashB := rfl
@[simp] theorem State.modInp_pending (s : State) (z i : Nat) (f : Inp → Inp) : (s.modInp z i f).pending = s.pending := rfl
@[simp] theorem State.modInp_freeCtr (s : State) (z i : Nat) (f : Inp → Inp) : (s.modInp z i f).freeCtr = s.freeCtr := rfl

/-! ### `State.modPres` -/

@[simp] theorem State.modPres_now (s : State) (z : Nat) (f : Presence → Presence) : (s.modPres z f).now = s.now := rfl
@[simp] theorem State.modPres_pw (s : State) (z : Nat) (f : Presence → Presence) : (s.modPres z f).pw = s.pw := rfl
@[simp] theorem State.modPres_rtc (s : State) (z : Nat) (f : Presence → Presence) : (s.modPres z f).rtc = s.rtc := rfl
@[simp] theorem State.modPres_mn (s : State) (z : Nat) (f : Presence → Presence) : (s.modPres z f).mn = s.mn := rfl
@[simp] theorem State.modPres_per (s : State) (z : Nat) (f : Presence → Presence) : (s.modPres z f).per = s.per := rfl
@[simp] theorem State.modPres_qEvt (s : State) (z : Nat) (f : Presence → Presence) : (s.modPres z f).qEvt = s.qEvt := rfl
@[simp] theorem State.modPres_prods (s : State) (z : Nat) (f : Presence → Presence) : (s.modPres z f).prods = s.prods := rfl
@[simp] theorem State.modPres_qst (s : State) (z : Nat) (f : Presence → Presence) : (s.modPres z f).qst = s.qst := rfl
@[simp] theorem State.modPres_host (s : State) (z : Nat) (f : Presence → Presence) : (s.modPres z f).host = s.host := rfl
@[simp] theorem State.modPres_crc (s : State) (z : Nat) (f : Presence → Presence) : (s.modPres z f).crc = s.crc := rfl
@[simp] theorem State.modPres_rs (s : State) (z : Nat) (f : Presence → Presence) : (s.modPres z f).rs = s.rs := rfl
@[simp] theorem State.modPres_band (s : State) (z : Nat) (f : Presence → Presence) : (s.modPres z f).band = s.band := rfl
@[simp] theorem State.modPres_se (s : State) (z : Nat) (f : Presence → Presence) : (s.modPres z f).se = s.se := rfl
@[simp] theorem State.modPres_zs (s : State) (z : Nat) (f : Presence → Presence) : (s.modPres z f).zs = { s.zs with zn := lmod s.zs.zn z fun x => { x with pres := f x.pres } } := rfl
@[simp] theorem State.modPres_act (s : State) (z : Nat) (f : Presence → Presence) : (s.modPres z f).act = s.act := rfl
@[simp] theorem State.modPres_pr (s : State) (z : Nat) (f : Presence → Presence) : (s.modPres z f).pr = s.pr := rfl
@[simp] theorem State.modPres_pn (s : State) (z : Nat) (f : Presence → Presence) : (s.modPres z f).pn = s.pn := rfl
@[simp] theorem State.modPres_cans (s : State) (z : Nat) (f : Presence → Presence) : (s.modPres z f).cans = s.cans := rfl
@[simp] theorem State.modPres_fb (s : State) (z : Nat) (f : Presence → Presence) : (s.modPres z f).fb = s.fb := rfl
@[simp] theorem State.modPres_gd (s : State) (z : Nat) (f : Presence → Presence) : (s.modPres z f).gd = s.gd := rfl
@[simp] theorem State.modPres_th (s : State) (z : Nat) (f : Presence → Presence) : (s.modPres z f).th = s.th := rfl
@[simp] theorem State.modPres_st (s : State) (z : Nat) (f : Presence → Presence) : (s.modPres z f).st = s.st := rfl
@[simp] theorem State.modPres_cfg (s : State) (z : Nat) (f : Presence → Presence) : (s.modPres z f).cfg = s.cfg := rfl
@[simp] theorem State.modPres_cfgPend (s : State) (z : Nat) (f : Presence → Presence) : (s.modPres z f).cfgPend = s.cfgPend := rfl
@[simp] theorem State.modPres_flashA (s : State) (z : Nat) (f : Presence → Presence) : (s.modPres z f).flashA = s.flashA := rfl
@[simp] theorem State.modPres_flashB (s : State) (z : Nat) (f : Presence → Presence) : (s.modPres z f).flashB = s.flashB := rfl
@[simp] theorem State.modPres_pending (s : State) (z : Nat) (f : Presence → Presence) : (s.modPres z f).pending = s.pending := rfl
@[simp] theorem State.modPres_freeCtr (s : State) (z : Nat) (f : Presence → Presence) : (s.modPres z f).freeCtr = s.freeCtr := rfl

end Sys2Proof.Machine
end

