-- ==== Sys2Proof/Laws/Ops.lean ====
section
/-!
SUPPORT. Sys2Proof/Laws/Ops.lean: what the shared operations do, said once for each: configuration words, doorbells, the host event
log, events on their way to it, and the rings that are read in the order of their priorities.
-/
namespace Sys2Proof.Machine
open Sys2Proof

/-! ### Configuration words -/

/-- A word that was set is in force. -/
theorem assocGet_assocSet_self (a : Nat) (v : Word) (l : List (Nat × Word)) : assocGet (assocSet a v l) a = some v := by
  induction l with
  | nil => simp [assocSet, assocGet]
  | cons c l ih =>
    obtain ⟨k, w⟩ := c
    simp only [assocSet]
    split
    · simp [assocGet]
    · split
      · simp [assocGet]
      · have : (k == a) = false := by simpa using Ne.symm ‹¬a = k›
        simp [assocGet, this, ih]

/-- Setting a word leaves every other word as it was. -/
theorem assocGet_assocSet_ne {a b : Nat} (v : Word) (l : List (Nat × Word)) (h : b ≠ a) :
    assocGet (assocSet a v l) b = assocGet l b := by
  have hab : (a == b) = false := by simpa using h.symm
  induction l with
  | nil => simp [assocSet, assocGet, hab]
  | cons c l ih =>
    obtain ⟨k, w⟩ := c
    simp only [assocSet]
    split
    · simp [assocGet, hab]
    · split
      · subst_vars; simp [assocGet, hab]
      · simp [assocGet, ih]

/-! ### The rings of a queue, read in the order of their priorities (R39) -/

/-- Nothing is read exactly when every ring is empty. -/
theorem popRings_eq_none {α : Type} {l : List (List (QE α))} : popRings l = none ↔ ∀ q ∈ l, q = [] := by
  induction l with
  | nil => simp [popRings]
  | cons q l ih =>
    cases q with
    | nil =>
      simp only [popRings, List.mem_cons, forall_eq_or_imp, true_and, ← ih]
      cases popRings l <;> simp
    | cons e r => simp [popRings]

/-- What is read is the oldest entry of the first ring that is not empty; that ring loses it, and the others stand. -/
theorem popRings_eq_some {α : Type} {l m : List (List (QE α))} {e : QE α} (h : popRings l = some (e, m)) :
    ∃ pre r post, l = pre ++ (e :: r) :: post ∧ m = pre ++ r :: post ∧ ∀ q ∈ pre, q = [] := by
  induction l generalizing m with
  | nil => simp [popRings] at h
  | cons q l ih =>
    cases q with
    | nil =>
      simp only [popRings] at h
      cases hl : popRings l with
      | none => simp [hl] at h
      | some x =>
        obtain ⟨e', m'⟩ := x
        simp only [hl, Option.some.injEq, Prod.mk.injEq] at h
        obtain ⟨rfl, rfl⟩ := h
        obtain ⟨pre, r, post, rfl, rfl, hp⟩ := ih hl
        exact ⟨[] :: pre, r, post, rfl, rfl, by simpa using hp⟩
    | cons e' r =>
      simp only [popRings, Option.some.injEq, Prod.mk.injEq] at h
      obtain ⟨rfl, rfl⟩ := h
      exact ⟨[], r, l, rfl, rfl, by simp⟩

/-- The rings keep their number. -/
theorem popRings_length {α : Type} {l m : List (List (QE α))} {e : QE α} (h : popRings l = some (e, m)) : m.length = l.length := by
  obtain ⟨pre, r, post, rfl, rfl, -⟩ := popRings_eq_some h
  simp

/-- The same of `Q-EVT`. -/
theorem popEvt_eq_none {l : List (List EvtEntry)} : popEvt l = none ↔ ∀ q ∈ l, q = [] := by
  induction l with
  | nil => simp [popEvt]
  | cons q l ih =>
    cases q with
    | nil =>
      simp only [popEvt, List.mem_cons, forall_eq_or_imp, true_and, ← ih]
      cases popEvt l <;> simp
    | cons e r => simp [popEvt]

theorem popEvt_eq_some {l m : List (List EvtEntry)} {e : EvtEntry} (h : popEvt l = some (e, m)) :
    ∃ pre r post, l = pre ++ (e :: r) :: post ∧ m = pre ++ r :: post ∧ ∀ q ∈ pre, q = [] := by
  induction l generalizing m with
  | nil => simp [popEvt] at h
  | cons q l ih =>
    cases q with
    | nil =>
      simp only [popEvt] at h
      cases hl : popEvt l with
      | none => simp [hl] at h
      | some x =>
        obtain ⟨e', m'⟩ := x
        simp only [hl, Option.some.injEq, Prod.mk.injEq] at h
        obtain ⟨rfl, rfl⟩ := h
        obtain ⟨pre, r, post, rfl, rfl, hp⟩ := ih hl
        exact ⟨[] :: pre, r, post, rfl, rfl, by simpa using hp⟩
    | cons e' r =>
      simp only [popEvt, Option.some.injEq, Prod.mk.injEq] at h
      obtain ⟨rfl, rfl⟩ := h
      exact ⟨[], r, l, rfl, rfl, by simp⟩

theorem popEvt_length {l m : List (List EvtEntry)} {e : EvtEntry} (h : popEvt l = some (e, m)) : m.length = l.length := by
  obtain ⟨pre, r, post, rfl, rfl, -⟩ := popEvt_eq_some h
  simp

/-! ### Record writes on their way (R44) -/

/-- A record write enters `Q-REC`, or waits for a credit. -/
theorem State.postRec_cases (s : State) (prod : Nat) (e : RecEntry) :
    (s.postRec prod e).rs = { s.rs with queue := s.rs.queue ++ [{ val := e, prod := prod }] } ∨
      (s.postRec prod e).rs = { s.rs with waiting := s.rs.waiting ++ [{ val := e, prod := prod }] } := by
  unfold State.postRec
  dsimp only
  split
  · exact .inl rfl
  · exact .inr rfl

/-- It changes the record store and the statistics of its queue alone. -/
theorem State.postRec_same (s : State) (prod : Nat) (e : RecEntry) : SameOutside [.events, .recs] s (s.postRec prod e) := by
  unfold State.postRec
  dsimp only
  split <;> exact (SameOutside.refl _ s).update

/-! ### The store log and the host event log (R150, R393) -/

theorem State.storeLog_same (s : State) (e : LogEntry) : SameOutside [.events, .recs] s (s.storeLog e) :=
  (s.postRec_same 0 _).update

theorem State.toStoreLog_same (s : State) (e : LogEntry) : SameOutside [.events, .recs] s (s.toStoreLog e) := by
  unfold State.toStoreLog
  split
  · split
    · exact s.storeLog_same e
    · exact (SameOutside.refl _ s).update
  · exact SameOutside.refl _ s

@[simp] theorem State.postRec_host (s : State) (prod : Nat) (e : RecEntry) : (s.postRec prod e).host = s.host := by
  unfold State.postRec
  dsimp only
  split <;> rfl

@[simp] theorem State.storeLog_host (s : State) (e : LogEntry) : (s.storeLog e).host = s.host := by
  simp [State.storeLog]

@[simp] theorem State.toStoreLog_host (s : State) (e : LogEntry) : (s.toStoreLog e).host = s.host := by
  unfold State.toStoreLog
  split
  · split <;> simp
  · rfl

/-- The newest 1,024 entries stand in the log, the new one last; the next sequence number follows. -/
theorem State.logEntry_log (s : State) (code inst pri : Nat) (bad : Bool) (rsv arg : Nat) :
    (s.logEntry code inst pri bad rsv arg).host.log =
        (s.host.log ++ [({ code := code, inst := inst, pri := pri, poisoned := bad, seqno := s.host.seqno, timeS := rtcSeconds s,
                           timeMs := rtcMillis s, rsv := rsv, arg := arg } : LogEntry)]).drop (s.host.log.length + 1 - 1024) ∧
      (s.logEntry code inst pri bad rsv arg).host.seqno = (s.host.seqno + 1) % 2 ^ 32 := by
  unfold State.logEntry
  dsimp only
  split <;> simp

/-- The newest entry of the log. -/
theorem State.logEntry_newest (s : State) (code inst pri : Nat) (bad : Bool) (rsv arg : Nat) :
    ∃ e, (s.logEntry code inst pri bad rsv arg).host.log.getLast? = some e ∧ e.code = code ∧ e.inst = inst ∧ e.arg = arg ∧
      e.pri = pri ∧ e.poisoned = bad ∧ e.seqno = s.host.seqno := by
  refine ⟨{ code := code, inst := inst, pri := pri, poisoned := bad, seqno := s.host.seqno, timeS := rtcSeconds s,
            timeMs := rtcMillis s, rsv := rsv, arg := arg }, ?_, rfl, rfl, rfl, rfl, rfl, rfl⟩
  rw [(s.logEntry_log code inst pri bad rsv arg).1, List.getLast?_drop]
  simp <;> omega

/-- An event of `SB` is logged. -/
theorem State.sbEvent_logged (s : State) (code inst arg : Nat) : Logged (s.sbEvent code inst arg) code inst (arg % 2 ^ 32) := by
  obtain ⟨e, h, hc, hi, ha, hp, -⟩ := s.logEntry_newest code inst (evPri code) false 0 (arg % 2 ^ 32)
  exact ⟨e, h, hc, hi, ha, hp⟩

/-- A log entry changes the log and its doorbell, and the record store on the way to the store log. -/
theorem State.logEntry_same (s : State) (code inst pri : Nat) (bad : Bool) (rsv arg : Nat) :
    SameOutside [.events, .log, .recs] s (s.logEntry code inst pri bad rsv arg) := by
  unfold State.logEntry
  dsimp only
  split
  · exact SameOutside.next (SameOutside.update (SameOutside.update (SameOutside.refl _ s))) (State.toStoreLog_same _ _) (by decide)
  · exact SameOutside.next (SameOutside.update (SameOutside.refl _ s)) (State.toStoreLog_same _ _) (by decide)

theorem State.sbEvent_same (s : State) (code inst arg : Nat) :
    SameOutside [.events, .log, .recs] s (s.sbEvent code inst arg) := s.logEntry_same _ _ _ _ _ _

/-! ### `Q-EVT` (R45, R460) -/

theorem State.enqEvt_same (s : State) (e : EvtEntry) : SameOutside [.events] s (s.enqEvt e) := (SameOutside.refl _ s).update

theorem State.sendEvt_same (s : State) (prod : Nat) (e : EvtEntry) : SameOutside [.events] s (s.sendEvt prod e) := by
  unfold State.sendEvt
  split
  · exact (SameOutside.refl _ s).update
  · exact s.enqEvt_same _

/-- An event that is sent stands last in the crossing that stands still, or last in its ring. -/
theorem State.sendEvt_newest (s : State) {prod : Nat} {e : EvtEntry} (hp : prod < s.prods.length) (hq : e.pri < s.qEvt.length) :
    ((s.sendEvt prod e).qEvt.getD e.pri []).getLast? = some e ∨
      ((s.sendEvt prod e).prods.getD prod {}).cross.getLast? = some e := by
  unfold State.sendEvt
  split
  · right
    show ((lmod s.prods prod _).getD prod {}).cross.getLast? = _
    rw [getD_lmod_self _ _ hp]
    simp
  · left
    rw [State.enqEvt_qEvt, getD_lmod_self _ _ hq]
    simp

/-- Raising an event changes `Q-EVT`, its producers and the queue statistics alone. -/
theorem State.raise_same (s : State) (prod code inst arg : Nat) : SameOutside [.events] s (s.raise prod code inst arg) := by
  unfold State.raise
  dsimp only
  split
  · exact s.sendEvt_same _ _
  · cases s.evtsWait <;> split <;> exact (SameOutside.refl _ s).update

/-- An event that is raised stands last in its ring or its crossing, or last in its producer's buffer, or is counted as lost. -/
theorem State.raise_raised (s : State) {prod : Nat} (code inst arg : Nat) (hp : prod < s.prods.length)
    (hq : (mkEvt prod code inst arg).pri < s.qEvt.length) : Raised s (s.raise prod code inst arg) prod code inst arg := by
  unfold Raised State.raise
  dsimp only
  split
  · rcases s.sendEvt_newest hp hq with h | h
    · exact .inl h
    · exact .inr (.inl h)
  · right; right
    have hg (f : EvtProd → EvtProd) : (lmod s.prods prod f).getD prod {} = f (s.prods.getD prod {}) := getD_lmod_self _ _ hp
    cases s.evtsWait <;> simp only [Bool.false_eq_true, if_false, if_true] <;> split
    · left
      show ((lmod s.prods prod _).getD prod {}).held.getLast? = _
      rw [hg, List.getLast?_append, List.getLast?_singleton]
      rfl
    · right; right
      show _ < ((lmod s.prods prod _).getD prod {}).lost
      rw [hg]
      exact Nat.lt_succ_self _
    · right; left
      show ((lmod s.prods prod _).getD prod {}).late.getLast? = _
      rw [hg, List.getLast?_append, List.getLast?_singleton]
      rfl
    · right; right
      show _ < ((lmod s.prods prod _).getD prod {}).lost
      rw [hg]
      exact Nat.lt_succ_self _

end Sys2Proof.Machine
end

