-- ==== Sys2Proof/Laws/PerInstr.lean ====
section
/-!
SUPPORT. Sys2Proof/Laws/PerInstr.lean: what holds of every command's list of parts (`writesOf`): the queue is never among the parts
that a command changes, so a command leaves the commands behind it as they wait, and no part is listed twice.
-/
namespace Sys2Proof.Laws
open Sys2Proof

/-- No command lists the queue among the parts that it may change, and none lists a part twice. -/
def Footprint.Statement (i : Instr) : Prop := Part.pending ∉ writesOf i ∧ (writesOf i).Nodup

/-- The statement from the list of a command's parts. -/
theorem Footprint.ofList {i : Instr} {l : List Part} (h : writesOf i = l) (d : Part.pending ∉ l ∧ l.Nodup) : Footprint.Statement i := by
  subst h; exact d

theorem Footprint.vsupValid (strapHigh : List Nat) : Footprint.Statement (.vsupValid strapHigh) :=
  Footprint.ofList (l := [.supply, .rtc, .mode, .main, .recs, .zones, .cans, .straps, .cfg]) rfl (by decide)
theorem Footprint.critComparatorArm : Footprint.Statement (.critComparatorArm) :=
  Footprint.ofList (l := [.now, .act, .thermal]) rfl (by decide)
theorem Footprint.drvPllLock : Footprint.Statement (.drvPllLock) :=
  Footprint.ofList (l := [.main, .events, .sense, .act]) rfl (by decide)
theorem Footprint.guardRelease : Footprint.Statement (.guardRelease) :=
  Footprint.ofList (l := [.guard]) rfl (by decide)
theorem Footprint.bootRomStart : Footprint.Statement (.bootRomStart) :=
  Footprint.ofList (l := [.mode, .main, .events, .log, .link, .buffers, .crc, .cells, .recs, .predict, .cans, .fabric]) rfl (by decide)
theorem Footprint.guardReady : Footprint.Statement (.guardReady) :=
  Footprint.ofList (l := [.events, .log, .link, .sense, .act, .guard]) rfl (by decide)
theorem Footprint.imageCheckDone (ded : Bool) : Footprint.Statement (.imageCheckDone ded) :=
  Footprint.ofList (l := [.mode, .main, .events, .log, .link, .buffers, .crc, .cells, .recs, .predict, .cans, .fabric]) rfl (by decide)
theorem Footprint.imagesLoaded (ded : Bool) : Footprint.Statement (.imagesLoaded ded) :=
  Footprint.ofList (l := [.mode, .main, .events, .log, .link, .buffers, .crc, .cells, .recs, .sense, .act, .predict, .cans, .fabric]) rfl (by decide)
theorem Footprint.selftestDone (badBlocks : List Nat) : Footprint.Statement (.selftestDone badBlocks) :=
  Footprint.ofList (l := [.supply, .main, .per, .events, .log, .link, .buffers, .recs, .cans, .fabric]) rfl (by decide)
theorem Footprint.coreSelftestDone (core : Fin 4) (pass : Bool) : Footprint.Statement (.coreSelftestDone core pass) :=
  Footprint.ofList (l := [.per, .events, .log, .recs]) rfl (by decide)
theorem Footprint.recall (us : Nat) : Footprint.Statement (.recall us) :=
  Footprint.ofList (l := [.supply, .main, .per, .events, .log, .link, .buffers, .recs, .sense, .zones, .act, .predict, .cans, .fabric, .cfg, .free]) rfl (by decide)
theorem Footprint.ready : Footprint.Statement (.ready) :=
  Footprint.ofList (l := [.mode, .main, .per, .events, .log, .link, .buffers, .crc, .recs, .sense, .zones, .act, .predict, .panel, .cans, .fabric, .guard, .thermal, .cfg, .free]) rfl (by decide)
theorem Footprint.vsupLost : Footprint.Statement (.vsupLost) :=
  Footprint.ofList (l := [.now, .supply, .rtc, .mode, .main, .per, .events, .log, .link, .buffers, .crc, .cells, .recs, .band, .sense, .zones, .act, .predict, .panel, .cans, .fabric, .guard, .thermal, .bufStop, .straps, .cfg, .cfgPend, .flash, .free]) rfl (by decide)
theorem Footprint.vdrvLost : Footprint.Statement (.vdrvLost) :=
  Footprint.ofList (l := [.supply, .events, .log, .recs, .sense, .act, .free]) rfl (by decide)
theorem Footprint.vdrvBack : Footprint.Statement (.vdrvBack) :=
  Footprint.ofList (l := [.supply, .events, .log, .recs, .sense, .act]) rfl (by decide)
theorem Footprint.vdrvOv (mv : Nat) : Footprint.Statement (.vdrvOv mv) :=
  Footprint.ofList (l := [.supply, .events, .sense, .act, .free]) rfl (by decide)
theorem Footprint.vdrvOvRelease : Footprint.Statement (.vdrvOvRelease) :=
  Footprint.ofList (l := [.supply, .events, .sense]) rfl (by decide)
theorem Footprint.vioLost : Footprint.Statement (.vioLost) :=
  Footprint.ofList (l := [.supply, .events, .log, .recs]) rfl (by decide)
theorem Footprint.vioBack : Footprint.Statement (.vioBack) :=
  Footprint.ofList (l := [.supply, .events, .log, .recs]) rfl (by decide)
theorem Footprint.vbkpLost : Footprint.Statement (.vbkpLost) :=
  Footprint.ofList (l := [.supply, .rtc, .events, .log, .recs, .cans, .thermal, .cfg]) rfl (by decide)
theorem Footprint.vbkpBack : Footprint.Statement (.vbkpBack) :=
  Footprint.ofList (l := [.supply, .rtc, .events, .log, .recs]) rfl (by decide)
theorem Footprint.rstNAssert : Footprint.Statement (.rstNAssert) :=
  Footprint.ofList (l := [.now, .supply, .mode, .main, .per, .events, .log, .link, .buffers, .crc, .cells, .recs, .sense, .zones, .act, .predict, .panel, .cans, .fabric, .guard, .cfgPend]) rfl (by decide)
theorem Footprint.rstNRelease (strapHigh : List Nat) : Footprint.Statement (.rstNRelease strapHigh) :=
  Footprint.ofList (l := [.supply, .main, .straps]) rfl (by decide)
theorem Footprint.clockLost (d : Clk) : Footprint.Statement (.clockLost d) :=
  Footprint.ofList (l := [.now, .supply, .mode, .main, .per, .events, .log, .link, .buffers, .crc, .cells, .recs, .sense, .zones, .act, .predict, .panel, .cans, .fabric, .guard, .cfgPend]) rfl (by decide)
theorem Footprint.clockBack (d : Clk) : Footprint.Statement (.clockBack d) :=
  Footprint.ofList (l := [.now, .supply, .mode, .main, .per, .events, .log, .link, .buffers, .crc, .cells, .recs, .sense, .zones, .act, .predict, .panel, .cans, .fabric, .guard, .cfgPend]) rfl (by decide)
theorem Footprint.memDed (memory : Fin 5) : Footprint.Statement (.memDed memory) :=
  Footprint.ofList (l := [.now, .supply, .mode, .main, .per, .events, .log, .link, .buffers, .crc, .cells, .recs, .sense, .zones, .act, .predict, .panel, .cans, .fabric, .guard, .cfgPend]) rfl (by decide)
theorem Footprint.guardLockstepMismatch : Footprint.Statement (.guardLockstepMismatch) :=
  Footprint.ofList (l := [.guard]) rfl (by decide)
theorem Footprint.guardReset : Footprint.Statement (.guardReset) :=
  Footprint.ofList (l := [.events, .log, .link, .sense, .act, .guard]) rfl (by decide)
theorem Footprint.mainRestart : Footprint.Statement (.mainRestart) :=
  Footprint.ofList (l := [.now, .supply, .mode, .main, .per, .events, .log, .link, .buffers, .crc, .cells, .recs, .sense, .zones, .act, .predict, .panel, .cans, .fabric, .guard, .cfgPend]) rfl (by decide)
theorem Footprint.trialAccept : Footprint.Statement (.trialAccept) :=
  Footprint.ofList (l := [.main, .events, .log, .cells, .recs]) rfl (by decide)
theorem Footprint.periodStart : Footprint.Statement (.periodStart) :=
  Footprint.ofList (l := [.now, .per, .events, .log, .link, .recs, .sense, .zones, .act, .predict, .panel, .guard]) rfl (by decide)
theorem Footprint.planSolveDone (us : Nat) : Footprint.Statement (.planSolveDone us) :=
  Footprint.ofList (l := [.now, .per, .events, .zones, .act, .predict, .free]) rfl (by decide)
theorem Footprint.zoneInstant (hung : List (Fin 4 × Nat)) : Footprint.Statement (.zoneInstant hung) :=
  Footprint.ofList (l := [.now, .per, .events, .log, .recs, .zones, .act, .predict, .guard, .free]) rfl (by decide)
theorem Footprint.pntAbsorb (core : Fin 4) : Footprint.Statement (.pntAbsorb core) :=
  Footprint.ofList (l := [.per, .events, .zones]) rfl (by decide)
theorem Footprint.changeover (us : Nat) : Footprint.Statement (.changeover us) :=
  Footprint.ofList (l := [.now, .supply, .rtc, .mode, .main, .per, .events, .log, .link, .buffers, .crc, .cells, .recs, .band, .sense, .zones, .act, .predict, .panel, .cans, .fabric, .guard, .thermal, .bufStop, .straps, .cfg, .cfgPend, .flash, .free]) rfl (by decide)
theorem Footprint.coreWatchdogExpiry (core : Fin 4) : Footprint.Statement (.coreWatchdogExpiry core) :=
  Footprint.ofList (l := [.now, .per, .events, .log, .recs]) rfl (by decide)
theorem Footprint.noZoneCoreTimeout : Footprint.Statement (.noZoneCoreTimeout) :=
  Footprint.ofList (l := [.now, .supply, .mode, .main, .per, .events, .log, .link, .buffers, .crc, .cells, .recs, .sense, .zones, .act, .predict, .panel, .cans, .fabric, .guard, .cfgPend]) rfl (by decide)
theorem Footprint.deCmdExecute (mv : Fin 65536) : Footprint.Statement (.deCmdExecute mv) :=
  Footprint.ofList (l := [.supply, .events, .log, .link, .buffers, .recs, .sense, .act, .cans, .fabric, .free]) rfl (by decide)
theorem Footprint.evtTake : Footprint.Statement (.evtTake) :=
  Footprint.ofList (l := [.events, .log, .link, .recs, .guard]) rfl (by decide)
theorem Footprint.evtHeldSend (producer : Fin 12) : Footprint.Statement (.evtHeldSend producer) :=
  Footprint.ofList (l := [.events, .panel]) rfl (by decide)
theorem Footprint.deResultForward : Footprint.Statement (.deResultForward) :=
  Footprint.ofList (l := [.events, .sense]) rfl (by decide)
theorem Footprint.saveArm : Footprint.Statement (.saveArm) :=
  Footprint.ofList (l := [.supply]) rfl (by decide)
theorem Footprint.saveNotArmed (mv : Nat) : Footprint.Statement (.saveNotArmed mv) :=
  Footprint.ofList (l := [.now, .supply, .events, .log, .recs]) rfl (by decide)
theorem Footprint.powerFailSave (us : Nat) : Footprint.Statement (.powerFailSave us) :=
  Footprint.ofList (l := [.now, .supply, .main, .per, .log, .link, .buffers, .cells, .recs, .sense, .zones, .act, .predict, .guard]) rfl (by decide)
theorem Footprint.vsupRecovered : Footprint.Statement (.vsupRecovered) :=
  Footprint.ofList (l := [.now, .supply, .mode, .main, .per, .events, .log, .link, .buffers, .crc, .cells, .recs, .sense, .zones, .act, .predict, .panel, .cans, .fabric, .guard, .cfgPend]) rfl (by decide)
theorem Footprint.wakeNLow : Footprint.Statement (.wakeNLow) :=
  Footprint.ofList (l := [.supply, .mode, .main, .events, .log, .recs, .zones, .cans, .straps, .cfg]) rfl (by decide)
theorem Footprint.rtcAlarm : Footprint.Statement (.rtcAlarm) :=
  Footprint.ofList (l := [.now, .supply, .mode, .main, .recs, .zones, .cans, .straps, .cfg]) rfl (by decide)
theorem Footprint.wakePattern (port : Fin 3) (dom1 rcs dom2 : Nat) : Footprint.Statement (.wakePattern port dom1 rcs dom2) :=
  Footprint.ofList (l := [.supply, .mode, .main, .recs, .zones, .cans, .straps, .cfg, .free]) rfl (by decide)
theorem Footprint.selectiveWakeFrame (port : Fin 3) (r : WakeRx) : Footprint.Statement (.selectiveWakeFrame port r) :=
  Footprint.ofList (l := [.supply, .mode, .main, .recs, .zones, .cans, .straps, .cfg]) rfl (by decide)
theorem Footprint.spiRead (addr : Option (Fin 16777216)) (n : Nat) : Footprint.Statement (.spiRead addr n) :=
  Footprint.ofList (l := [.events, .log, .link, .buffers, .recs, .cans, .fabric]) rfl (by decide)
theorem Footprint.spiQread (addr : Option (Fin 16777216)) (n : Nat) : Footprint.Statement (.spiQread addr n) :=
  Footprint.ofList (l := [.events, .log, .link, .buffers, .recs, .cans, .fabric]) rfl (by decide)
theorem Footprint.spiWrite (addr : Option (Fin 16777216)) (data : List Byte) : Footprint.Statement (.spiWrite addr data) :=
  Footprint.ofList (l := [.events, .log, .link, .buffers, .recs, .cans, .fabric]) rfl (by decide)
theorem Footprint.spiQwrite (addr : Option (Fin 16777216)) (data : List Byte) : Footprint.Statement (.spiQwrite addr data) :=
  Footprint.ofList (l := [.events, .log, .link, .buffers, .recs, .cans, .fabric]) rfl (by decide)
theorem Footprint.spiUnknownInstruction (code : Byte) : Footprint.Statement (.spiUnknownInstruction code) :=
  Footprint.ofList (l := [.events, .log, .link, .buffers, .recs, .cans, .fabric]) rfl (by decide)
theorem Footprint.spiCsTimeout (part : SpiPart) : Footprint.Statement (.spiCsTimeout part) :=
  Footprint.ofList (l := [.events, .log, .link, .buffers, .recs, .cans, .fabric]) rfl (by decide)
theorem Footprint.slotWrite (slot : Fin 8) (off : Fin 256) (data : List Byte) : Footprint.Statement (.slotWrite slot off data) :=
  Footprint.ofList (l := [.events, .log, .link, .buffers, .recs, .cans, .fabric]) rfl (by decide)
theorem Footprint.h2dDb (v : Word) : Footprint.Statement (.h2dDb v) :=
  Footprint.ofList (l := [.events, .log, .link, .buffers, .recs, .cans, .fabric]) rfl (by decide)
theorem Footprint.statusW1c (v : Word) : Footprint.Statement (.statusW1c v) :=
  Footprint.ofList (l := [.events, .log, .link, .buffers, .recs, .cans, .fabric]) rfl (by decide)
theorem Footprint.dbStatusW1c (v : Word) : Footprint.Statement (.dbStatusW1c v) :=
  Footprint.ofList (l := [.events, .log, .link, .buffers, .recs, .cans, .fabric]) rfl (by decide)
theorem Footprint.irqMaskWrite (v : Word) : Footprint.Statement (.irqMaskWrite v) :=
  Footprint.ofList (l := [.events, .log, .link, .buffers, .recs, .cans, .fabric]) rfl (by decide)
theorem Footprint.handoverW1c (hi : Bool) (v : Word) : Footprint.Statement (.handoverW1c hi v) :=
  Footprint.ofList (l := [.events, .log, .link, .buffers, .recs, .cans, .fabric]) rfl (by decide)
theorem Footprint.wdescWrite (v : Word) : Footprint.Statement (.wdescWrite v) :=
  Footprint.ofList (l := [.events, .log, .link, .buffers, .recs, .cans, .fabric]) rfl (by decide)
theorem Footprint.descClaim (d : Fin 64) (sizeU : Fin 256) (baseU : Fin 1024) : Footprint.Statement (.descClaim d sizeU baseU) :=
  Footprint.ofList (l := [.events, .log, .link, .buffers, .recs, .cans, .fabric]) rfl (by decide)
theorem Footprint.descResize (d : Fin 64) (sizeU : Fin 256) (baseU : Fin 1024) : Footprint.Statement (.descResize d sizeU baseU) :=
  Footprint.ofList (l := [.events, .log, .link, .buffers, .recs, .cans, .fabric]) rfl (by decide)
theorem Footprint.descHandToDevice (d : Fin 64) : Footprint.Statement (.descHandToDevice d) :=
  Footprint.ofList (l := [.events, .log, .link, .buffers, .recs, .cans, .fabric]) rfl (by decide)
theorem Footprint.descRelease (d : Fin 64) : Footprint.Statement (.descRelease d) :=
  Footprint.ofList (l := [.events, .log, .link, .buffers, .recs, .cans, .fabric]) rfl (by decide)
theorem Footprint.descWord1Write (d : Fin 64) (v : Word) : Footprint.Statement (.descWord1Write d v) :=
  Footprint.ofList (l := [.events, .log, .link, .buffers, .recs, .cans, .fabric]) rfl (by decide)
theorem Footprint.regWrite (reg : Fin 16) (data : List Byte) : Footprint.Statement (.regWrite reg data) :=
  Footprint.ofList (l := [.events, .log, .link, .buffers, .recs, .cans, .fabric]) rfl (by decide)
theorem Footprint.linkLost : Footprint.Statement (.linkLost) :=
  Footprint.ofList (l := [.now, .events, .log, .link, .recs]) rfl (by decide)
theorem Footprint.xferChunkDone (d : Fin 64) : Footprint.Statement (.xferChunkDone d) :=
  Footprint.ofList (l := [.now, .per, .events, .log, .link, .buffers, .cells, .recs, .sense, .zones, .act, .predict, .panel, .cans, .fabric, .cfg, .cfgPend, .flash, .free]) rfl (by decide)
theorem Footprint.xferTimeout (d : Fin 64) : Footprint.Statement (.xferTimeout d) :=
  Footprint.ofList (l := [.now, .events, .log, .link, .buffers, .recs]) rfl (by decide)
theorem Footprint.ping : Footprint.Statement (.ping) :=
  Footprint.ofList (l := [.events, .log, .link, .buffers, .recs, .cans, .fabric]) rfl (by decide)
theorem Footprint.hello : Footprint.Statement (.hello) :=
  Footprint.ofList (l := [.events, .log, .link, .buffers, .recs, .cans, .fabric]) rfl (by decide)
theorem Footprint.modeSet : Footprint.Statement (.modeSet) :=
  Footprint.ofList (l := [.main, .events, .log, .link, .buffers, .recs, .cans, .fabric]) rfl (by decide)
theorem Footprint.restartMain : Footprint.Statement (.restartMain) :=
  Footprint.ofList (l := [.main, .events, .log, .link, .buffers, .recs, .cans, .fabric]) rfl (by decide)
theorem Footprint.objGet : Footprint.Statement (.objGet) :=
  Footprint.ofList (l := [.events, .log, .link, .buffers, .recs, .act, .cans, .fabric]) rfl (by decide)
theorem Footprint.objSet : Footprint.Statement (.objSet) :=
  Footprint.ofList (l := [.now, .per, .events, .log, .link, .buffers, .cells, .recs, .sense, .zones, .act, .predict, .panel, .cans, .fabric, .cfg, .cfgPend, .free]) rfl (by decide)
theorem Footprint.objDefault : Footprint.Statement (.objDefault) :=
  Footprint.ofList (l := [.now, .per, .events, .log, .link, .buffers, .cells, .recs, .sense, .zones, .act, .predict, .panel, .cans, .fabric, .cfg, .cfgPend, .free]) rfl (by decide)
theorem Footprint.objList : Footprint.Statement (.objList) :=
  Footprint.ofList (l := [.events, .log, .link, .buffers, .recs, .cans, .fabric]) rfl (by decide)
theorem Footprint.xferRead : Footprint.Statement (.xferRead) :=
  Footprint.ofList (l := [.events, .log, .link, .buffers, .recs, .act, .cans, .fabric]) rfl (by decide)
theorem Footprint.xferWrite : Footprint.Statement (.xferWrite) :=
  Footprint.ofList (l := [.events, .log, .link, .buffers, .recs, .act, .cans, .fabric]) rfl (by decide)
theorem Footprint.checkval : Footprint.Statement (.checkval) :=
  Footprint.ofList (l := [.events, .log, .link, .buffers, .recs, .cans, .fabric]) rfl (by decide)
theorem Footprint.recRead : Footprint.Statement (.recRead) :=
  Footprint.ofList (l := [.events, .log, .link, .buffers, .recs, .cans, .fabric]) rfl (by decide)
theorem Footprint.recWrite : Footprint.Statement (.recWrite) :=
  Footprint.ofList (l := [.events, .log, .link, .buffers, .recs, .cans, .fabric]) rfl (by decide)
theorem Footprint.recStat : Footprint.Statement (.recStat) :=
  Footprint.ofList (l := [.events, .log, .link, .buffers, .recs, .cans, .fabric]) rfl (by decide)
theorem Footprint.recUnlock : Footprint.Statement (.recUnlock) :=
  Footprint.ofList (l := [.events, .log, .link, .buffers, .recs, .cans, .fabric]) rfl (by decide)
theorem Footprint.recLock : Footprint.Statement (.recLock) :=
  Footprint.ofList (l := [.events, .log, .link, .buffers, .recs, .cans, .fabric]) rfl (by decide)
theorem Footprint.recPassword : Footprint.Statement (.recPassword) :=
  Footprint.ofList (l := [.events, .log, .link, .buffers, .recs, .cans, .fabric]) rfl (by decide)
theorem Footprint.recDefault : Footprint.Statement (.recDefault) :=
  Footprint.ofList (l := [.events, .log, .link, .buffers, .recs, .cans, .fabric]) rfl (by decide)
theorem Footprint.fabRelay : Footprint.Statement (.fabRelay) :=
  Footprint.ofList (l := [.events, .log, .link, .buffers, .recs, .cans, .fabric]) rfl (by decide)
theorem Footprint.fabPing : Footprint.Statement (.fabPing) :=
  Footprint.ofList (l := [.events, .log, .link, .buffers, .recs, .cans, .fabric]) rfl (by decide)
theorem Footprint.fabRediscover : Footprint.Statement (.fabRediscover) :=
  Footprint.ofList (l := [.events, .log, .link, .buffers, .recs, .cans, .fabric]) rfl (by decide)
theorem Footprint.fabRoute : Footprint.Statement (.fabRoute) :=
  Footprint.ofList (l := [.events, .log, .link, .buffers, .recs, .cans, .fabric]) rfl (by decide)
theorem Footprint.canRecover : Footprint.Statement (.canRecover) :=
  Footprint.ofList (l := [.events, .log, .link, .buffers, .recs, .cans, .fabric, .free]) rfl (by decide)
theorem Footprint.canCancel : Footprint.Statement (.canCancel) :=
  Footprint.ofList (l := [.events, .log, .link, .buffers, .recs, .cans, .fabric]) rfl (by decide)
theorem Footprint.ttCommit : Footprint.Statement (.ttCommit) :=
  Footprint.ofList (l := [.events, .log, .link, .buffers, .recs, .cans, .fabric]) rfl (by decide)
theorem Footprint.canStatsClear : Footprint.Statement (.canStatsClear) :=
  Footprint.ofList (l := [.events, .log, .link, .buffers, .recs, .cans, .fabric]) rfl (by decide)
theorem Footprint.actSet : Footprint.Statement (.actSet) :=
  Footprint.ofList (l := [.events, .log, .link, .buffers, .recs, .act, .cans, .fabric]) rfl (by decide)
theorem Footprint.actRelease : Footprint.Statement (.actRelease) :=
  Footprint.ofList (l := [.events, .log, .link, .buffers, .recs, .act, .cans, .fabric]) rfl (by decide)
theorem Footprint.fanClear : Footprint.Statement (.fanClear) :=
  Footprint.ofList (l := [.events, .log, .link, .buffers, .recs, .act, .cans, .fabric]) rfl (by decide)
theorem Footprint.valveProve : Footprint.Statement (.valveProve) :=
  Footprint.ofList (l := [.events, .log, .link, .buffers, .recs, .act, .cans, .fabric]) rfl (by decide)
theorem Footprint.evtRead : Footprint.Statement (.evtRead) :=
  Footprint.ofList (l := [.events, .log, .link, .buffers, .recs, .cans, .fabric]) rfl (by decide)
theorem Footprint.evtFilter : Footprint.Statement (.evtFilter) :=
  Footprint.ofList (l := [.events, .log, .link, .buffers, .recs, .cans, .fabric]) rfl (by decide)
theorem Footprint.timeGet : Footprint.Statement (.timeGet) :=
  Footprint.ofList (l := [.events, .log, .link, .buffers, .recs, .cans, .fabric]) rfl (by decide)
theorem Footprint.timeSet : Footprint.Statement (.timeSet) :=
  Footprint.ofList (l := [.rtc, .events, .log, .link, .buffers, .recs, .cans, .fabric]) rfl (by decide)
theorem Footprint.depRegRead : Footprint.Statement (.depRegRead) :=
  Footprint.ofList (l := [.events, .log, .link, .buffers, .recs, .cans, .fabric]) rfl (by decide)
theorem Footprint.depRegWrite : Footprint.Statement (.depRegWrite) :=
  Footprint.ofList (l := [.events, .log, .link, .buffers, .crc, .recs, .sense, .act, .cans, .fabric, .free]) rfl (by decide)
theorem Footprint.depLoad : Footprint.Statement (.depLoad) :=
  Footprint.ofList (l := [.events, .log, .link, .buffers, .cells, .recs, .cans, .fabric]) rfl (by decide)
theorem Footprint.depSwitch : Footprint.Statement (.depSwitch) :=
  Footprint.ofList (l := [.main, .events, .log, .link, .buffers, .cells, .recs, .cans, .fabric]) rfl (by decide)
theorem Footprint.depKey1 : Footprint.Statement (.depKey1) :=
  Footprint.ofList (l := [.events, .log, .link, .buffers, .recs, .cans, .fabric]) rfl (by decide)
theorem Footprint.depKey0Off : Footprint.Statement (.depKey0Off) :=
  Footprint.ofList (l := [.events, .log, .link, .buffers, .recs, .cans, .fabric]) rfl (by decide)
theorem Footprint.depSvcPw : Footprint.Statement (.depSvcPw) :=
  Footprint.ofList (l := [.main, .events, .log, .link, .buffers, .recs, .cans, .fabric]) rfl (by decide)
theorem Footprint.crcStart : Footprint.Statement (.crcStart) :=
  Footprint.ofList (l := [.crc]) rfl (by decide)
theorem Footprint.crcData8 (b : Byte) : Footprint.Statement (.crcData8 b) :=
  Footprint.ofList (l := [.crc]) rfl (by decide)
theorem Footprint.crcData32 (v : Word) : Footprint.Statement (.crcData32 v) :=
  Footprint.ofList (l := [.crc]) rfl (by decide)
theorem Footprint.directDurationExpiry (st : Stage) : Footprint.Statement (.directDurationExpiry st) :=
  Footprint.ofList (l := [.now, .events, .log, .recs, .act]) rfl (by decide)
theorem Footprint.overrideExpiry (z : Fin 32) : Footprint.Statement (.overrideExpiry z) :=
  Footprint.ofList (l := [.now, .events, .log, .recs, .zones]) rfl (by decide)
theorem Footprint.seqStepStart (sd : Fin 4) : Footprint.Statement (.seqStepStart sd) :=
  Footprint.ofList (l := [.events, .sense]) rfl (by decide)
theorem Footprint.sdOutput (sd : Fin 4) (code : Int) : Footprint.Statement (.sdOutput sd code) :=
  Footprint.ofList (l := [.now, .events, .sense]) rfl (by decide)
theorem Footprint.sdCalibration (sd : Fin 4) (offsetOk gainOk : Bool) : Footprint.Statement (.sdCalibration sd offsetOk gainOk) :=
  Footprint.ofList (l := [.now, .events, .sense]) rfl (by decide)
theorem Footprint.seqTrigger (sd : Fin 4) : Footprint.Statement (.seqTrigger sd) :=
  Footprint.ofList (l := [.events, .sense]) rfl (by decide)
theorem Footprint.capConversion (ratio : Fin 1048576) : Footprint.Statement (.capConversion ratio) :=
  Footprint.ofList (l := [.now, .events, .sense]) rfl (by decide)
theorem Footprint.i2cPoll (bus : Fin 4) (r : I2cRun) : Footprint.Statement (.i2cPoll bus r) :=
  Footprint.ofList (l := [.now, .events, .sense]) rfl (by decide)
theorem Footprint.i2cPollAbort (bus : Fin 4) (sda : SdaHold) : Footprint.Statement (.i2cPollAbort bus sda) :=
  Footprint.ofList (l := [.now, .events, .sense]) rfl (by decide)
theorem Footprint.diChange (input : Fin 16) (r : DiRun) : Footprint.Statement (.diChange input r) :=
  Footprint.ofList (l := [.now, .events, .sense]) rfl (by decide)
theorem Footprint.sampleProcess (k : Fin 2) : Footprint.Statement (.sampleProcess k) :=
  Footprint.ofList (l := [.per, .events, .sense, .zones, .predict]) rfl (by decide)
theorem Footprint.pointStale (p : Fin 160) : Footprint.Statement (.pointStale p) :=
  Footprint.ofList (l := [.per, .events, .sense, .zones]) rfl (by decide)
theorem Footprint.sarTrigger (pair point : Fin 6) (r : SarStart) : Footprint.Statement (.sarTrigger pair point r) :=
  Footprint.ofList (l := [.sense]) rfl (by decide)
theorem Footprint.sarBurstDone (pair : Fin 6) (sum : Fin 16777216) : Footprint.Statement (.sarBurstDone pair sum) :=
  Footprint.ofList (l := [.now, .sense, .act]) rfl (by decide)
theorem Footprint.doorWindowExpiry (z : Fin 32) : Footprint.Statement (.doorWindowExpiry z) :=
  Footprint.ofList (l := [.now, .zones]) rfl (by decide)
theorem Footprint.vacantHoldExpiry (z : Fin 32) : Footprint.Statement (.vacantHoldExpiry z) :=
  Footprint.ofList (l := [.now, .events, .zones]) rfl (by decide)
theorem Footprint.loopPvFail (k : Fin 64) : Footprint.Statement (.loopPvFail k) :=
  Footprint.ofList (l := [.now, .events, .zones]) rfl (by decide)
theorem Footprint.currentLoopStep (ch : Fin 24) (mv : Fin 65536) : Footprint.Statement (.currentLoopStep ch mv) :=
  Footprint.ofList (l := [.supply, .sense, .act]) rfl (by decide)
theorem Footprint.pullinEnd (ch : Fin 24) : Footprint.Statement (.pullinEnd ch) :=
  Footprint.ofList (l := [.now, .events, .sense, .act, .free]) rfl (by decide)
theorem Footprint.peakEnd (ch : Fin 24) : Footprint.Statement (.peakEnd ch) :=
  Footprint.ofList (l := [.now, .events, .sense, .act, .free]) rfl (by decide)
theorem Footprint.decayEnd (ch : Fin 24) : Footprint.Statement (.decayEnd ch) :=
  Footprint.ofList (l := [.events, .sense, .act]) rfl (by decide)
theorem Footprint.deferredStrokeStart (g : Fin 4) (mv : Fin 65536) : Footprint.Statement (.deferredStrokeStart g mv) :=
  Footprint.ofList (l := [.supply, .events, .sense, .act]) rfl (by decide)
theorem Footprint.regErr (ch : Fin 24) (back : Bool) : Footprint.Statement (.regErr ch back) :=
  Footprint.ofList (l := [.events, .sense, .act]) rfl (by decide)
theorem Footprint.proofReport : Footprint.Statement (.proofReport) :=
  Footprint.ofList (l := [.now, .events, .sense, .act]) rfl (by decide)
theorem Footprint.lsOcp (ch : Fin 24) : Footprint.Statement (.lsOcp ch) :=
  Footprint.ofList (l := [.events, .sense, .act, .free]) rfl (by decide)
theorem Footprint.openLoad (ch : Fin 24) : Footprint.Statement (.openLoad ch) :=
  Footprint.ofList (l := [.events, .sense, .act, .free]) rfl (by decide)
theorem Footprint.openLoadRetry (ch : Fin 24) (mv : Fin 65536) : Footprint.Statement (.openLoadRetry ch mv) :=
  Footprint.ofList (l := [.now, .supply, .events, .sense, .act]) rfl (by decide)
theorem Footprint.hsOcp (g : Fin 4) : Footprint.Statement (.hsOcp g) :=
  Footprint.ofList (l := [.events, .sense, .act, .free]) rfl (by decide)
theorem Footprint.hsOcpRestart (g : Fin 4) (mv : Fin 65536) : Footprint.Statement (.hsOcpRestart g mv) :=
  Footprint.ofList (l := [.now, .supply, .events, .sense, .act]) rfl (by decide)
theorem Footprint.clampLimit (ch : Fin 24) (mw : Fin 65536) : Footprint.Statement (.clampLimit ch mw) :=
  Footprint.ofList (l := [.events, .act]) rfl (by decide)
theorem Footprint.fire : Footprint.Statement (.fire) :=
  Footprint.ofList (l := [.events, .sense, .act, .free]) rfl (by decide)
theorem Footprint.abort : Footprint.Statement (.abort) :=
  Footprint.ofList (l := [.events, .sense, .act, .free]) rfl (by decide)
theorem Footprint.pulseEnd : Footprint.Statement (.pulseEnd) :=
  Footprint.ofList (l := [.now, .events, .sense, .act, .free]) rfl (by decide)
theorem Footprint.fanStart : Footprint.Statement (.fanStart) :=
  Footprint.ofList (l := [.events, .sense, .act]) rfl (by decide)
theorem Footprint.kickEnd (n : Fin 12) : Footprint.Statement (.kickEnd n) :=
  Footprint.ofList (l := [.now, .act]) rfl (by decide)
theorem Footprint.fanSpeedSample (n : Fin 12) : Footprint.Statement (.fanSpeedSample n) :=
  Footprint.ofList (l := [.now, .events, .sense, .act]) rfl (by decide)
theorem Footprint.lfPeriod (n : Fin 12) : Footprint.Statement (.lfPeriod n) :=
  Footprint.ofList (l := [.now, .act]) rfl (by decide)
theorem Footprint.fanLockedRotor (n : Fin 12) : Footprint.Statement (.fanLockedRotor n) :=
  Footprint.ofList (l := [.now, .events, .sense, .act]) rfl (by decide)
theorem Footprint.fanNoEdge (n : Fin 12) : Footprint.Statement (.fanNoEdge n) :=
  Footprint.ofList (l := [.now, .events, .sense, .act]) rfl (by decide)
theorem Footprint.fanSpinupEnd (n : Fin 12) : Footprint.Statement (.fanSpinupEnd n) :=
  Footprint.ofList (l := [.now, .events, .sense, .act, .free]) rfl (by decide)
theorem Footprint.fanRetry (n : Fin 12) : Footprint.Statement (.fanRetry n) :=
  Footprint.ofList (l := [.now, .events, .sense, .act]) rfl (by decide)
theorem Footprint.fanBackoffReset (n : Fin 12) : Footprint.Statement (.fanBackoffReset n) :=
  Footprint.ofList (l := [.now, .act]) rfl (by decide)
theorem Footprint.fanFault (n : Fin 12) : Footprint.Statement (.fanFault n) :=
  Footprint.ofList (l := [.now, .events, .sense, .act]) rfl (by decide)
theorem Footprint.fanTachJudge (n : Fin 12) : Footprint.Statement (.fanTachJudge n) :=
  Footprint.ofList (l := [.now, .events, .sense, .act]) rfl (by decide)
theorem Footprint.fanOpenLoadEnd (n : Fin 12) : Footprint.Statement (.fanOpenLoadEnd n) :=
  Footprint.ofList (l := [.now, .events, .sense, .act]) rfl (by decide)
theorem Footprint.fanOcp (n : Fin 12) : Footprint.Statement (.fanOcp n) :=
  Footprint.ofList (l := [.events, .sense, .act]) rfl (by decide)
theorem Footprint.fanOcpRestart (n : Fin 12) : Footprint.Statement (.fanOcpRestart n) :=
  Footprint.ofList (l := [.now, .events, .sense, .act]) rfl (by decide)
theorem Footprint.fanCtrlFail (n : Fin 12) : Footprint.Statement (.fanCtrlFail n) :=
  Footprint.ofList (l := [.events, .log, .recs, .act]) rfl (by decide)
theorem Footprint.fanForceEnd (n : Fin 12) : Footprint.Statement (.fanForceEnd n) :=
  Footprint.ofList (l := [.events, .log, .recs, .act]) rfl (by decide)
theorem Footprint.critTrip : Footprint.Statement (.critTrip) :=
  Footprint.ofList (l := [.events, .recs, .sense, .act]) rfl (by decide)
theorem Footprint.critClear : Footprint.Statement (.critClear) :=
  Footprint.ofList (l := [.events, .sense, .act]) rfl (by decide)
theorem Footprint.aoSlewStep (n : Fin 16) (mv : Fin 65536) : Footprint.Statement (.aoSlewStep n mv) :=
  Footprint.ofList (l := [.now, .events, .sense, .act]) rfl (by decide)
theorem Footprint.aoFault (n : Fin 16) (mv : Fin 65536) : Footprint.Statement (.aoFault n mv) :=
  Footprint.ofList (l := [.now, .events, .sense, .act]) rfl (by decide)
theorem Footprint.aoFaultClear (n : Fin 16) (mv : Fin 65536) : Footprint.Statement (.aoFaultClear n mv) :=
  Footprint.ofList (l := [.now, .events, .sense, .act]) rfl (by decide)
theorem Footprint.keyScan (raw : BitVec 64) : Footprint.Statement (.keyScan raw) :=
  Footprint.ofList (l := [.now, .events, .panel]) rfl (by decide)
theorem Footprint.keyStuck (k : Fin 64) : Footprint.Statement (.keyStuck k) :=
  Footprint.ofList (l := [.now, .events, .panel]) rfl (by decide)
theorem Footprint.panelAction : Footprint.Statement (.panelAction) :=
  Footprint.ofList (l := [.events, .log, .link, .buffers, .recs, .zones, .panel, .cans, .fabric]) rfl (by decide)
theorem Footprint.encTransition (e : Fin 4) (l : EncLines) (us : Fin 65536) : Footprint.Statement (.encTransition e l us) :=
  Footprint.ofList (l := [.now, .events, .panel]) rfl (by decide)
theorem Footprint.encVelocity (e : Fin 4) : Footprint.Statement (.encVelocity e) :=
  Footprint.ofList (l := [.now, .panel]) rfl (by decide)
theorem Footprint.encSteps (e : Fin 4) : Footprint.Statement (.encSteps e) :=
  Footprint.ofList (l := [.now, .events, .panel]) rfl (by decide)
theorem Footprint.encoderAction : Footprint.Statement (.encoderAction) :=
  Footprint.ofList (l := [.events, .log, .link, .buffers, .recs, .zones, .panel, .cans, .fabric]) rfl (by decide)
theorem Footprint.canRxFrame (port : Fin 3) (f : CanFrame) (ago : Fin 65536) (ramErr : Option (Fin 4096)) : Footprint.Statement (.canRxFrame port f ago ramErr) :=
  Footprint.ofList (l := [.events, .log, .link, .buffers, .recs, .cans, .fabric, .free]) rfl (by decide)
theorem Footprint.canTxStart (port : Fin 3) (ramErr : Option (Fin 4096)) : Footprint.Statement (.canTxStart port ramErr) :=
  Footprint.ofList (l := [.events, .cans]) rfl (by decide)
theorem Footprint.canTxDone (port : Fin 3) (r : TxEnd) : Footprint.Statement (.canTxDone port r) :=
  Footprint.ofList (l := [.events, .log, .link, .buffers, .recs, .cans, .free]) rfl (by decide)
theorem Footprint.canBusOff (port : Fin 3) : Footprint.Statement (.canBusOff port) :=
  Footprint.ofList (l := [.events, .cans]) rfl (by decide)
theorem Footprint.canRecovered (port : Fin 3) : Footprint.Statement (.canRecovered port) :=
  Footprint.ofList (l := [.now, .events, .log, .link, .buffers, .recs, .cans]) rfl (by decide)
theorem Footprint.canTxdTimeout (port : Fin 3) : Footprint.Statement (.canTxdTimeout port) :=
  Footprint.ofList (l := [.events, .cans]) rfl (by decide)
theorem Footprint.segmentAloneSend (a : PortRam) : Footprint.Statement (.segmentAloneSend a) :=
  Footprint.ofList (l := [.now, .events, .cans]) rfl (by decide)
theorem Footprint.ttCycleStart (a : PortRam) : Footprint.Statement (.ttCycleStart a) :=
  Footprint.ofList (l := [.now, .events, .cans]) rfl (by decide)
theorem Footprint.ttRefMiss (port : Fin 3) : Footprint.Statement (.ttRefMiss port) :=
  Footprint.ofList (l := [.now, .events, .cans, .fabric]) rfl (by decide)
theorem Footprint.ttWindowStart (port : Fin 3) (ramErr : Option (Fin 4096)) : Footprint.Statement (.ttWindowStart port ramErr) :=
  Footprint.ofList (l := [.now, .events, .cans]) rfl (by decide)
theorem Footprint.send (port : Fin 3) : Footprint.Statement (.send port) :=
  Footprint.ofList (l := [.events, .cans]) rfl (by decide)
theorem Footprint.rawAbort (port : Fin 3) : Footprint.Statement (.rawAbort port) :=
  Footprint.ofList (l := [.events, .cans]) rfl (by decide)
theorem Footprint.pop (port : Fin 3) : Footprint.Statement (.pop port) :=
  Footprint.ofList (l := [.cans]) rfl (by decide)
theorem Footprint.fabiTake (port : Fin 3) : Footprint.Statement (.fabiTake port) :=
  Footprint.ofList (l := [.per, .events, .log, .link, .buffers, .predict, .cans, .fabric, .free]) rfl (by decide)
theorem Footprint.claimRepeat : Footprint.Statement (.claimRepeat) :=
  Footprint.ofList (l := [.now, .events, .cans, .fabric]) rfl (by decide)
theorem Footprint.addrAssign : Footprint.Statement (.addrAssign) :=
  Footprint.ofList (l := [.now, .events, .recs, .fabric]) rfl (by decide)
theorem Footprint.heartbeatSend : Footprint.Statement (.heartbeatSend) :=
  Footprint.ofList (l := [.now, .events, .cans, .fabric]) rfl (by decide)
theorem Footprint.nbrLost (port : Fin 3) (node : Fin 4096) : Footprint.Statement (.nbrLost port node) :=
  Footprint.ofList (l := [.now, .events, .fabric]) rfl (by decide)
theorem Footprint.rootLost : Footprint.Statement (.rootLost) :=
  Footprint.ofList (l := [.now, .events, .fabric]) rfl (by decide)
theorem Footprint.routeAdvSend (port : Fin 3) : Footprint.Statement (.routeAdvSend port) :=
  Footprint.ofList (l := [.now, .events, .cans, .fabric]) rfl (by decide)
theorem Footprint.routeWithdraw (index : Fin 8192) : Footprint.Statement (.routeWithdraw index) :=
  Footprint.ofList (l := [.now, .fabric]) rfl (by decide)
theorem Footprint.relayRetry (node : Fin 4096) (seqn : Fin 4096) : Footprint.Statement (.relayRetry node seqn) :=
  Footprint.ofList (l := [.now, .events, .log, .link, .buffers, .cans, .fabric]) rfl (by decide)
theorem Footprint.relayTimeout (node : Fin 4096) (seqn : Fin 4096) : Footprint.Statement (.relayTimeout node seqn) :=
  Footprint.ofList (l := [.now, .log, .link, .buffers, .fabric]) rfl (by decide)
theorem Footprint.bsSubSend : Footprint.Statement (.bsSubSend) :=
  Footprint.ofList (l := [.now, .events, .cans, .fabric]) rfl (by decide)
theorem Footprint.subscriptionLapse (node : Fin 4096) : Footprint.Statement (.subscriptionLapse node) :=
  Footprint.ofList (l := [.now, .fabric]) rfl (by decide)
theorem Footprint.boundarySend : Footprint.Statement (.boundarySend) :=
  Footprint.ofList (l := [.events, .cans, .fabric]) rfl (by decide)
theorem Footprint.refEventSend (port : Fin 3) : Footprint.Statement (.refEventSend port) :=
  Footprint.ofList (l := [.now, .events, .cans, .fabric]) rfl (by decide)
theorem Footprint.recEntryTake : Footprint.Statement (.recEntryTake) :=
  Footprint.ofList (l := [.events, .recs]) rfl (by decide)
theorem Footprint.recCopyDone : Footprint.Statement (.recCopyDone) :=
  Footprint.ofList (l := [.now, .log, .link, .buffers, .cells, .recs]) rfl (by decide)
theorem Footprint.counterHour (main : Bool) : Footprint.Statement (.counterHour main) :=
  Footprint.ofList (l := [.now, .events, .recs]) rfl (by decide)
theorem Footprint.hbToggle : Footprint.Statement (.hbToggle) :=
  Footprint.ofList (l := [.now, .events, .log, .link, .sense, .act, .guard, .free]) rfl (by decide)
theorem Footprint.hbExpiry : Footprint.Statement (.hbExpiry) :=
  Footprint.ofList (l := [.now, .supply, .mode, .main, .per, .events, .log, .link, .buffers, .crc, .cells, .recs, .sense, .zones, .act, .predict, .panel, .cans, .fabric, .guard, .cfgPend]) rfl (by decide)
theorem Footprint.guardCfgRead : Footprint.Statement (.guardCfgRead) :=
  Footprint.ofList (l := [.now, .events, .log, .link, .sense, .act, .guard]) rfl (by decide)
theorem Footprint.guardSample (z : Fin 8) (uv : Fin 2500001) (t0 t8 : Int) : Footprint.Statement (.guardSample z uv t0 t8) :=
  Footprint.ofList (l := [.now, .events, .log, .link, .sense, .act, .guard]) rfl (by decide)
theorem Footprint.guardTempReport (z : Fin 8) : Footprint.Statement (.guardTempReport z) :=
  Footprint.ofList (l := [.now, .events, .guard]) rfl (by decide)
theorem Footprint.dieSensorSample (n : Fin 9) (r : DieRx) : Footprint.Statement (.dieSensorSample n r) :=
  Footprint.ofList (l := [.now, .events, .band, .sense, .thermal]) rfl (by decide)
theorem Footprint.dieSensorTimeout (n : Fin 9) : Footprint.Statement (.dieSensorTimeout n) :=
  Footprint.ofList (l := [.now, .events, .band, .sense, .thermal]) rfl (by decide)
theorem Footprint.throttleEval (g : Fin 6) : Footprint.Statement (.throttleEval g) :=
  Footprint.ofList (l := [.now, .events, .sense, .act, .thermal]) rfl (by decide)
theorem Footprint.thermalEstimate (clampMw : Fin 65536) (clampUw : Fin 1000) : Footprint.Statement (.thermalEstimate clampMw clampUw) :=
  Footprint.ofList (l := [.now, .events, .thermal]) rfl (by decide)
theorem Footprint.thermalSiding (g : Fin 6) : Footprint.Statement (.thermalSiding g) :=
  Footprint.ofList (l := [.now, .mode, .main, .per, .events, .log, .link, .buffers, .crc, .recs, .sense, .zones, .act, .predict, .cans, .fabric, .guard, .thermal]) rfl (by decide)
theorem Footprint.sidingExit : Footprint.Statement (.sidingExit) :=
  Footprint.ofList (l := [.now, .mode, .main, .per, .events, .log, .link, .buffers, .crc, .recs, .predict, .cans, .fabric, .guard]) rfl (by decide)
theorem Footprint.sidingHeartbeat : Footprint.Statement (.sidingHeartbeat) :=
  Footprint.ofList (l := [.now, .events, .cans, .fabric, .thermal]) rfl (by decide)
theorem Footprint.bufferStop (n : Fin 9) : Footprint.Statement (.bufferStop n) :=
  Footprint.ofList (l := [.mode, .main, .per, .events, .log, .link, .buffers, .crc, .recs, .sense, .zones, .act, .predict, .cans, .fabric, .guard, .thermal, .bufStop, .free]) rfl (by decide)
theorem Footprint.tachEdge (n : Fin 12) : Footprint.Statement (.tachEdge n) :=
  Footprint.ofList (l := [.act]) rfl (by decide)
theorem Footprint.canRxError (port : Fin 3) (lec : Fin 7) (inc8 : Bool) : Footprint.Statement (.canRxError port lec inc8) :=
  Footprint.ofList (l := [.events, .cans]) rfl (by decide)
theorem Footprint.busIntegration (port : Fin 3) : Footprint.Statement (.busIntegration port) :=
  Footprint.ofList (l := [.cans]) rfl (by decide)
theorem Footprint.partialTransactionDiscard (src seqn : Fin 4096) : Footprint.Statement (.partialTransactionDiscard src seqn) :=
  Footprint.ofList (l := [.now, .fabric]) rfl (by decide)
theorem Footprint.proveStrokeReturn (ch : Fin 24) : Footprint.Statement (.proveStrokeReturn ch) :=
  Footprint.ofList (l := [.now, .events, .log, .link, .buffers, .sense, .act, .free]) rfl (by decide)
theorem Footprint.proveDeferTimeout (ch : Fin 24) : Footprint.Statement (.proveDeferTimeout ch) :=
  Footprint.ofList (l := [.now, .log, .link, .buffers, .act]) rfl (by decide)

end Sys2Proof.Laws
end

