-- ==== Sys2Proof/WellFormed.lean ====
section
/-!
DEFINITION. Sys2Proof/WellFormed.lean: which operands a command or event can come with. The meanings answer every operand; a
well-formed one is one that the hardware's surroundings can produce.
-/
namespace Sys2Proof

/-- Strap samples: at most the eleven straps of R439, each high in 0–8 of eight samples. -/
def strapsOk (l : List Nat) : Bool := decide (l.length ≤ 11) && l.all fun n => decide (n ≤ 8)

/-- A block of the main-domain self-test (Table 5.19). -/
def blockOk (b : Nat) : Bool := decide (b ≤ 0x0B) || (decide (0x10 ≤ b) && decide (b ≤ 0x13))

/-- Bytes of a data field of code `dlc` (R315). -/
def dlcBytes (fdf : Bool) (dlc : Nat) : Nat :=
  if dlc ≤ 8 then dlc else if fdf then [12, 16, 20, 24, 32, 48, 64].getD (dlc - 9) 64 else 8

/-- A frame that a CAN bus can carry: identifier and DLC within their fields, remote frames classical and without data, the FD
bits in FD frames alone (R315). -/
def CanFrame.wf (f : CanFrame) : Bool :=
  decide (f.id < if f.xtd then 2 ^ 29 else 2 ^ 11) && decide (f.dlc < 16) && !(f.rtr && f.fdf) && (f.fdf || !(f.brs || f.esi)) &&
    f.data.length == if f.rtr then 0 else dlcBytes f.fdf f.dlc

/-- A frame met by the selective-wake decoder (R337). -/
def WakeRx.wf : WakeRx → Bool
  | .classical f => f.wf && !f.fdf
  | .fd => true
  | .erroneous => true

/-- The end of a transmission: an error has one of the codes 1–6 (Table 12.8). -/
def TxEnd.wf : TxEnd → Bool
  | .sent _ => true
  | .lostArb => true
  | .error lec _ => lec != 0
  | .measured _ lec _ => lec != 0
  | .tdcFail _ _ => true

/-- Each zone core once, each stopping within its at most 32 zones (R25). -/
def hungOk (l : List (Fin 4 × Nat)) : Bool := decide (l.map (·.1)).Nodup && l.all fun h => decide (h.2 ≤ 32)

/-- The commands with operands that can be restricted. -/
def Instr.wf : Instr → Bool
  | .vsupValid l => strapsOk l
  | .rstNRelease l => strapsOk l
  | .selftestDone l => l.all blockOk
  | .zoneInstant l => hungOk l
  | .vdrvOv mv => decide (mv < 65536)
  | .saveNotArmed mv => decide (mv < 65536)
  | .spiUnknownInstruction c => !([0x1A#8, 0x1E#8, 0x2A#8, 0x2E#8].contains c)
  | .slotWrite _ off data => decide (off.val + data.length ≤ 256)
  | .regWrite _ data => decide (data.length ≤ 4)
  | .sdOutput _ c => decide (-8388608 ≤ c) && decide (c < 8388608)
  | .canRxFrame _ f _ _ => f.wf
  | .selectiveWakeFrame _ r => r.wf
  | .canTxDone _ r => r.wf
  | .canRxError _ lec _ => lec != 0
  | .critComparatorArm | .drvPllLock | .guardRelease | .bootRomStart | .guardReady | .imageCheckDone _ | .imagesLoaded _
  | .coreSelftestDone _ _ | .recall _ | .ready | .vsupLost | .vdrvLost | .vdrvBack | .vdrvOvRelease | .vioLost | .vioBack
  | .vbkpLost | .vbkpBack | .rstNAssert | .clockLost _ | .clockBack _ | .memDed _ | .guardLockstepMismatch | .guardReset
  | .mainRestart | .trialAccept | .periodStart | .planSolveDone _ | .pntAbsorb _ | .changeover _ | .coreWatchdogExpiry _
  | .noZoneCoreTimeout | .deCmdExecute _ | .evtTake | .evtHeldSend _ | .deResultForward | .saveArm | .powerFailSave _
  | .vsupRecovered | .wakeNLow | .rtcAlarm | .wakePattern _ _ _ _ | .spiRead _ _ | .spiQread _ _ | .spiWrite _ _
  | .spiQwrite _ _ | .spiCsTimeout _ | .h2dDb _ | .statusW1c _ | .dbStatusW1c _ | .irqMaskWrite _ | .handoverW1c _ _
  | .wdescWrite _ | .descClaim _ _ _ | .descResize _ _ _ | .descHandToDevice _ | .descRelease _ | .descWord1Write _ _
  | .linkLost | .xferChunkDone _ | .xferTimeout _ | .ping | .hello | .modeSet | .restartMain | .objGet | .objSet
  | .objDefault | .objList | .xferRead | .xferWrite | .checkval | .recRead | .recWrite | .recStat | .recUnlock | .recLock
  | .recPassword | .recDefault | .fabRelay | .fabPing | .fabRediscover | .fabRoute | .canRecover | .canCancel | .ttCommit
  | .canStatsClear | .actSet | .actRelease | .fanClear | .valveProve | .evtRead | .evtFilter | .timeGet | .timeSet
  | .depRegRead | .depRegWrite | .depLoad | .depSwitch | .depKey1 | .depKey0Off | .depSvcPw | .crcStart | .crcData8 _
  | .crcData32 _ | .directDurationExpiry _ | .overrideExpiry _ | .seqStepStart _ | .sdCalibration _ _ _ | .seqTrigger _
  | .capConversion _ | .i2cPoll _ _ | .i2cPollAbort _ _ | .diChange _ _ | .sampleProcess _ | .pointStale _
  | .sarTrigger _ _ _ | .sarBurstDone _ _ | .doorWindowExpiry _ | .vacantHoldExpiry _ | .loopPvFail _ | .currentLoopStep _ _
  | .pullinEnd _ | .peakEnd _ | .decayEnd _ | .deferredStrokeStart _ _ | .regErr _ _ | .proofReport | .lsOcp _ | .openLoad _
  | .openLoadRetry _ _ | .hsOcp _ | .hsOcpRestart _ _ | .clampLimit _ _ | .fire | .abort | .pulseEnd | .fanStart
  | .kickEnd _ | .fanSpeedSample _ | .lfPeriod _ | .fanLockedRotor _ | .fanNoEdge _ | .fanSpinupEnd _ | .fanRetry _
  | .fanBackoffReset _ | .fanFault _ | .fanTachJudge _ | .fanOpenLoadEnd _ | .fanOcp _ | .fanOcpRestart _ | .fanCtrlFail _
  | .fanForceEnd _ | .critTrip | .critClear | .aoSlewStep _ _ | .aoFault _ _ | .aoFaultClear _ _ | .keyScan _ | .keyStuck _
  | .panelAction | .encTransition _ _ _ | .encVelocity _ | .encSteps _ | .encoderAction | .canTxStart _ _ | .canBusOff _
  | .canRecovered _ | .canTxdTimeout _ | .segmentAloneSend _ | .ttCycleStart _ | .ttRefMiss _ | .ttWindowStart _ _ | .send _
  | .rawAbort _ | .pop _ | .fabiTake _ | .claimRepeat | .addrAssign | .heartbeatSend | .nbrLost _ _ | .rootLost
  | .routeAdvSend _ | .routeWithdraw _ | .relayRetry _ _ | .relayTimeout _ _ | .bsSubSend | .subscriptionLapse _
  | .boundarySend | .refEventSend _ | .recEntryTake | .recCopyDone | .counterHour _ | .hbToggle | .hbExpiry | .guardCfgRead
  | .guardSample _ _ _ _ | .guardTempReport _ | .dieSensorSample _ _ | .dieSensorTimeout _ | .throttleEval _
  | .thermalEstimate _ _ | .thermalSiding _ | .sidingExit | .sidingHeartbeat | .bufferStop _ | .tachEdge _
  | .busIntegration _ | .partialTransactionDiscard _ _ | .proveStrokeReturn _ | .proveDeferTimeout _ => true

end Sys2Proof
end

