-- ==== Sys2Proof/Tests/Slice0.lean ====
section
/-!
SUPPORT. Sys2Proof/Tests/Slice0.lean: ill-formed operands are refused, single steps give what the spec's tables and worked figures
say, and for every statement with hypotheses a state and operands meet them, clause by clause,
    most of them at an end of their range.
-/
namespace Sys2Proof.Tests
open Sys2Proof Sys2Proof.Machine

set_option Elab.async false
set_option maxRecDepth 100000

/-! ### Well-formed operands -/

/-- Strap samples: twelve straps, a strap high in nine of eight samples (R439). -/
theorem test_wf_straps : (Instr.vsupValid (List.replicate 11 8)).wf = true ∧ (Instr.vsupValid (List.replicate 12 0)).wf = false ∧
    (Instr.rstNRelease [9]).wf = false ∧ (Instr.rstNRelease [8]).wf = true := by decide

/-- Self-test blocks outside Table 5.19. -/
theorem test_wf_blocks : (Instr.selftestDone [0x0B, 0x10, 0x13]).wf = true ∧ (Instr.selftestDone [0x0C]).wf = false ∧
    (Instr.selftestDone [0x14]).wf = false := by decide

/-- A zone core named twice, or stopped behind its thirty-second zone (R25). -/
theorem test_wf_hung : (Instr.zoneInstant [(0, 32), (3, 0)]).wf = true ∧ (Instr.zoneInstant [(0, 1), (0, 2)]).wf = false ∧
    (Instr.zoneInstant [(0, 33)]).wf = false := by decide

/-- Voltages beyond 16 bits of mV. -/
theorem test_wf_voltages : (Instr.vdrvOv 65535).wf = true ∧ (Instr.vdrvOv 65536).wf = false ∧
    (Instr.saveNotArmed 65536).wf = false := by
  decide

/-- An instruction byte that is known, a write past a slot, a register write of five bytes (R98, R101). -/
theorem test_wf_spi : (Instr.spiUnknownInstruction 0x03#8).wf = true ∧ (Instr.spiUnknownInstruction 0x1A#8).wf = false ∧
    (Instr.spiUnknownInstruction 0x2E#8).wf = false ∧ (Instr.slotWrite 7 255 [0#8]).wf = true ∧
    (Instr.slotWrite 7 255 [0#8, 0#8]).wf = false ∧ (Instr.regWrite 0 [0#8, 0#8, 0#8, 0#8]).wf = true ∧
    (Instr.regWrite 0 [0#8, 0#8, 0#8, 0#8, 0#8]).wf = false := by decide

/-- A conversion result beyond 24 bits. -/
theorem test_wf_codes : (Instr.sdOutput 3 (-8388608)).wf = true ∧ (Instr.sdOutput 3 8388608).wf = false ∧
    (Instr.sdOutput 3 (-8388609)).wf = false := by decide

/-- Frames that no bus carries: an identifier or a DLC beyond its field, a remote FD frame, FD bits in a classical frame, data of
another length than the DLC says (R315). -/
theorem test_wf_frames : (Instr.canRxFrame 0 { dlc := 1, data := [7#8] } 0 none).wf = true ∧
    (Instr.canRxFrame 0 { id := 2 ^ 29 } 0 none).wf = false ∧
        (Instr.canRxFrame 0 { xtd := false, id := 2 ^ 11 } 0 none).wf = false ∧
    (Instr.canRxFrame 0 { fdf := true, dlc := 16, data := List.replicate 64 0#8 } 0 none).wf = false ∧
    (Instr.canRxFrame 0 { fdf := true, rtr := true } 0 none).wf = false ∧ (Instr.canRxFrame 0 { brs := true } 0 none).wf = false ∧
    (Instr.canRxFrame 0 { esi := true } 0 none).wf = false ∧ (Instr.canRxFrame 0 { dlc := 2, data := [7#8] } 0 none).wf = false ∧
    (Instr.canRxFrame 0 { rtr := true, dlc := 2 } 0 none).wf = true := by decide

/-- An FD frame as a classical wake-up frame (R337), and error ends without an error code (Table 12.8). -/
theorem test_wf_ends : (Instr.selectiveWakeFrame 0 (.classical { fdf := true })).wf = false ∧
    (Instr.selectiveWakeFrame 0 (.classical {})).wf = true ∧ (Instr.selectiveWakeFrame 0 .fd).wf = true ∧
    (Instr.canTxDone 0 (.error 0 false)).wf = false ∧ (Instr.canTxDone 0 (.error 6 true)).wf = true ∧
    (Instr.canRxError 0 0 false).wf = false ∧ (Instr.canRxError 0 1 false).wf = true := by decide

/-! ### States for tests -/

/-- One field of a group in force at a value; the other fields of its word read 0 or as they stand. -/
def put (o : Nat) (f : Fld) (v : Nat) (s : State) : State :=
  { s with cfg := assocSet (cfgKey o f.word) (wd (putBits ((assocGet s.cfg (cfgKey o f.word)).getD 0#32).toNat f.hi f.lo v)) s.cfg }

/-- Ready in a mode: mailbox service, `DE` and Guard run, and zone periods run. -/
def inMode (m : Mode) : State :=
  { State.reset with mn := { phase := .run, mode := m, ready := true, serving := true, deRun := true, drvLocked := true },
                     per.running := true, gd.ready := true, gd.released := true }

/-- Mainline. -/
def up : State := inMode .mainline
/-- Depot. -/
def dep : State := inMode .depot
/-- Mainline, with a fabric address. -/
def net : State := { up with fb.node := 5 }

/-- The host's request stands in slot 7, checked, and is the only one in the order. -/
def ask (op obj : Nat) (p : List Byte) (s : State) : State :=
  let h := leBytes 1 op ++ [0#8] ++ leBytes 2 p.length ++ leBytes 4 9 ++ leBytes 4 obj
  { s with host.h2d := Mem.writeBytes 1792 (h ++ leBytes 4 (mailboxCheck 7 9 h p) ++ p) [], host.reqs := [{ origin := .host 7 }],
           host.busy := 128, host.proto := 3 }

/-- The request of slot 7 as it is read. -/
def task (s : State) : Task := s.readReq { origin := .host 7 }

/-- A record stands in its first copy. -/
def stored (r k : Nat) (data : List Byte) (s : State) : State :=
  { s with rs.cells := Mem.writeBytes (recAddr (s.lens r) r k) (copyBytes (recAddr (s.lens r) r k) 1 false data) s.rs.cells }

/-- A gang by its code at a channel. -/
def gangAt (b code : Nat) (v : Valve) (s : State) : State := (put (vlvObj b 0x020) Fd.vConf.GANG code s).modVlv b fun _ => v

/-- `FAN11` with a drive, as it stands. -/
def fanAt (drive ppr : Nat) (f : Fan) (s : State) : State :=
  (put (fanObj 11 0x020) Fd.fConf.PPR ppr (put (fanObj 11 0x020) Fd.fConf.DRIVE drive s)).modFan 11 fun _ => f

/-- Port 2 as it stands. -/
def portAt (x : Port) (s : State) : State := s.modPort 2 fun _ => x

/-- A descriptor table at the start of the window, descriptor 63 with an owner, a use, a fill, and a buffer of 256 bytes at 512. -/
def descAt (owner use fill : Nat) (s : State) : State :=
  { s with host.wdescValid := true,
           host.window := Mem.writeBytes 504 (leBytes 4 (owner * 2 ^ 30 + 2) ++ leBytes 4 (use * 2 ^ 20 + fill)) [] }

/-- What makes a request of the host due. -/
theorem dueOf {s : State} {op n : Nat} {k : Task} (e : k = s.readReq { origin := .host n })
    (h : n < 8 ∧ s.host.reqs = [{ origin := .host n }] ∧ s.host.replies = [] ∧ s.serves = true ∧ s.verdict k = .pass ∧
      k.hdr.opcode = op) : Due s op n k :=
  ⟨h.1, h.2.1, h.2.2.1, h.2.2.2.1, e, h.2.2.2.2.1, h.2.2.2.2.2⟩

/-- What makes the host quiet. -/
theorem quietOf {s : State} (h : s.spiAlive = true ∧ s.host.reqs = [] ∧ s.host.replies = []) : HostQuiet s := ⟨h.1, h.2.1, h.2.2⟩

/-- An image of 256 zero bytes, signed for key slot 1 with the private key 1 (R70, R71; the digests and the signature from an
implementation of FIPS 180-4 and FIPS 186-4 outside the model). -/
def image : List Byte :=
  [0x4D#8, 0x5A#8, 0x46#8, 0x57#8] ++ leBytes 2 1 ++ leBytes 6 0 ++ leBytes 4 256 ++ [1#8, 3#8] ++ leBytes 6 0 ++
    beBytes 32 0x5341e6b2646979a70e57653007a1f310169421ec9bdd9f1a5648f75ade005af1 ++ leBytes 8 0 ++
    beBytes 32 0x7cf27b188d034f7e8a52380304b51ac3c08969e277f21b35a60b48fc47669978 ++
    beBytes 32 0xdf617dd9346e2ea045bfd336836b41aa6a2136589e73d9072add3887dec7cdb0

/-- Depot, with that image in bank B, its key in slot 1 and the bank in state 1. -/
def signed : State :=
  { stored 0 3 (beBytes 32 p256G.1 ++ beBytes 32 p256G.2) (stored 0 0 (0#8 :: 1#8 :: List.replicate 30 0#8) dep) with
    flashB := Mem.writeBytes 0 image [] }

/-- What a slot keeps as its last answer. -/
def keptOf (s : State) (n : Nat) : List Byte := ((s.host.kept.getD n none).getD (0, [])).2

/-- The answer of a command, as a state; the state itself where it answers none. -/
def after (c : Instr) (s : State) : State :=
  match exec c s with
  | .next t => t
  | _ => s

/-- A command that answers a state answers that state. -/
theorem afterOf {c : Instr} {s : State} (h : (match exec c s with | .next _ => true | _ => false) = true) :
    exec c s = .next (after c s) := by
  unfold after
  split <;> simp_all

/-- Mailbox rows that store nothing in the window, each with its opcode. -/
def plainRows : List (Instr × Nat) :=
  [(.ping, 0), (.hello, 1), (.modeSet, 2), (.restartMain, 3), (.objGet, 16), (.objList, 19), (.recRead, 48), (.recWrite, 49),
      (.recStat, 50), (.recUnlock, 51), (.recLock, 52), (.recPassword, 53), (.recDefault, 54), (.fabRelay, 64), (.fabPing, 65),
      (.fabRediscover, 66), (.fabRoute, 67)] ++
    [(.canRecover, 80), (.canCancel, 81), (.ttCommit, 82), (.canStatsClear, 83), (.actSet, 96), (.actRelease, 97), (.fanClear, 98),
        (.valveProve, 99), (.evtRead, 112), (.evtFilter, 113), (.timeGet, 114), (.timeSet, 115), (.depRegRead, 224), (.depSwitch,
        227), (.depKey1, 228), (.depKey0Off, 229), (.depSvcPw, 230)]

/-- Mailbox rows whose command works on a buffer of the window. -/
def windowRows : List (Instr × Nat) := [(.xferRead, 32), (.xferWrite, 33), (.checkval, 34), (.depLoad, 226)]

/-- Every mailbox row. -/
def mailboxRows : List (Instr × Nat) :=
  [(.ping, 0), (.hello, 1), (.modeSet, 2), (.restartMain, 3), (.objGet, 16), (.objSet, 17), (.objDefault, 18), (.objList, 19),
      (.xferRead, 32), (.xferWrite, 33), (.checkval, 34), (.recRead, 48), (.recWrite, 49), (.recStat, 50), (.recUnlock, 51),
      (.recLock, 52), (.recPassword, 53), (.recDefault, 54)] ++
    [(.fabRelay, 64), (.fabPing, 65), (.fabRediscover, 66), (.fabRoute, 67), (.canRecover, 80), (.canCancel, 81), (.ttCommit, 82),
        (.canStatsClear, 83), (.actSet, 96), (.actRelease, 97), (.fanClear, 98), (.valveProve, 99), (.evtRead, 112), (.evtFilter,
        113), (.timeGet, 114), (.timeSet, 115), (.depRegRead, 224), (.depRegWrite, 225), (.depLoad, 226), (.depSwitch, 227),
        (.depKey1, 228), (.depKey0Off, 229), (.depSvcPw, 230)]

/-! ### Single steps -/

/-- The table of operations gives no row bits, so no word spells a command. -/
theorem test_no_word : decodeTableWord 0 0 = none ∧ decodeTableWord 64 (2 ^ 64 - 1) = none := by decide

/-- The image check accepts an image that another implementation signed, and rejects it when one bit of it changes (R71). -/
theorem test_image_header : headerOk signed.flashB = true ∧ headerOk (Mem.write 4 2#8 signed.flashB) = false := by decide +kernel

/-- The raw check-value unit gives the published check value of CRC-32 for the text 123456789 (Table 2.7). -/
theorem test_raw_crc : crcOf crc32Iso [0x31#8, 0x32#8, 0x33#8, 0x34#8, 0x35#8, 0x36#8, 0x37#8, 0x38#8, 0x39#8] = 0xCBF43926 ∧
    crcOf crc32c [0x31#8, 0x32#8, 0x33#8, 0x34#8, 0x35#8, 0x36#8, 0x37#8, 0x38#8, 0x39#8] = 0xE3069283 := by decide +kernel

/-- A restart of the main domain is due: the mode becomes Shunting, and the supplies stand (R85, R86). -/
theorem test_main_restart :
    (after .mainRestart { up with mn.restartDue := some 3 }).mn.mode = .shunting ∧
    (after .mainRestart { up with mn.restartDue := some 3 }).mn.startCause = 3 := by decide +kernel

/-- The host takes a handed-over window buffer's doorbell back by writing 1 (R102). -/
theorem test_w1c : (after (.dbStatusW1c 0x200#32) { up with host.db := 0x300 }).host.db = 0x100 := by decide +kernel

/-- Two events of priority 1 stand in the ring of `SB`'s reader in the order in which they came (R39, R45). -/
theorem test_event_order :
    ((up.raise prDE evValveFault 1 0).raise prDE evValveFault 2 0).qEvt.map (fun q => q.map fun e => bits e.w0.toNat 27 16) =
      [[], [1, 2], [], []] := by decide +kernel

/-- A wake is a cold start: the straps are sampled as their pins stand then, CT here from 0 to 7 (R65, R82). -/
theorem test_wake_straps :
    (after .wakeNLow (put (sysObj 0x030) Fd.power.ARM_WAKE_N 1 { State.reset with pw.latch := true, st.pins := [8, 8, 8] })).st.ct =
        7 := by
  decide +kernel

/-- FAN_CLEAR waits in Q-CMD for DE (R16, R282): the fault stays latched, and DE ends it. -/
theorem test_fan_clear :
    ((after .fanClear (ask 0x62 (objId 5 11 0) [] (fanAt 2 2 { faultL := true } up))).fan 11).faultL = true ∧
    ((after (.deCmdExecute 24000) (after .fanClear (ask 0x62 (objId 5 11 0) [] (fanAt 2 2 { faultL := true } up)))).fan 11).faultL =
      false := by decide +kernel

/-- Balls after VSUP is lost: a valve channel is off, an analog output disabled, a current input high-impedance (Table 16.4). -/
theorem test_balls : (after .vsupLost up).ball (.vch 23) = .off ∧ (after .vsupLost up).ball (.ao 15) = .disabled ∧
    (after .vsupLost up).ball .ci = .highZ := by decide +kernel

/-- Two modes wait for two Changeovers, and the first Changeover enters the first of them (R33, R129). -/
theorem test_mode_waits :
    (after (.changeover 0) { up with mn.modeNext := [(.platform, 0), (.depot, 1)] }).mn.mode = .platform ∧
    (after (.changeover 0) { up with mn.modeNext := [(.platform, 0), (.depot, 1)] }).mn.modeNext = [(.depot,
        1)] := by decide +kernel

/-- A line of an encoder counts only once its level has stood for FILT_US (R306). -/
theorem test_encoder_filter :
    let s := put (pnObj 4 0x020) Fd.enConf.FILT_US 100 (put (pnObj 4 0x020) Fd.enConf.DECODE 2
        (put (pnObj 4 0x020) Fd.enConf.ENABLE 1 up))
    let t := after (.encTransition 3 ⟨true, false⟩ 60) s
    (t.enc 3).count = 0 ∧ ((after (.encTransition 3 ⟨true, false⟩ 40) t).enc 3).count = 1 := by decide +kernel

/-! ### The hypotheses of the statements are met -/

/-- The hypotheses of clauses 1 to 4 of `AddressesAndHeartbeats` are met. -/
theorem test_hyp_AddressesAndHeartbeats :
    (∃ (c : Claim) (s : State),
      s.fb.claim = some c ∧ s.jnOn = true ∧ c.sent < 3) ∧
    (∃ (c : Claim) (s : State),
      Shape s ∧ s.fb.claim = some c ∧ s.jnOn = true ∧ c.sent = 3) ∧
    (∃ (s : State),
      s.jnOn = true ∧ s.fb.node ≠ 0) ∧
    (∃ (p : Fin 3) (s : State),
      s.fb.advAt.length = 3 ∧ s.jnOn = true ∧ s.fb.node ≠ 0 ∧ s.cfb (cnObj p.val) Fd.cnConf.ENABLE = true) :=
  ⟨⟨({ cand := 5, src := 1, seq := 1, since := 0, sent := 2 }),
      { up with fb.claim := some ({ cand := 5, src := 1, seq := 1, since := 0, sent := 2 }) }, by decide +kernel⟩,
   ⟨({ cand := 5, src := 1, seq := 1, since := 0, sent := 3 }),
       { up with fb.claim := some ({ cand := 5, src := 1, seq := 1, since := 0, sent := 3 }) }, by decide +kernel⟩,
   ⟨net, by decide +kernel⟩,
   ⟨2, net, by decide +kernel⟩⟩

/-- The hypotheses of clause 5 of `AddressesAndHeartbeats` are met. -/
theorem test_hyp_AddressesAndHeartbeats_2 :
    (∃ (p : Fin 3) (s : State),
      Shape s ∧ s.fb.refAt.length = 3 ∧ s.jnOn = true ∧ (s.port p.val).tt.master = true ∧
          s.cfb (ttObj p.val) Fd.ttConf.TT_EN = false) :=
  ⟨2, portAt { tt := { master := true } } net, by decide +kernel⟩

/-- The hypotheses of clauses 1 to 4 of `BusesInputsAndCurrents` are met. -/
theorem test_hyp_BusesInputsAndCurrents :
    (∃ (b : Fin 4) (_ : I2cRes) (st : Fin 10001) (p : Nat) (i : Nat) (s : State),
      Shape s ∧ s.seqRuns = true ∧ (s.se.i2c.getD b.val { }).stopped = false ∧ (s.se.i2c.getD b.val { }).left ≠ 0 ∧
          s.nextDue true (s.i2cList b.val) (s.se.i2c.getD b.val { }) = some (p, i) ∧
          s.fitsAt (s.laneStart (s.se.i2c.getD b.val { }) (s.pollRun p b.val + min (st.val)
          (s.cf (ptObj p 96) Fd.ptI2c.STRETCH_US))) (s.pollUs p b.val) = true ∧ held (s.se.qSmp.getD 3 []) 0 < 8) ∧
    (∃ (b : Fin 4) (_ : SdaHold) (p : Nat) (i : Nat) (s : State),
      Shape s ∧ s.seqRuns = true ∧ (s.se.i2c.getD b.val { }).stopped = false ∧ (s.se.i2c.getD b.val { }).left ≠ 0 ∧
          s.nextDue true (s.i2cList b.val) (s.se.i2c.getD b.val { }) = some (p, i) ∧
          s.fitsAt (s.laneStart (s.se.i2c.getD b.val { }) (s.pollAbort p b.val)) (s.pollUs p b.val) = true ∧
          held (s.se.qSmp.getD 3 []) 0 < 8) ∧
    (∃ (_ : Fin 16) (_ : Bool) (n : Fin 256) (s : State),
      Shape s ∧ s.mn.phase = Phase.run ∧ n.val ≠ 0) ∧
    (∃ (_ : Fin 6) (_ : Fin 6) (_ : SarUse) (_ : Fin 4096) (s : State),
      Shape s ∧ s.pw.drvLost = false ∧ s.mn.deRun = true) :=
  ⟨⟨0, .data [7#8], 10000, 0, 0, ({ put (ptObj 0 0x020) Fd.ptSource.SRC_TYPE 4 up with se.i2c := lset up.se.i2c 0 { left := 1 } }),
      by decide +kernel⟩,
   ⟨0, .released 8, 0, 0, ({ put (ptObj 0 0x020) Fd.ptSource.SRC_TYPE 4 up with se.i2c := lset up.se.i2c 0 { left := 1 } }),
       by decide +kernel⟩,
   ⟨15, true, 255, up, by decide +kernel⟩,
   ⟨5, 5, .fan, 4095, up, by decide +kernel⟩⟩

/-- The hypotheses of clause 5 of `BusesInputsAndCurrents` are met. -/
theorem test_hyp_BusesInputsAndCurrents_2 :
    (∃ (n : Fin 6) (_ : Fin 16777216) (b : SarBurst) (s : State),
      Shape s ∧ (s.se.sar.getD n.val { }).busy = some b ∧ s.deOn = true) :=
  ⟨5, 0, ({ point := 3, use := .centre, avg := 0, acq := 0, endAt := 0 }),
      { up with se.sar := lset up.se.sar 5 { busy := some ({ point := 3, use := .centre, avg := 0, acq := 0, endAt := 0 }) } },
      by decide +kernel⟩

/-- The hypotheses of clauses 1 to 4 of `CanErrorsAndRecovery` are met. -/
theorem test_hyp_CanErrorsAndRecovery :
    (∃ (p : Fin 3) (lec : Fin 7) (_ : Bool) (s : State),
      Shape s ∧ lec.val ≠ 0 ∧ ((s.port p.val).st = CanSt.active ∨ (s.port p.val).st = CanSt.passive)) ∧
    (∃ (p : Fin 3) (lec : Fin 7) (_ : Bool) (s : State),
      Shape s ∧ lec.val ≠ 0 ∧ ((s.port p.val).st = CanSt.listen ∨ (s.port p.val).st = CanSt.restricted)) ∧
    (∃ (p : Fin 3) (s : State),
      Shape s ∧ 255 < (s.port p.val).tec ∧ ((s.port p.val).st = CanSt.active ∨ (s.port p.val).st = CanSt.passive)) ∧
    (∃ (p : Fin 3) (s : State),
      Shape s ∧ (s.port p.val).st = CanSt.busOff ∧ (s.port p.val).reconf = false) :=
  ⟨⟨2, 6, true, portAt { st := .active } up, by decide +kernel⟩,
   ⟨2, 6, true, portAt { st := .restricted } up, by decide +kernel⟩,
   ⟨2, portAt { st := .passive, tec := 256 } up, by decide +kernel⟩,
   ⟨2, portAt { st := .busOff } up, by decide +kernel⟩⟩

/-- The hypotheses of clauses 5 to 6 of `CanErrorsAndRecovery` are met. -/
theorem test_hyp_CanErrorsAndRecovery_2 :
    (∃ (p : Fin 3) (s : State),
      Shape s ∧ (s.port p.val).st ≠ CanSt.off ∧ (s.port p.val).st ≠ CanSt.lowPower ∧ (s.port p.val).txdTmo = false) ∧
    (∃ (p : Fin 3) (s : State),
      Shape s ∧ (s.port p.val).st = CanSt.integrating) :=
  ⟨⟨2, portAt { st := .active } up, by decide +kernel⟩,
   ⟨2, portAt { st := .integrating } up, by decide +kernel⟩⟩

/-- The hypotheses of clauses 1 to 4 of `CanFramesReceived` are met. -/
theorem test_hyp_CanFramesReceived :
    (∃ (p : Fin 3) (f : CanFrame) (_ : Fin 65536) (k : Nat) (act : Nat) (s : State),
      Shape s ∧ (s.port p.val).st.onBus = true ∧ s.mn.mode ≠ Mode.siding ∧ s.mn.mode ≠ Mode.depot ∧ (s.port p.val).reconf = false ∧
          f.norm.rtr = false ∧ s.judgeRx f.norm = RxJudge.ok ∧ idClass s.native f.norm.id ≠ 0 ∧
          matchRule f.norm (s.port p.val).rules 0 = some (k, act) ∧ (act = 0 ∨ act = 1) ∧ (s.port p.val).fifo0 = [] ∧
          (s.port p.val).fifo1 = [] ∧ (s.port p.val).qFabi.length < 64) ∧
    (∃ (p : Fin 3) (f : CanFrame) (_ : Fin 65536) (k : Nat) (act : Nat) (s : State),
      Shape s ∧ (s.port p.val).st.onBus = true ∧ s.mn.mode ≠ Mode.siding ∧ s.mn.mode ≠ Mode.depot ∧ (s.port p.val).reconf = false ∧
          f.norm.rtr = false ∧ s.judgeRx f.norm = RxJudge.ok ∧ idClass s.native f.norm.id ≠ 0 ∧
          matchRule f.norm (s.port p.val).rules 0 = some (k, act) ∧ act = 2) ∧
    (∃ (p : Fin 3) (f : CanFrame) (_ : Fin 65536) (s : State),
      Shape s ∧ (s.port p.val).st.onBus = true ∧ s.mn.mode ≠ Mode.siding ∧ s.mn.mode ≠ Mode.depot ∧ (s.port p.val).reconf = false ∧
          f.norm.rtr = false ∧ s.judgeRx f.norm = RxJudge.ok ∧ matchRule f.norm (s.port p.val).rules 0 = none) ∧
    (∃ (p : Fin 3) (f : CanFrame) (_ : Fin 65536) (s : State),
      Shape s ∧ (s.port p.val).st.onBus = true ∧ s.mn.mode ≠ Mode.siding ∧ s.mn.mode ≠ Mode.depot ∧ (s.port p.val).reconf = false ∧
          (f.norm.rtr = true ∨ s.judgeRx f.norm = RxJudge.implausible)) :=
  ⟨⟨2, ({ fdf := true, id := 0x10009000, dlc := 8, data := List.replicate 8 0#8 }), 0, 47, 1,
      portAt { st := .active, rules := List.replicate 47 (0, 0, 0) ++ [(0xC0000000, 0x40000000, 0)] } net, by decide +kernel⟩,
   ⟨2, ({ fdf := true, id := 0x10009000, dlc := 8, data := List.replicate 8 0#8 }), 0, 0, 2,
       portAt { st := .active, rules := [(0xC0000000, 0x80000000, 0)] } net, by decide +kernel⟩,
   ⟨2, ({ fdf := true, id := 0x10009000, dlc := 8, data := List.replicate 8 0#8 }), 0, portAt { st := .passive } net,
       by decide +kernel⟩,
   ⟨2, { rtr := true }, 65535, portAt { st := .active } net, by decide +kernel⟩⟩

/-- The hypotheses of clause 5 of `CanFramesReceived` are met. -/
theorem test_hyp_CanFramesReceived_2 :
    (∃ (p : Fin 3) (f : CanFrame) (_ : Fin 65536) (_ : Option (Fin 4096)) (s : State),
      Shape s ∧ (s.port p.val).st.onBus = true ∧ s.mn.mode ≠ Mode.siding ∧ s.mn.mode ≠ Mode.depot ∧ (s.port p.val).reconf = false ∧
          f.norm.rtr = false ∧ s.judgeRx f.norm = RxJudge.clash) :=
  ⟨2, ({ fdf := true, id := 0x10005000, dlc := 8, data := List.replicate 8 0#8 }), 65535, none, portAt { st := .active } net,
      by decide +kernel⟩

/-- The hypotheses of clauses 1 to 4 of `CanFramesSent` are met. -/
theorem test_hyp_CanFramesSent :
    (∃ (p : Fin 3) (_ : Option (Fin 4096)) (it : TxItem) (s : State),
      Shape s ∧ (s.port p.val).canStart = true ∧ lowestItem (s.eventItems p.val) = some it ∧
          s.eventFits (p.val) (frClocks (s.canTim p.val) it.frame) = true) ∧
    (∃ (p : Fin 3) (q : Bool) (k : Nat) (it : TxItem) (s : State) (v : Option (Fin 128)),
      Shape s ∧ (s.port p.val).air = some (q, k) ∧ (s.port p.val).item q k = some it ∧ (s.port p.val).reconf = false ∧
          (s.port p.val).qFabo = [] ∧ (s.port p.val).backlog = [] ∧ s.mn.mode ≠ Mode.depot ∧
          (¬(s.cfb (cnObj p.val) Fd.cnConf.TDC_EN = true ∧ it.frame.fdf = true ∧ it.frame.brs = true) ∨ (fun v => ∃ n, v = some n ∧
          n.val + s.cf (cnObj p.val) Fd.cnConf.TDCO ≤ 127) v)) ∧
    (∃ (p : Fin 3) (q : Bool) (k : Nat) (it : TxItem) (s : State) (v : Option (Fin 128)),
      Shape s ∧ (s.port p.val).air = some (q, k) ∧ (s.port p.val).item q k = some it ∧ (s.port p.val).reconf = false ∧
          (s.port p.val).qFabo = [] ∧ (s.port p.val).backlog = [] ∧ s.mn.mode ≠ Mode.depot ∧
          (s.cfb (cnObj p.val) Fd.cnConf.TDC_EN = true ∧ it.frame.fdf = true ∧ it.frame.brs = true) ∧
          (¬(fun v => ∃ n, v = some n ∧ n.val + s.cf (cnObj p.val) Fd.cnConf.TDCO ≤ 127) v)) ∧
    (∃ (p : Fin 3) (q : Bool) (k : Nat) (it : TxItem) (s : State),
      Shape s ∧ (s.port p.val).air = some (q, k) ∧ (s.port p.val).item q k = some it ∧ (s.port p.val).reconf = false ∧
          (s.port p.val).qFabo = [] ∧ (s.port p.val).backlog = [] ∧ s.mn.mode ≠ Mode.depot ∧ it.cancel = false ∧
          (it.oneShot || (s.port p.val).airTt || s.oneShotAll p.val) = false) :=
  ⟨⟨2, none, ({ queue := false, idx := 0, frame := { fdf := true, id := 0x10009000, dlc := 8 }, use := .fabric 4 }),
      portAt { st := .active, tx := [({ queue := false, idx := 0, frame := { fdf := true, id := 0x10009000, dlc := 8 }, use := .fabric 4 })] }
      net, by decide +kernel⟩,
   ⟨2, false, 31,
       ({ queue := false, idx := 31, frame := { fdf := true, id := 0x10009000, dlc := 8, brs := true }, use := .fabric 4 }),
       put (cnObj 2) Fd.cnConf.TDCO 127 (put (cnObj 2) Fd.cnConf.TDC_EN 1
       (portAt { st := .active, tx := [({ queue := false, idx := 31, frame := { fdf := true, id := 0x10009000, dlc := 8, brs := true }, use := .fabric 4 })], air := some (false, 31) }
       net)), some 0, by decide +kernel⟩,
   ⟨2, false, 31,
       ({ queue := false, idx := 31, frame := { fdf := true, id := 0x10009000, dlc := 8, brs := true }, use := .fabric 4 }),
       put (cnObj 2) Fd.cnConf.TDCO 127 (put (cnObj 2) Fd.cnConf.TDC_EN 1
       (portAt { st := .active, tx := [({ queue := false, idx := 31, frame := { fdf := true, id := 0x10009000, dlc := 8, brs := true }, use := .fabric 4 })], air := some (false, 31) }
       net)), some 1, by decide +kernel⟩,
   ⟨2, false, 31, ({ queue := false, idx := 31, frame := { fdf := true, id := 0x10009000, dlc := 8 }, use := .fabric 4 }),
       portAt { st := .active, tx := [({ queue := false, idx := 31, frame := { fdf := true, id := 0x10009000, dlc := 8 }, use := .fabric 4 })], air := some (false, 31) }
       net, by decide +kernel⟩⟩

/-- The hypotheses of clauses 5 to 8 of `CanFramesSent` are met. -/
theorem test_hyp_CanFramesSent_2 :
    (∃ (p : Fin 3) (q : Bool) (k : Nat) (it : TxItem) (s : State),
      Shape s ∧ (s.port p.val).air = some (q, k) ∧ (s.port p.val).item q k = some it ∧ (s.port p.val).reconf = false ∧
          (s.port p.val).qFabo = [] ∧ (s.port p.val).backlog = [] ∧ s.mn.mode ≠ Mode.depot ∧ it.cancel = false ∧
          (it.oneShot || (s.port p.val).airTt || s.oneShotAll p.val) = true) ∧
    (∃ (p : Fin 3) (q : Bool) (k : Nat) (it : TxItem) (s : State) (lec : Fin 7),
      Shape s ∧ (s.port p.val).air = some (q, k) ∧ (s.port p.val).item q k = some it ∧ (s.port p.val).reconf = false ∧
          (s.port p.val).qFabo = [] ∧ (s.port p.val).backlog = [] ∧ s.mn.mode ≠ Mode.depot ∧ lec.val ≠ 0 ∧ it.cancel = false ∧
          (it.oneShot || (s.port p.val).airTt || s.oneShotAll p.val) = false) ∧
    (∃ (p : Fin 3) (q : Bool) (k : Nat) (it : TxItem) (s : State) (_ : Option (Fin 128)) (_ : Bool),
      Shape s ∧ (s.port p.val).air = some (q, k) ∧ (s.port p.val).item q k = some it ∧ (s.port p.val).reconf = false ∧
          (s.port p.val).qFabo = [] ∧ (s.port p.val).backlog = [] ∧ s.mn.mode ≠ Mode.depot) ∧
    (∃ (p : Fin 3) (it : TxItem) (s : State),
      Shape s ∧ (s.port p.val).alone = true ∧ (s.port p.val).canStart = true ∧ (∀ (u : Nat),
          (s.port p.val).aloneAt = some u → u + 1000000 ≤ s.now) ∧ s.mn.mode ≠ Mode.siding ∧
          lowestItem (List.filter (fun i => !(s.port p.val).ttNamed i && i.use != TxUse.fabric 5) (s.port p.val).tx) = some it ∧
          s.eventFits (p.val) (frClocks (s.canTim p.val) it.frame) = true) :=
  ⟨⟨2, false, 31,
      ({ queue := false, idx := 31, frame := { fdf := true, id := 0x10009000, dlc := 8 }, use := .fabric 4, oneShot := true }),
      portAt { st := .active, tx := [({ queue := false, idx := 31, frame := { fdf := true, id := 0x10009000, dlc := 8 }, use := .fabric 4, oneShot := true })], air := some (false, 31) }
      net, by decide +kernel⟩,
   ⟨2, true, 0, ({ queue := true, idx := 0, frame := { fdf := true, id := 0x10009000, dlc := 8 }, use := .fabric 4 }),
       portAt { st := .active, tx := [({ queue := true, idx := 0, frame := { fdf := true, id := 0x10009000, dlc := 8 }, use := .fabric 4 })], air := some (true, 0) }
       net, 6, by decide +kernel⟩,
   ⟨2, false, 31, ({ queue := false, idx := 31, frame := { fdf := true, id := 0x10009000, dlc := 8 }, use := .fabric 4 }),
       portAt { st := .active, tx := [({ queue := false, idx := 31, frame := { fdf := true, id := 0x10009000, dlc := 8 }, use := .fabric 4 })], air := some (false, 31) }
       net, some 127, true, by decide +kernel⟩,
   ⟨2, ({ queue := false, idx := 0, frame := { fdf := true, id := 0x10009000, dlc := 8 }, use := .fabric 4 }),
       ({ portAt { st := .active, alone := true, aloneAt := some 0, tx := [({ queue := false, idx := 0, frame := { fdf := true, id := 0x10009000, dlc := 8 }, use := .fabric 4 })] } net with now := 1000000 }),
       by decide +kernel, by decide +kernel, by decide +kernel, fun u h => (Option.some.inj h : 0 = u) ▸ by decide +kernel,
       by decide +kernel⟩⟩

/-- The hypotheses of the clauses of `ChangeoverEndsThePeriod` are met. -/
theorem test_hyp_ChangeoverEndsThePeriod :
    (∃ (_ : Nat) (s : State),
      s.per.running = true ∧ s.per.inCo = false ∧ s.mn.phase = Phase.run ∧ s.mn.mode ≠ Mode.siding ∧ (∀ x ∈ s.mn.modeNext,
          s.per.count < x.2)) ∧
    (∃ (_ : Nat) (m : Mode) (s : State),
      s.per.running = true ∧ s.per.inCo = false ∧ s.mn.phase = Phase.run ∧ s.mn.mode ≠ Mode.siding ∧ s.modeDue = some m) :=
  ⟨⟨0, { up with mn.modeNext := [(.depot, 1)] }, by decide +kernel⟩,
   ⟨0, .platform, { up with mn.modeNext := [(.platform, 0), (.depot, 1)] }, by decide +kernel⟩⟩

/-- The hypotheses of clauses 1 to 4 of `ClockLossAndReturn` are met. -/
theorem test_hyp_ClockLossAndReturn :
    (∃ (s : State),
      s.vsupOk = true ∧ s.pw.coreLost = false) ∧
    (∃ (s : State),
      Shape s ∧ s.vsupOk = true ∧ s.pw.drvLost = false) ∧
    (∃ (s : State),
      Shape s ∧ s.vsupOk = true ∧ s.pw.afeLost = false) ∧
    (∃ (s : State),
      Shape s ∧ s.vsupOk = true ∧ s.pw.guardLost = false) :=
  ⟨⟨State.reset, by decide +kernel⟩,
   ⟨up, by decide +kernel⟩,
   ⟨up, by decide +kernel⟩,
   ⟨up, by decide +kernel⟩⟩

/-- The hypotheses of clauses 5 to 8 of `ClockLossAndReturn` are met. -/
theorem test_hyp_ClockLossAndReturn_2 :
    (∃ (s : State),
      Shape s ∧ s.vsupOk = true ∧ s.pw.rtcLost = false) ∧
    (∃ (s : State),
      Shape s ∧ s.vsupOk = true ∧ s.pw.coreLost = true) ∧
    (∃ (s : State),
      Shape s ∧ s.vsupOk = true ∧ s.pw.drvLost = true) ∧
    (∃ (d : Clk) (s : State),
      Shape s ∧ d ≠ Clk.core ∧ d ≠ Clk.drv ∧ s.vsupOk = true ∧ s.clkLost d = true) :=
  ⟨⟨up, by decide +kernel⟩,
   ⟨{ State.reset with pw.coreLost := true }, by decide +kernel⟩,
   ⟨{ up with pw.drvLost := true }, by decide +kernel⟩,
   ⟨.guard, { up with pw.guardLost := true }, by decide +kernel⟩⟩

/-- The hypotheses of the clauses of `ColdStartBeginsAtVsupValid` are met. -/
theorem test_hyp_ColdStartBeginsAtVsupValid :
    (∃ (l : List Nat) (s : State),
      s.pw.vsup = false ∧ s.pw.latch = false ∧ strapCount l 10 ≤ 4) ∧
    (∃ (_ : List Nat) (s : State),
      s.pw.vsup = false ∧ s.pw.latch = true) ∧
    (∃ (l : List Nat) (s : State),
      s.pw.vsup = false ∧ s.pw.latch = false ∧ 5 ≤ strapCount l 10) :=
  ⟨⟨List.replicate 11 4, { State.reset with pw.vsup := false }, by decide +kernel⟩,
   ⟨[], { State.reset with pw.vsup := false, pw.latch := true }, by decide +kernel⟩,
   ⟨List.replicate 11 5, { State.reset with pw.vsup := false }, by decide +kernel⟩⟩

/-- The hypotheses of the clauses of `CopiesReadBack` are met. -/
theorem test_hyp_CopiesReadBack :
    (∃ (m : Mem) (_ : Nat) (lmax : Nat) (seq : Nat) (_ : Bool) (data : List Byte),
      m.wf = true ∧ data.length ≤ lmax ∧ lmax < 65536 ∧ seq < 2 ^ 32) ∧
    (∃ (m : Mem) (a : Nat) (lmax : Nat) (seq : Nat) (_ : Bool) (data : List Byte),
      m.wf = true ∧ data.length ≤ lmax ∧ lmax < 65536 ∧ seq < 2 ^ 32 ∧
          BitVec.toNat (m.read (a + 12 + data.length)) ≠ seq % 256 ^^^ 90) :=
  ⟨⟨[], 0, 65535, 2 ^ 32 - 1, true, [1#8], by decide +kernel⟩,
   ⟨[], 0, 65535, 2 ^ 32 - 1, true, [1#8], by decide +kernel⟩⟩

/-- The hypotheses of the clauses of `DeCommandsReachTheStages` are met. -/
theorem test_hyp_DeCommandsReachTheStages :
    (∃ (_ : Fin 65536) (e : QE CmdVal) (q : List (List (QE CmdVal))) (s : State),
      Shape s ∧ s.deOn = true ∧ s.act.cmdWait = [] ∧ (s.pastTc = false ∨ s.act.qCmd.getD 0 [] ≠ []) ∧ popRings s.act.qCmd = some (e,
          q)) ∧
    (∃ (_ : Fin 65536) (s : State),
      Shape s ∧ s.deOn = true ∧ s.pastTc = false ∧ popRings s.act.qCmd = none) ∧
    (∃ (_ : Fin 65536) (s : State),
      s.pastTc = true ∧ s.act.qCmd.getD 0 [] = []) :=
  ⟨⟨65535, ({ val := { stage := .fan 11, act := .set 0#32 }, prod := 0 }), List.replicate 4 [],
      { up with act.qCmd := [[], [], [], [({ val := { stage := .fan 11, act := .set 0#32 }, prod := 0 })]] }, by decide +kernel⟩,
   ⟨0, up, by decide +kernel⟩,
   ⟨0, { up with now := 998000 }, by decide +kernel⟩⟩

/-- The hypotheses of clauses 1 to 4 of `DepotCommands` are met. -/
theorem test_hyp_DepotCommands :
    (∃ (n : Nat) (k : Task) (s : State) (size : Nat),
      Shape s ∧ MemOk s ∧ blockSize (leAt k.payload 0 1) = some size ∧ Zeros k.payload [1, 6, 7] ∧ leAt k.payload 2 2 % 4 = 0 ∧
          0 < leAt k.payload 4 2 ∧ leAt k.payload 4 2 ≤ 58 ∧ leAt k.payload 2 2 + 4 * leAt k.payload 4 2 ≤ size ∧ Due s 224 n k) ∧
    (∃ (n : Nat) (k : Task) (s : State) (size : Nat),
      Shape s ∧ MemOk s ∧ blockSize (leAt k.payload 0 1) = some size ∧ Zeros k.payload [1, 6, 7] ∧ leAt k.payload 2 2 % 4 = 0 ∧
          0 < leAt k.payload 4 2 ∧ leAt k.payload 4 2 ≤ 58 ∧ leAt k.payload 2 2 + 4 * leAt k.payload 4 2 ≤ size ∧ Due s 225 n k ∧
          k.len = 8 + 4 * leAt k.payload 4 2 ∧ (∀ i < leAt k.payload 4 2,
          wordFault (leAt k.payload 0 1) (leAt k.payload 2 2 + 4 * i) (leAt k.payload (8 + 4 * i) 4) = none)) ∧
    (∃ (n : Nat) (k : Task) (s : State),
      Shape s ∧ MemOk s ∧ Due s 226 n k ∧ leAt k.payload 0 1 ≤ 63 ∧ leAt k.payload 1 1 ≤ 1 ∧ Zeros k.payload [2, 3] ∧
          512 ≤ leAt k.payload 4 4 ∧ leAt k.payload 4 4 ≤ 4194304 ∧ (s.mn.phase ≠ Phase.run ∨ leAt k.payload 1 1 ≠ s.mn.bankRun) ∧
          (∀ x ∈ s.host.xfers, x.stream ≠ 256 + leAt k.payload 1 1) ∧ s.xferBuf (leAt k.payload 0 1) = true) ∧
    (∃ (n : Nat) (k : Task) (s : State),
      Shape s ∧ MemOk s ∧ Due s 227 n k ∧ leAt k.payload 0 1 ≤ 1 ∧ Zeros k.payload [1, 2, 3] ∧
          s.bankState (leAt k.payload 0 1) = 1 ∧ s.imageOk (leAt k.payload 0 1) = true) :=
  ⟨⟨7, task (ask 0xE0 sysIdent ([4#8, 0#8] ++ leBytes 2 0 ++ leBytes 2 40 ++ [0#8, 0#8]) dep),
      (ask 0xE0 sysIdent ([4#8, 0#8] ++ leBytes 2 0 ++ leBytes 2 40 ++ [0#8, 0#8]) dep), 160, by decide +kernel, by decide +kernel,
      by decide +kernel, by decide +kernel, by decide +kernel, by decide +kernel, by decide +kernel, by decide +kernel,
      dueOf rfl (by decide +kernel)⟩,
   ⟨7, task (ask 0xE1 sysIdent ([0#8, 0#8] ++ leBytes 2 0x1C ++ leBytes 2 1 ++ [0#8, 0#8] ++ leBytes 4 0xFFFFFFFF) dep),
       (ask 0xE1 sysIdent ([0#8, 0#8] ++ leBytes 2 0x1C ++ leBytes 2 1 ++ [0#8, 0#8] ++ leBytes 4 0xFFFFFFFF) dep), 32,
       by decide +kernel, by decide +kernel, by decide +kernel, by decide +kernel, by decide +kernel, by decide +kernel,
       by decide +kernel, by decide +kernel, dueOf rfl (by decide +kernel), by decide +kernel⟩,
   ⟨7, task (ask 0xE2 sysIdent ([63#8, 1#8, 0#8, 0#8] ++ leBytes 4 512) (descAt 2 0 0 dep)),
       (ask 0xE2 sysIdent ([63#8, 1#8, 0#8, 0#8] ++ leBytes 4 512) (descAt 2 0 0 dep)), by decide +kernel, by decide +kernel,
       dueOf rfl (by decide +kernel), by decide +kernel⟩,
   ⟨7, task (ask 0xE3 sysIdent [1#8, 0#8, 0#8, 0#8] signed), (ask 0xE3 sysIdent [1#8, 0#8, 0#8, 0#8] signed), by decide +kernel,
       by decide +kernel, dueOf rfl (by decide +kernel), by decide +kernel⟩⟩

/-- The hypotheses of clauses 5 to 8 of `DepotCommands` are met. -/
theorem test_hyp_DepotCommands_2 :
    (∃ (n : Nat) (k : Task) (s : State),
      Shape s ∧ MemOk s ∧ Due s 227 n k ∧ leAt k.payload 0 1 ≤ 1 ∧ Zeros k.payload [1, 2, 3] ∧
          s.bankState (leAt k.payload 0 1) = 1 ∧ s.imageOk (leAt k.payload 0 1) = false) ∧
    (∃ (n : Nat) (k : Task) (s : State),
      Shape s ∧ MemOk s ∧ Due s 227 n k ∧ leAt k.payload 0 1 ≤ 1 ∧ Zeros k.payload [1, 2, 3] ∧
          s.bankState (leAt k.payload 0 1) ≠ 1) ∧
    (∃ (n : Nat) (k : Task) (s : State),
      Shape s ∧ MemOk s ∧ Due s 228 n k ∧
          (s.key1.isSome = true ∨ (s.pendRecs.any fun e => e.region == 0 && e.record == 3) = true)) ∧
    (∃ (n : Nat) (k : Task) (s : State),
      Shape s ∧ MemOk s ∧ Due s 228 n k ∧ s.key1 = none ∧ (s.pendRecs.any fun e => e.region == 0 && e.record == 3) = false ∧
          onP256 (beNat (List.take 32 k.payload), beNat (List.drop 32 k.payload)) = true) :=
  ⟨⟨7, task (ask 0xE3 sysIdent [1#8, 0#8, 0#8, 0#8] (stored 0 0 ([0#8, 1#8] ++ List.replicate 30 0#8) dep)),
      (ask 0xE3 sysIdent [1#8, 0#8, 0#8, 0#8] (stored 0 0 ([0#8, 1#8] ++ List.replicate 30 0#8) dep)), by decide +kernel,
      by decide +kernel, dueOf rfl (by decide +kernel), by decide +kernel⟩,
   ⟨7, task (ask 0xE3 sysIdent [1#8, 0#8, 0#8, 0#8] dep), (ask 0xE3 sysIdent [1#8, 0#8, 0#8, 0#8] dep), by decide +kernel,
       by decide +kernel, dueOf rfl (by decide +kernel), by decide +kernel⟩,
   ⟨7, task (ask 0xE4 sysIdent (List.replicate 64 0#8)
       { dep with rs.queue := [{ val := { region := 0, record := 3 }, prod := 0 }] }),
       (ask 0xE4 sysIdent (List.replicate 64 0#8) { dep with rs.queue := [{ val := { region := 0, record := 3 }, prod := 0 }] }),
       by decide +kernel, by decide +kernel, dueOf rfl (by decide +kernel), by decide +kernel⟩,
   ⟨7, task (ask 0xE4 sysIdent (beBytes 32 p256G.1 ++ beBytes 32 p256G.2) dep),
       (ask 0xE4 sysIdent (beBytes 32 p256G.1 ++ beBytes 32 p256G.2) dep), by decide +kernel, by decide +kernel,
       dueOf rfl (by decide +kernel), by decide +kernel⟩⟩

/-- The hypotheses of clauses 9 to 12 of `DepotCommands` are met. -/
theorem test_hyp_DepotCommands_3 :
    (∃ (n : Nat) (k : Task) (s : State),
      Shape s ∧ MemOk s ∧ Due s 229 n k ∧ leAt k.payload 0 4 = 1179012939 ∧ s.key1.isSome = true) ∧
    (∃ (n : Nat) (k : Task) (s : State),
      Shape s ∧ MemOk s ∧ Due s 230 n k ∧ s.svcAttempts ≠ 0 ∧ leAt k.payload 0 8 = s.svcPw) ∧
    (∃ (n : Nat) (k : Task) (s : State),
      Shape s ∧ MemOk s ∧ Due s 230 n k ∧ s.svcAttempts ≠ 0 ∧ leAt k.payload 0 8 ≠ s.svcPw) ∧
    (∃ (s : State),
      s.depotOpen = true) :=
  ⟨⟨7, task (ask 0xE5 sysIdent (leBytes 4 1179012939) (stored 0 3 (List.replicate 64 1#8) dep)),
      (ask 0xE5 sysIdent (leBytes 4 1179012939) (stored 0 3 (List.replicate 64 1#8) dep)), by decide +kernel, by decide +kernel,
      dueOf rfl (by decide +kernel), by decide +kernel⟩,
   ⟨7, task (ask 0xE6 sysIdent (leBytes 16 77) (stored 0 2 (leBytes 8 77) dep)),
       (ask 0xE6 sysIdent (leBytes 16 77) (stored 0 2 (leBytes 8 77) dep)), by decide +kernel, by decide +kernel,
       dueOf rfl (by decide +kernel), by decide +kernel⟩,
   ⟨7, task (ask 0xE6 sysIdent (leBytes 16 78) (stored 0 2 (leBytes 8 77) dep)),
       (ask 0xE6 sysIdent (leBytes 16 78) (stored 0 2 (leBytes 8 77) dep)), by decide +kernel, by decide +kernel,
       dueOf rfl (by decide +kernel), by decide +kernel⟩,
   ⟨dep, by decide +kernel⟩⟩

/-- The hypotheses of clauses 13 to 15 of `DepotCommands` are met. -/
theorem test_hyp_DepotCommands_4 :
    (∃ (s : State) (_ : Byte),
      s.depotOpen = true ∧ s.crc.err = true) ∧
    (∃ (s : State) (_ : Byte),
      s.depotOpen = true ∧ s.crc.err = false) ∧
    (∃ (s : State) (_ : Word),
      s.depotOpen = true) :=
  ⟨⟨{ dep with crc.width := 40 }, 0xFF#8, by decide +kernel⟩,
   ⟨dep, 0#8, by decide +kernel⟩,
   ⟨dep, 0#32, by decide +kernel⟩⟩

/-- The hypotheses of clauses 1 to 4 of `DescriptorsByTheHost` are met. -/
theorem test_hyp_DescriptorsByTheHost :
    (∃ (d : Fin 64) (sizeU : Fin 256) (baseU : Fin 1024) (s : State),
      HostQuiet s ∧ s.host.window.wf = true ∧ s.host.wdescValid = true ∧ s.owner d.val = 0 ∧
          s.descClash d.val sizeU.val baseU.val = false) ∧
    (∃ (d : Fin 64) (sizeU : Fin 256) (baseU : Fin 1024) (s : State),
      HostQuiet s ∧ s.host.window.wf = true ∧ s.host.wdescValid = true ∧ s.owner d.val = 0 ∧
          s.descClash d.val sizeU.val baseU.val = true) ∧
    (∃ (_ : Fin 64) (_ : Fin 256) (_ : Fin 1024) (s : State),
      HostQuiet s ∧ s.host.window.wf = true ∧ s.host.wdescValid = true) ∧
    (∃ (d : Fin 64) (sizeU : Fin 256) (baseU : Fin 1024) (s : State) (c : Instr),
      HostQuiet s ∧ s.host.window.wf = true ∧ s.host.wdescValid = true ∧
          (s.owner d.val = 2 ∨ s.owner d.val = 3 ∨ s.owner d.val = 1 ∧ s.descClash d.val sizeU.val baseU.val = true) ∧
          (c = Instr.descClaim d sizeU baseU ∨ c = Instr.descResize d sizeU baseU)) :=
  ⟨⟨63, 0, 2, descAt 0 0 0 up, quietOf (by decide +kernel), by decide +kernel⟩,
   ⟨63, 0, 1, descAt 0 0 0 up, quietOf (by decide +kernel), by decide +kernel⟩,
   ⟨63, 255, 1023, descAt 2 0 0 up, quietOf (by decide +kernel), by decide +kernel⟩,
   ⟨63, 0, 1, descAt 1 0 0 up, .descResize 63 0 1, quietOf (by decide +kernel), by decide +kernel⟩⟩

/-- The hypotheses of clauses 5 to 8 of `DescriptorsByTheHost` are met. -/
theorem test_hyp_DescriptorsByTheHost_2 :
    (∃ (d : Fin 64) (sizeU : Fin 256) (baseU : Fin 1024) (s : State),
      HostQuiet s ∧ s.host.window.wf = true ∧ s.host.wdescValid = true ∧ s.owner d.val = 1 ∧
          s.descClash d.val sizeU.val baseU.val = false) ∧
    (∃ (d : Fin 64) (s : State),
      HostQuiet s ∧ Shape s ∧ s.host.window.wf = true ∧ s.host.wdescValid = true ∧ s.owner d.val = 1) ∧
    (∃ (d : Fin 64) (s : State),
      HostQuiet s ∧ s.host.window.wf = true ∧ s.host.wdescValid = true ∧ s.owner d.val = 1) ∧
    (∃ (d : Fin 64) (s : State),
      HostQuiet s ∧ s.host.wdescValid = true ∧ s.owner d.val ≠ 1) :=
  ⟨⟨63, 0, 2, descAt 1 0 0 up, quietOf (by decide +kernel), by decide +kernel⟩,
   ⟨63, descAt 1 0 0 up, quietOf (by decide +kernel), by decide +kernel⟩,
   ⟨63, descAt 1 0 0 up, quietOf (by decide +kernel), by decide +kernel⟩,
   ⟨63, descAt 0 0 0 up, quietOf (by decide +kernel), by decide +kernel⟩⟩

/-- The hypotheses of clauses 9 to 12 of `DescriptorsByTheHost` are met. -/
theorem test_hyp_DescriptorsByTheHost_3 :
    (∃ (d : Fin 64) (s : State),
      HostQuiet s ∧ s.host.wdescValid = true ∧ (s.owner d.val = 2 ∨ s.owner d.val = 3)) ∧
    (∃ (d : Fin 64) (s : State),
      HostQuiet s ∧ s.host.wdescValid = true ∧ s.owner d.val = 0 ∧ s.host.window.wf = true) ∧
    (∃ (d : Fin 64) (v : Word) (s : State),
      HostQuiet s ∧ s.host.window.wf = true ∧ s.host.wdescValid = true ∧ s.owner d.val = 1 ∧ bits (BitVec.toNat v) 18 17 = 0 ∧
          bits (BitVec.toNat v) 23 20 = 0 ∧ bits (BitVec.toNat v) 16 0 ≤ s.descSize d.val) ∧
    (∃ (d : Fin 64) (v : Word) (s : State),
      HostQuiet s ∧ s.host.window.wf = true ∧ s.host.wdescValid = true ∧
          (s.owner d.val ≠ 1 ∨ s.descSize d.val < bits (BitVec.toNat v) 16 0)) :=
  ⟨⟨63, descAt 3 0 0 up, quietOf (by decide +kernel), by decide +kernel⟩,
   ⟨63, descAt 0 0 0 up, quietOf (by decide +kernel), by decide +kernel⟩,
   ⟨63, 0x00080100#32, descAt 1 0 0 up, quietOf (by decide +kernel), by decide +kernel⟩,
   ⟨63, 0x00000101#32, descAt 1 0 0 up, quietOf (by decide +kernel), by decide +kernel⟩⟩

/-- The hypotheses of clauses 13 to 14 of `DescriptorsByTheHost` are met. -/
theorem test_hyp_DescriptorsByTheHost_4 :
    (∃ (_ : Fin 64) (_ : Fin 256) (_ : Fin 1024) (_ : Word) (s : State),
      HostQuiet s ∧ s.host.wdescValid = false) ∧
    (∃ (d : Fin 64) (sizeU : Fin 256) (baseU : Fin 1024) (_ : Word) (s : State) (c : Instr),
      HostQuiet s ∧ s.host.wdescValid = false ∧
          (c = Instr.descClaim d sizeU baseU ∨ c = Instr.descResize d sizeU baseU ∨ c = Instr.descHandToDevice d ∨ c =
          Instr.descRelease d)) :=
  ⟨⟨63, 0, 0, 0#32, up, quietOf (by decide +kernel), by decide +kernel⟩,
   ⟨63, 255, 1023, 0#32, up, .descRelease 63, quietOf (by decide +kernel), by decide +kernel⟩⟩

/-- The hypotheses of clauses 1 to 4 of `DieSensorsAndThrottling` are met. -/
theorem test_hyp_DieSensorsAndThrottling :
    (∃ (_ : Fin 9) (_ : DieRx) (s : State),
      Shape s ∧ s.deOn = true) ∧
    (∃ (n : Fin 9) (s : State),
      Shape s ∧ s.deOn = true ∧ (s.die n.val).failed = false) ∧
    (∃ (_ : Fin 6) (s : State),
      Shape s ∧ s.deOn = true) ∧
    (∃ (_ : Fin 65536) (_ : Fin 1000) (s : State),
      s.deOn = true) :=
  ⟨⟨8, { selfOk := true, milli := 0 }, up, by decide +kernel⟩,
   ⟨8, up, by decide +kernel⟩,
   ⟨5, up, by decide +kernel⟩,
   ⟨65535, 999, up, by decide +kernel⟩⟩

/-- The hypotheses of clauses 5 to 6 of `DieSensorsAndThrottling` are met. -/
theorem test_hyp_DieSensorsAndThrottling_2 :
    (∃ (y : Ao),
      y.fault = false) ∧
    (∃ (y : Ao),
      y.fault = true ∧ fLt y.meas y.v = true) :=
  ⟨⟨{}, by decide +kernel⟩,
   ⟨{ fault := true, v := f100 }, by decide +kernel⟩⟩

/-- The hypotheses of clauses 1 to 4 of `DirectAndDiagnosticCommands` are met. -/
theorem test_hyp_DirectAndDiagnosticCommands :
    (∃ (n : Nat) (k : Task) (s : State) (st : Stage),
      Shape s ∧ MemOk s ∧ Stage.of (objCls k.hdr.object) (objInst k.hdr.object) = some st ∧ s.unusedStage st = false ∧
          Due s 96 n k ∧ fNotFinite (wd (leAt k.payload 0 4)) = false ∧ Zeros k.payload [5, 6, 7] ∧ (leAt k.payload 4 1 = 1 ∧
          leAt k.payload 8 4 = 0 ∨ leAt k.payload 4 1 = 2 ∧ 0 < leAt k.payload 8 4 ∧ leAt k.payload 8 4 ≤ 86400) ∧
          s.linkedAo st = false ∧ s.stageAccepts st (wd (leAt k.payload 0 4)) = true ∧ s.guardCarries st = false) ∧
    (∃ (n : Nat) (k : Task) (s : State) (st : Stage),
      Shape s ∧ MemOk s ∧ Stage.of (objCls k.hdr.object) (objInst k.hdr.object) = some st ∧ s.unusedStage st = false ∧
          Due s 96 n k ∧ fNotFinite (wd (leAt k.payload 0 4)) = false ∧ Zeros k.payload [5, 6, 7] ∧ (leAt k.payload 4 1 = 1 ∧
          leAt k.payload 8 4 = 0 ∨ leAt k.payload 4 1 = 2 ∧ 0 < leAt k.payload 8 4 ∧ leAt k.payload 8 4 ≤ 86400) ∧
          s.linkedAo st = false ∧ s.stageAccepts st (wd (leAt k.payload 0 4)) = true ∧ s.guardCarries st = true) ∧
    (∃ (n : Nat) (k : Task) (s : State) (st : Stage),
      Shape s ∧ MemOk s ∧ Stage.of (objCls k.hdr.object) (objInst k.hdr.object) = some st ∧ s.unusedStage st = false ∧
          Due s 97 n k) ∧
    (∃ (n : Nat) (k : Task) (s : State) (f : Fin 12),
      Shape s ∧ MemOk s ∧ Due s 98 n k ∧ objInst k.hdr.object = f.val ∧ s.guardCarries (Stage.fan f) = false) :=
  ⟨⟨7, task (ask 0x60 (objId 5 11 0) (leBytes 4 0 ++ [2#8, 0#8, 0#8, 0#8] ++ leBytes 4 86400) up),
      (ask 0x60 (objId 5 11 0) (leBytes 4 0 ++ [2#8, 0#8, 0#8, 0#8] ++ leBytes 4 86400) up), .fan 11, by decide +kernel,
      by decide +kernel, by decide +kernel, by decide +kernel, dueOf rfl (by decide +kernel), by decide +kernel⟩,
   ⟨7, task (ask 0x60 (objId 5 11 0) (leBytes 4 0 ++ [1#8, 0#8, 0#8, 0#8] ++ leBytes 4 0) (fanAt 2 2 { guard := some 0#32 } up)),
       (ask 0x60 (objId 5 11 0) (leBytes 4 0 ++ [1#8, 0#8, 0#8, 0#8] ++ leBytes 4 0) (fanAt 2 2 { guard := some 0#32 } up)),
       .fan 11, by decide +kernel, by decide +kernel, by decide +kernel, by decide +kernel, dueOf rfl (by decide +kernel),
       by decide +kernel⟩,
   ⟨7, task (ask 0x61 (objId 6 15 0) [] up), (ask 0x61 (objId 6 15 0) [] up), .ao 15, by decide +kernel, by decide +kernel,
       by decide +kernel, by decide +kernel, dueOf rfl (by decide +kernel)⟩,
   ⟨7, task (ask 0x62 (objId 5 11 0) [] (fanAt 2 2 { faultL := true } up)),
       (ask 0x62 (objId 5 11 0) [] (fanAt 2 2 { faultL := true } up)), 11, by decide +kernel, by decide +kernel,
       dueOf rfl (by decide +kernel), by decide +kernel⟩⟩

/-- The hypotheses of clauses 5 to 8 of `DirectAndDiagnosticCommands` are met. -/
theorem test_hyp_DirectAndDiagnosticCommands_2 :
    (∃ (n : Nat) (k : Task) (s : State) (f : Fin 12),
      Shape s ∧ MemOk s ∧ Due s 98 n k ∧ objInst k.hdr.object = f.val ∧ s.guardCarries (Stage.fan f) = true) ∧
    (∃ (n : Nat) (k : Task) (s : State) (ch : Fin 24),
      Shape s ∧ MemOk s ∧ Due s 99 n k ∧ objInst k.hdr.object = ch.val ∧ s.unusedStage (Stage.valve ch) = false ∧
          s.guardCarries (Stage.valve ch) = false) ∧
    (∃ (n : Nat) (k : Task) (s : State) (ch : Fin 24),
      Shape s ∧ MemOk s ∧ Due s 99 n k ∧ objInst k.hdr.object = ch.val ∧
          (s.unusedStage (Stage.valve ch) = true ∨ s.guardCarries (Stage.valve ch) = true)) ∧
    (∃ (n : Nat) (k : Task) (s : State),
      Shape s ∧ MemOk s ∧ Due s 112 n k ∧ 0 < leAt k.payload 4 1 ∧ leAt k.payload 4 1 ≤ 11 ∧ Zeros k.payload [5, 6, 7]) :=
  ⟨⟨7, task (ask 0x62 (objId 5 11 0) [] (fanAt 2 2 { guard := some 0#32 } up)),
      (ask 0x62 (objId 5 11 0) [] (fanAt 2 2 { guard := some 0#32 } up)), 11, by decide +kernel, by decide +kernel,
      dueOf rfl (by decide +kernel), by decide +kernel⟩,
   ⟨7, task (ask 0x63 (objId 4 23 0) [] (gangAt 23 1 { st := .reg } up)),
       (ask 0x63 (objId 4 23 0) [] (gangAt 23 1 { st := .reg } up)), 23, by decide +kernel, by decide +kernel,
       dueOf rfl (by decide +kernel), by decide +kernel⟩,
   ⟨7, task (ask 0x63 (objId 4 23 0) [] up), (ask 0x63 (objId 4 23 0) [] up), 23, by decide +kernel, by decide +kernel,
       dueOf rfl (by decide +kernel), by decide +kernel⟩,
   ⟨7, task (ask 0x70 sysIdent (leBytes 4 1 ++ [11#8, 0#8, 0#8, 0#8]) up),
       (ask 0x70 sysIdent (leBytes 4 1 ++ [11#8, 0#8, 0#8, 0#8]) up), by decide +kernel, by decide +kernel,
       dueOf rfl (by decide +kernel), by decide +kernel⟩⟩

/-- The hypotheses of clauses 9 to 12 of `DirectAndDiagnosticCommands` are met. -/
theorem test_hyp_DirectAndDiagnosticCommands_3 :
    (∃ (n : Nat) (k : Task) (s : State),
      Shape s ∧ MemOk s ∧ Due s 113 n k ∧ leAt k.payload 0 1 ≤ 3 ∧ Zeros k.payload [1, 2, 3]) ∧
    (∃ (n : Nat) (k : Task) (s : State),
      Shape s ∧ MemOk s ∧ Due s 114 n k) ∧
    (∃ (n : Nat) (k : Task) (s : State),
      Shape s ∧ MemOk s ∧ Due s 115 n k ∧ Zeros k.payload [6, 7] ∧ s.wallTaken = false) ∧
    (∃ (n : Nat) (k : Task) (s : State),
      Shape s ∧ MemOk s ∧ Due s 115 n k ∧ Zeros k.payload [6, 7] ∧ s.wallTaken = true) :=
  ⟨⟨7, task (ask 0x71 sysIdent [3#8, 0#8, 0#8, 0#8] up), (ask 0x71 sysIdent [3#8, 0#8, 0#8, 0#8] up), by decide +kernel,
      by decide +kernel, dueOf rfl (by decide +kernel), by decide +kernel⟩,
   ⟨7, task (ask 0x72 sysIdent [] up), (ask 0x72 sysIdent [] up), by decide +kernel, by decide +kernel,
       dueOf rfl (by decide +kernel)⟩,
   ⟨7, task (ask 0x73 sysIdent (leBytes 8 0) up), (ask 0x73 sysIdent (leBytes 8 0) up), by decide +kernel, by decide +kernel,
       dueOf rfl (by decide +kernel), by decide +kernel⟩,
   ⟨7, task (ask 0x73 sysIdent (leBytes 8 0) { net with fb.wall := some 0 }),
       (ask 0x73 sysIdent (leBytes 8 0) { net with fb.wall := some 0 }), by decide +kernel, by decide +kernel,
       dueOf rfl (by decide +kernel), by decide +kernel⟩⟩

/-- The hypotheses of clauses 1 to 4 of `EventsReachTheLog` are met. -/
theorem test_hyp_EventsReachTheLog :
    (∃ (e : EvtEntry) (q : List (List EvtEntry)) (s : State),
      s.sbTakes = true ∧ s.pastTc = false ∧ popEvt s.qEvt = some (e, q)) ∧
    (∃ (s : State),
      Shape s ∧ s.sbTakes = true ∧ s.pastTc = false ∧ popEvt s.qEvt = none) ∧
    (∃ (s : State),
      s.pastTc = true) ∧
    (∃ (p : Fin 12) (e : EvtEntry) (s : State),
      Shape s ∧ (s.prods.getD p.val { }).held = [e] ∧ s.evtCredit (p.val) e.pri = true ∧ p.val ≠ prPeri ∧
          (s.prods.getD p.val { }).lost = 0 ∧ e.pri < 4) :=
  ⟨⟨{}, [[], [], [], []], { up with qEvt := [[], [], [], [{}]] }, by decide +kernel⟩,
   ⟨up, by decide +kernel⟩,
   ⟨{ up with now := 998000 }, by decide +kernel⟩,
   ⟨0, ({}), { up with prods := lset up.prods 0 { held := [({})] } }, by decide +kernel⟩⟩

/-- The hypotheses of clause 5 of `EventsReachTheLog` are met. -/
theorem test_hyp_EventsReachTheLog_2 :
    (∃ (i : Nat) (v : F32) (err : Bool) (c : Nat) (rest : List (Nat × F32 × Bool × Nat)) (s : State),
      Shape s ∧ s.se.table = (i, v, err, c) :: rest ∧ s.deOn = true ∧ s.se.cross = [] ∧ (s.se.qSmp.getD 0 []).length < 16) :=
  ⟨3, 0#32, true, 9, [], { up with se.table := [(3, 0#32, true, 9)] }, by decide +kernel⟩

/-- The hypotheses of the clauses of `EveryCommandRuns` are met. -/
theorem test_hyp_EveryCommandRuns :
    (∃ (c : Instr) (s : State),
      ¬StartsInTest c s) ∧
    (∃ (l : List Nat) (s : State),
      StartsInTest (Instr.vsupValid l) s) ∧
    (∃ (c : Instr) (s : State) (t : State),
      exec c s = Host.Outcome.next t) ∧
    (∃ (s : State) (t : State),
      step s = Host.Outcome.next t) :=
  ⟨⟨.ping, up, by simp [StartsInTest]⟩,
   ⟨List.replicate 11 5, { State.reset with pw.vsup := false }, .inl ⟨_, rfl, rfl, rfl, by decide⟩⟩,
   ⟨.kickEnd 11, State.reset, State.reset, rfl⟩,
   ⟨State.reset, { State.reset with now := 1 }, rfl⟩⟩

/-- The hypotheses of the clauses of `EveryStepKeepsTablesAndMemories` are met. -/
theorem test_hyp_EveryStepKeepsTablesAndMemories :
    (∃ (s : State) (t : State),
      Shape s ∧ MemOk s ∧ step s = Host.Outcome.next t) :=
  ⟨State.reset, { State.reset with now := 1 }, by decide +kernel, by decide +kernel, rfl⟩

/-- The hypotheses of clauses 1 to 4 of `FabricAndCanCommands` are met. -/
theorem test_hyp_FabricAndCanCommands :
    (∃ (n : Nat) (k : Task) (s : State),
      Shape s ∧ MemOk s ∧ leAt k.payload 0 2 ≠ 0 ∧ leAt k.payload 0 2 ≤ 4095 ∧ leAt k.payload 0 2 ≠ s.fb.node ∧
          10 ≤ leAt k.payload 2 2 ∧ leAt k.payload 2 2 ≤ 5000 ∧ Due s 64 n k ∧ (relayFamily (leAt k.payload 4 1)).isSome = true ∧
          Zeros k.payload [5, 6, 7] ∧ s.routeTo (leAt k.payload 0 2) = none) ∧
    (∃ (n : Nat) (k : Task) (s : State) (r : Route),
      Shape s ∧ MemOk s ∧ leAt k.payload 0 2 ≠ 0 ∧ leAt k.payload 0 2 ≤ 4095 ∧ leAt k.payload 0 2 ≠ s.fb.node ∧
          10 ≤ leAt k.payload 2 2 ∧ leAt k.payload 2 2 ≤ 5000 ∧ Due s 64 n k ∧ (relayFamily (leAt k.payload 4 1)).isSome = true ∧
          Zeros k.payload [5, 6, 7] ∧ s.routeTo (leAt k.payload 0 2) = some r) ∧
    (∃ (n : Nat) (k : Task) (s : State),
      Shape s ∧ MemOk s ∧ leAt k.payload 0 2 ≠ 0 ∧ leAt k.payload 0 2 ≤ 4095 ∧ leAt k.payload 0 2 ≠ s.fb.node ∧
          10 ≤ leAt k.payload 2 2 ∧ leAt k.payload 2 2 ≤ 5000 ∧ Due s 65 n k ∧ s.routeTo (leAt k.payload 0 2) = none) ∧
    (∃ (n : Nat) (k : Task) (s : State) (r : Route),
      Shape s ∧ MemOk s ∧ leAt k.payload 0 2 ≠ 0 ∧ leAt k.payload 0 2 ≤ 4095 ∧ leAt k.payload 0 2 ≠ s.fb.node ∧
          10 ≤ leAt k.payload 2 2 ∧ leAt k.payload 2 2 ≤ 5000 ∧ Due s 65 n k ∧ s.routeTo (leAt k.payload 0 2) = some r) :=
  ⟨⟨7, task (ask 0x40 (objId 0x0D 0 0) (leBytes 2 4095 ++ leBytes 2 5000 ++ leBytes 8 0) net),
      (ask 0x40 (objId 0x0D 0 0) (leBytes 2 4095 ++ leBytes 2 5000 ++ leBytes 8 0) net), by decide +kernel, by decide +kernel,
      by decide +kernel, by decide +kernel, by decide +kernel, by decide +kernel, by decide +kernel, dueOf rfl (by decide +kernel),
      by decide +kernel⟩,
   ⟨7, task (ask 0x40 (objId 0x0D 0 0) (leBytes 2 4095 ++ leBytes 2 10 ++ leBytes 8 0)
       { net with fb.routes := [(8190, { st := 1 })] }),
       (ask 0x40 (objId 0x0D 0 0) (leBytes 2 4095 ++ leBytes 2 10 ++ leBytes 8 0) { net with fb.routes := [(8190, { st := 1 })] }),
       { st := 1 }, by decide +kernel, by decide +kernel, by decide +kernel, by decide +kernel, by decide +kernel,
       by decide +kernel, by decide +kernel, dueOf rfl (by decide +kernel), by decide +kernel⟩,
   ⟨7, task (ask 0x41 (objId 0x0D 0 0) (leBytes 2 1 ++ leBytes 2 10) net),
       (ask 0x41 (objId 0x0D 0 0) (leBytes 2 1 ++ leBytes 2 10) net), by decide +kernel, by decide +kernel, by decide +kernel,
       by decide +kernel, by decide +kernel, by decide +kernel, by decide +kernel, dueOf rfl (by decide +kernel),
       by decide +kernel⟩,
   ⟨7, task (ask 0x41 (objId 0x0D 0 0) (leBytes 2 1 ++ leBytes 2 5000) { net with fb.routes := [(3, { st := 1 })] }),
       (ask 0x41 (objId 0x0D 0 0) (leBytes 2 1 ++ leBytes 2 5000) { net with fb.routes := [(3, { st := 1 })] }), { st := 1 },
       by decide +kernel, by decide +kernel, by decide +kernel, by decide +kernel, by decide +kernel, by decide +kernel,
       by decide +kernel, dueOf rfl (by decide +kernel), by decide +kernel⟩⟩

/-- The hypotheses of clauses 5 to 8 of `FabricAndCanCommands` are met. -/
theorem test_hyp_FabricAndCanCommands_2 :
    (∃ (n : Nat) (k : Task) (s : State),
      Shape s ∧ MemOk s ∧ Due s 66 n k) ∧
    (∃ (n : Nat) (k : Task) (s : State),
      Shape s ∧ MemOk s ∧ Due s 67 n k ∧ leAt k.payload 0 2 ≤ 8191 ∧ Zeros k.payload [2, 3]) ∧
    (∃ (n : Nat) (k : Task) (s : State),
      Shape s ∧ MemOk s ∧ Due s 80 n k ∧ objInst k.hdr.object < 3 ∧ (s.port (objInst k.hdr.object)).st = CanSt.held) ∧
    (∃ (n : Nat) (k : Task) (s : State),
      Shape s ∧ MemOk s ∧ Due s 80 n k ∧ objInst k.hdr.object < 3 ∧
          ((s.port (objInst k.hdr.object)).st = CanSt.active ∨ (s.port (objInst k.hdr.object)).st = CanSt.passive)) :=
  ⟨⟨7, task (ask 0x42 (objId 0x0D 0 0) [] net), (ask 0x42 (objId 0x0D 0 0) [] net), by decide +kernel, by decide +kernel,
      dueOf rfl (by decide +kernel)⟩,
   ⟨7, task (ask 0x43 (objId 0x0D 0 0) (leBytes 4 8191) net), (ask 0x43 (objId 0x0D 0 0) (leBytes 4 8191) net), by decide +kernel,
       by decide +kernel, dueOf rfl (by decide +kernel), by decide +kernel⟩,
   ⟨7, task (ask 0x50 (objId 0x0B 2 0) [] (portAt { st := .held } up)), (ask 0x50 (objId 0x0B 2 0) [] (portAt { st := .held } up)),
       by decide +kernel, by decide +kernel, dueOf rfl (by decide +kernel), by decide +kernel⟩,
   ⟨7, task (ask 0x50 (objId 0x0B 2 0) [] (portAt { st := .passive } up)),
       (ask 0x50 (objId 0x0B 2 0) [] (portAt { st := .passive } up)), by decide +kernel, by decide +kernel,
       dueOf rfl (by decide +kernel), by decide +kernel⟩⟩

/-- The hypotheses of clauses 9 to 12 of `FabricAndCanCommands` are met. -/
theorem test_hyp_FabricAndCanCommands_3 :
    (∃ (n : Nat) (k : Task) (s : State) (q : Bool) (i : Nat) (it : TxItem),
      Shape s ∧ MemOk s ∧ Due s 81 n k ∧ objInst k.hdr.object < 3 ∧ leAt k.payload 0 1 = b2n q ∧ leAt k.payload 1 1 = i ∧ i ≤ 31 ∧
          Zeros k.payload [2, 3] ∧ (s.port (objInst k.hdr.object)).item q i = some it ∧
          (s.port (objInst k.hdr.object)).air ≠ some (q, i) ∧ (s.port (objInst k.hdr.object)).qFabo = [] ∧
          (s.port (objInst k.hdr.object)).backlog = []) ∧
    (∃ (n : Nat) (k : Task) (s : State) (q : Bool) (i : Nat) (it : TxItem),
      Shape s ∧ MemOk s ∧ Due s 81 n k ∧ objInst k.hdr.object < 3 ∧ leAt k.payload 0 1 = b2n q ∧ leAt k.payload 1 1 = i ∧ i ≤ 31 ∧
          Zeros k.payload [2, 3] ∧ (s.port (objInst k.hdr.object)).item q i = some it ∧
          (s.port (objInst k.hdr.object)).air = some (q, i)) ∧
    (∃ (n : Nat) (k : Task) (s : State),
      Shape s ∧ MemOk s ∧ Due s 82 n k ∧ objInst k.hdr.object < 3 ∧ (s.port (objInst k.hdr.object)).tt.pend = none) ∧
    (∃ (n : Nat) (k : Task) (s : State) (m : List Byte),
      Shape s ∧ MemOk s ∧ Due s 82 n k ∧ objInst k.hdr.object < 3 ∧ (s.port (objInst k.hdr.object)).tt.pend = some m ∧
          mxFits m (s.canTim (objInst k.hdr.object)) s.msJudged = true) :=
  ⟨⟨7, task (ask 0x51 (objId 0x0B 2 0) [1#8, 31#8, 0#8,
      0#8] (portAt { st := .active, tx := [({ queue := true, idx := 31, frame := {}, use := .fabric 4 })] } up)),
      (ask 0x51 (objId 0x0B 2 0) [1#8, 31#8, 0#8,
      0#8] (portAt { st := .active, tx := [({ queue := true, idx := 31, frame := {}, use := .fabric 4 })] } up)), true, 31,
      ({ queue := true, idx := 31, frame := {}, use := .fabric 4 }), by decide +kernel, by decide +kernel,
      dueOf rfl (by decide +kernel), by decide +kernel⟩,
   ⟨7, task (ask 0x51 (objId 0x0B 2 0) [1#8, 31#8, 0#8,
       0#8] (portAt { st := .active, tx := [({ queue := true, idx := 31, frame := {}, use := .fabric 4 })], air := some (true, 31) }
       up)), (ask 0x51 (objId 0x0B 2 0) [1#8, 31#8, 0#8,
       0#8] (portAt { st := .active, tx := [({ queue := true, idx := 31, frame := {}, use := .fabric 4 })], air := some (true, 31) }
       up)), true, 31, ({ queue := true, idx := 31, frame := {}, use := .fabric 4 }), by decide +kernel, by decide +kernel,
       dueOf rfl (by decide +kernel), by decide +kernel⟩,
   ⟨7, task (ask 0x52 (objId 0x0C 2 0) [] up), (ask 0x52 (objId 0x0C 2 0) [] up), by decide +kernel, by decide +kernel,
       dueOf rfl (by decide +kernel), by decide +kernel⟩,
   ⟨7, task (ask 0x52 (objId 0x0C 2 0) []
       (portAt { tt := { pend := some ([0#8, 0#8, 1#8, 1#8, 1#8, 0#8] ++ List.replicate 28 0#8 ++ leBytes 2 1000) } } up)),
       (ask 0x52 (objId 0x0C 2 0) []
       (portAt { tt := { pend := some ([0#8, 0#8, 1#8, 1#8, 1#8, 0#8] ++ List.replicate 28 0#8 ++ leBytes 2 1000) } } up)),
       ([0#8, 0#8, 1#8, 1#8, 1#8, 0#8] ++ List.replicate 28 0#8 ++ leBytes 2 1000), by decide +kernel, by decide +kernel,
       dueOf rfl (by decide +kernel), by decide +kernel⟩⟩

/-- The hypotheses of clauses 13 to 14 of `FabricAndCanCommands` are met. -/
theorem test_hyp_FabricAndCanCommands_4 :
    (∃ (n : Nat) (k : Task) (s : State) (m : List Byte),
      Shape s ∧ MemOk s ∧ Due s 82 n k ∧ objInst k.hdr.object < 3 ∧ (s.port (objInst k.hdr.object)).tt.pend = some m ∧
          mxFits m (s.canTim (objInst k.hdr.object)) s.msJudged = false) ∧
    (∃ (n : Nat) (k : Task) (s : State),
      Shape s ∧ MemOk s ∧ Due s 83 n k ∧ objInst k.hdr.object < 3) :=
  ⟨⟨7, task
      (ask 0x52 (objId 0x0C 2 0) []
      (portAt { tt := { pend := some ([0#8, 0#8, 1#8, 1#8, 1#8, 0#8] ++ List.replicate 28 0#8 ++ leBytes 2 0) } } up)),
      (ask 0x52 (objId 0x0C 2 0) []
      (portAt { tt := { pend := some ([0#8, 0#8, 1#8, 1#8, 1#8, 0#8] ++ List.replicate 28 0#8 ++ leBytes 2 0) } } up)),
      ([0#8, 0#8, 1#8, 1#8, 1#8, 0#8] ++ List.replicate 28 0#8 ++ leBytes 2 0), by decide +kernel, by decide +kernel,
      dueOf rfl (by decide +kernel), by decide +kernel⟩,
   ⟨7, task (ask 0x53 (objId 0x0B 2 0) [] up), (ask 0x53 (objId 0x0B 2 0) [] up), by decide +kernel, by decide +kernel,
       dueOf rfl (by decide +kernel), by decide +kernel⟩⟩

/-- The hypotheses of clauses 1 to 4 of `FabricFramesAreTested` are met. -/
theorem test_hyp_FabricFramesAreTested :
    (∃ (p : Fin 3) (s : State),
      Shape s ∧ s.fbf Fd.fbConf.FABRIC_EN ≠ 0 ∧ s.mn.mode ≠ Mode.siding ∧ (s.port p.val).qFabi = []) ∧
    (∃ (p : Fin 3) (e : QE RxElem) (rest : List (QE RxElem)) (s : State),
      Shape s ∧ s.fbf Fd.fbConf.FABRIC_EN ≠ 0 ∧ s.mn.mode ≠ Mode.siding ∧ (s.port p.val).qFabi = e :: rest ∧ e.bad = false ∧
          (s.port p.val).fifo0 = [] ∧ (s.port p.val).fifo1 = [] ∧ idClass s.native (bits e.val.h0 28 0) ≠ 0 ∧
          s.fabTest e.val false ≠ 0) ∧
    (∃ (p : Fin 3) (e : QE RxElem) (rest : List (QE RxElem)) (s : State),
      Shape s ∧ s.fbf Fd.fbConf.FABRIC_EN ≠ 0 ∧ s.mn.mode ≠ Mode.siding ∧ (s.port p.val).qFabi = e :: rest ∧ e.bad = false ∧
          (s.port p.val).fifo0 = [] ∧ (s.port p.val).fifo1 = [] ∧ idClass s.native (bits e.val.h0 28 0) ≠ 0 ∧
          s.fabTest e.val false = 0 ∧ s.mn.phase = Phase.run ∧ s.native = true ∧ (fabParse s.native e.val.data).flood = false ∧
          (fabParse s.native e.val.data).ty = 8 ∧ (fabParse s.native e.val.data).dst = s.fb.node ∧
          (List.filter (fun x => x.node != (fabParse s.native e.val.data).src) s.fb.subs).length < 64) ∧
    (∃ (p : Fin 3) (e : QE RxElem) (rest : List (QE RxElem)) (s : State),
      Shape s ∧ s.fbf Fd.fbConf.FABRIC_EN ≠ 0 ∧ s.mn.mode ≠ Mode.siding ∧ (s.port p.val).qFabi = e :: rest ∧ e.bad = false ∧
          (s.port p.val).fifo0 = [] ∧ (s.port p.val).fifo1 = [] ∧ idClass s.native (bits e.val.h0 28 0) ≠ 0 ∧
          s.fabTest e.val false = 0 ∧ s.mn.phase = Phase.run ∧ s.native = true ∧ (fabParse s.native e.val.data).flood = false ∧
          (fabParse s.native e.val.data).ty = 10 ∧ (fabParse s.native e.val.data).dst = 0) :=
  ⟨⟨2, net, by decide +kernel⟩,
   ⟨2, ({ val := { h0 := 2 ^ 28, h1 := 8, data := [] }, prod := 0 }), [],
       portAt { qFabi := [({ val := { h0 := 2 ^ 28, h1 := 8, data := [] }, prod := 0 })] } net, by decide +kernel⟩,
   ⟨2, ({ val := { h0 := 2 ^ 30 + 3 * 2 ^ 26 + 9 * 2 ^ 12 + 5, h1 := 9 * 2 ^ 12, data := ([0x18#8, 9#8, 0#8, 5#8, 0#8, 1#8, 0#8, 2#8, 0#8, 0#8]) ++ leBytes 2 (fabricCheck 5 1 ([0x18#8, 9#8, 0#8, 5#8, 0#8, 1#8, 0#8, 2#8, 0#8, 0#8])) }, prod := 0 }),
       [], portAt
       { qFabi := [({ val := { h0 := 2 ^ 30 + 3 * 2 ^ 26 + 9 * 2 ^ 12 + 5, h1 := 9 * 2 ^ 12, data := ([0x18#8, 9#8, 0#8, 5#8, 0#8, 1#8, 0#8, 2#8, 0#8, 0#8]) ++ leBytes 2 (fabricCheck 5 1 ([0x18#8, 9#8, 0#8, 5#8, 0#8, 1#8, 0#8, 2#8, 0#8, 0#8])) }, prod := 0 })] }
       net, by decide +kernel⟩,
   ⟨2, ({ val := { h0 := 2 ^ 30 + 5 * 2 ^ 26 + 9 * 2 ^ 12, h1 := 9 * 2 ^ 12, data := ([0x1A#8, 9#8, 0#8, 0#8, 0#8, 1#8, 0#8, 2#8, 0#8, 0#8]) ++ leBytes 2 (fabricCheck 0 1 ([0x1A#8, 9#8, 0#8, 0#8, 0#8, 1#8, 0#8, 2#8, 0#8, 0#8])) }, prod := 0 }),
       [], portAt
       { qFabi := [({ val := { h0 := 2 ^ 30 + 5 * 2 ^ 26 + 9 * 2 ^ 12, h1 := 9 * 2 ^ 12, data := ([0x1A#8, 9#8, 0#8, 0#8, 0#8, 1#8, 0#8, 2#8, 0#8, 0#8]) ++ leBytes 2 (fabricCheck 0 1 ([0x1A#8, 9#8, 0#8, 0#8, 0#8, 1#8, 0#8, 2#8, 0#8, 0#8])) }, prod := 0 })] }
       net, by decide +kernel⟩⟩

/-- The hypotheses of clause 5 of `FabricFramesAreTested` are met. -/
theorem test_hyp_FabricFramesAreTested_2 :
    (∃ (p : Fin 3) (e : QE RxElem) (rest : List (QE RxElem)) (s : State),
      Shape s ∧ s.fbf Fd.fbConf.FABRIC_EN ≠ 0 ∧ s.mn.mode ≠ Mode.siding ∧ (s.port p.val).qFabi = e :: rest ∧ e.bad = false ∧
          idClass s.native (bits e.val.h0 28 0) = 0 ∧ bitOf e.val.h1 3 = false ∧ (s.port p.val).tt.master = false ∧
          s.isRoot = false ∧ (s.fb.timed = false ∨ s.fb.timePort = p.val)) :=
  ⟨2, ({ val := { h0 := 2 ^ 30 + 9 * 2 ^ 12, h1 := 8 * 2 ^ 12, data := List.replicate 8 0#8 }, prod := 0 }), [],
      portAt { qFabi := [({ val := { h0 := 2 ^ 30 + 9 * 2 ^ 12, h1 := 8 * 2 ^ 12, data := List.replicate 8 0#8 }, prod := 0 })] }
      net, by decide +kernel⟩

/-- The hypotheses of clauses 1 to 4 of `FanStallsAndFaults` are met. -/
theorem test_hyp_FanStallsAndFaults :
    (∃ (n : Fin 12) (at_ : Nat) (s : State),
      Shape s ∧ (s.fan n.val).lrSince = some at_ ∧ s.native = true ∧ s.fanJudged n.val = true ∧ (s.fan n.val).st = FSt.spinup ∧
          at_ + 500000 ≤ (s.fan n.val).spinAt + 3000000) ∧
    (∃ (n : Fin 12) (s : State),
      Shape s ∧ s.native = true ∧ s.fanJudged n.val = true ∧ (s.fan n.val).st = FSt.spinup ∧ s.ppr n.val ≠ 0 ∧
          (s.fan n.val).edgeSeen = false) ∧
    (∃ (n : Fin 12) (s : State),
      Shape s ∧ s.fanJudged n.val = true ∧ (s.fan n.val).faultL = false ∧ s.native = true ∧ s.ppr n.val ≠ 0 ∧
          2 ≤ (s.fan n.val).missed ∧ ((s.fan n.val).st = FSt.running ∨ (s.fan n.val).st = FSt.tachLost) ∧ (∀ (u : Nat),
          (s.fan n.val).openSince = some u → s.now < u + 500000)) ∧
    (∃ (n : Fin 12) (u : Nat) (s : State),
      Shape s ∧ s.fanJudged n.val = true ∧ (s.fan n.val).faultL = false ∧ (s.fan n.val).openSince = some u ∧
          (s.fan n.val).st ≠ FSt.openLoad ∧ (u + 500000 ≤ s.now ∨ (s.fan n.val).missed < 2)) :=
  ⟨⟨11, 0, fanAt 2 2 { st := .spinup, onAt := some 0, lrSince := some 0 } up, by decide +kernel⟩,
   ⟨11, fanAt 2 2 { st := .spinup, onAt := some 0 } up, by decide +kernel⟩,
   ⟨11, fanAt 2 2 { st := .tachLost, onAt := some 0, missed := 2 } up, by decide +kernel, by decide +kernel, by decide +kernel,
       by decide +kernel, by decide +kernel, by decide +kernel, by decide +kernel, fun _ h => nomatch h⟩,
   ⟨11, 0, fanAt 2 2 { st := .running, onAt := some 0, openSince := some 0 } up, by decide +kernel⟩⟩

/-- The hypotheses of clauses 5 to 8 of `FanStallsAndFaults` are met. -/
theorem test_hyp_FanStallsAndFaults_2 :
    (∃ (n : Fin 12) (s : State),
      Shape s ∧ s.deOn = true ∧ s.powered = true ∧ s.native = true ∧ (s.fan n.val).st = FSt.stall ∧ (s.fan n.val).line = false ∧
          fEq (s.fan n.val).target fZero = false ∧ s.fanDrive n.val ≠ 0 ∧ (s.fan n.val).faultL = false) ∧
    (∃ (n : Fin 12) (at_ : Nat) (s : State),
      Shape s ∧ (s.fan n.val).runSince = some at_ ∧ s.deOn = true ∧ (s.fan n.val).st = FSt.running ∧ (s.fan n.val).line = false) ∧
    (∃ (n : Fin 12) (at_ : Nat) (s : State),
      Shape s ∧ (s.fan n.val).slowSince = some at_ ∧ s.native = false ∧ s.fanJudged n.val = true ∧ s.ppr n.val ≠ 0 ∧
          (s.fan n.val).faultL = false ∧ fEq (s.fan n.val).target fZero = false) ∧
    (∃ (n : Fin 12) (at_ : Nat) (s : State),
      Shape s ∧ (s.fan n.val).backSince = some at_ ∧ s.fanJudged n.val = true ∧ (s.fan n.val).st = FSt.openLoad) :=
  ⟨⟨11, fanAt 2 2 { st := .stall, target := f100 } up, by decide +kernel⟩,
   ⟨11, 0, fanAt 2 2 { st := .running, runSince := some 0 } up, by decide +kernel⟩,
   ⟨11, 0, { fanAt 2 2 { st := .running, onAt := some 0, slowSince := some 0, target := f100 } up with mn.profActive := true },
       by decide +kernel⟩,
   ⟨11, 0, fanAt 2 2 { st := .openLoad, onAt := some 0, backSince := some 0 } up, by decide +kernel⟩⟩

/-- The hypotheses of clauses 9 to 10 of `FanStallsAndFaults` are met. -/
theorem test_hyp_FanStallsAndFaults_3 :
    (∃ (n : Fin 12) (s : State),
      Shape s ∧ (s.fan n.val).onAt.isSome = true) ∧
    (∃ (n : Fin 12) (at_ : Nat) (rest : List Nat) (s : State),
      Shape s ∧ (s.fan n.val).trips = at_ :: rest ∧ s.deOn = true ∧ s.powered = true ∧ (s.fan n.val).st = FSt.ocp ∧
          (s.fan n.val).line = false ∧ fEq (s.fan n.val).target fZero = false ∧ s.fanDrive n.val ≠ 0) :=
  ⟨⟨11, fanAt 2 2 { onAt := some 0 } up, by decide +kernel⟩,
   ⟨11, 0, [], fanAt 2 2 { st := .ocp, trips := [0], target := f100 } up, by decide +kernel⟩⟩

/-- The hypotheses of clauses 1 to 4 of `FansStartRunAndStop` are met. -/
theorem test_hyp_FansStartRunAndStop :
    (∃ (n : Nat) (rest : List Nat) (s : State),
      Shape s ∧ n < 12 ∧ s.act.fanWait = n :: rest ∧ s.deOn = true ∧ s.powered = true ∧ s.fanRoom = true ∧
          (s.fan n).faultL = false) ∧
    (∃ (n : Nat) (rest : List Nat) (s : State),
      Shape s ∧ n < 12 ∧ s.act.fanWait = n :: rest ∧ s.deOn = true ∧ s.powered = true ∧ s.fanRoom = true ∧
          (s.fan n).faultL = true) ∧
    (∃ (n : Fin 12) (at_ : Nat) (s : State),
      Shape s ∧ (s.fan n.val).onAt = some at_ ∧ (s.fan n.val).kick = true ∧ s.deOn = true ∧ s.pulseOn n.val = false) ∧
    (∃ (n : Fin 12) (s : State),
      Shape s ∧ s.fanJudged n.val = true ∧ (s.fan n.val).st = FSt.spinup ∧ s.ppr n.val = 0) :=
  ⟨⟨11, [], { fanAt 2 2 { st := .startWait } up with act.fanWait := [11] }, by decide +kernel⟩,
   ⟨11, [], { fanAt 2 2 { st := .startWait, faultL := true } up with act.fanWait := [11] }, by decide +kernel⟩,
   ⟨11, 0, fanAt 2 2 { onAt := some 0, kick := true } up, by decide +kernel⟩,
   ⟨11, fanAt 2 0 { st := .spinup, onAt := some 0 } up, by decide +kernel⟩⟩

/-- The hypotheses of clauses 5 to 8 of `FansStartRunAndStop` are met. -/
theorem test_hyp_FansStartRunAndStop_2 :
    (∃ (n : Fin 12) (s : State),
      Shape s ∧ s.deOn = true ∧ s.fanDrive n.val ≠ 0 ∧ (s.fan n.val).onAt.isSome = true ∧ (s.fan n.val).line = false ∧
          (s.fan n.val).periods ≠ 0 ∧ s.ppr n.val ≠ 0) ∧
    (∃ (n : Fin 12) (s : State),
      Shape s ∧ s.deOn = true ∧ s.fanDrive n.val ≠ 0 ∧ s.fanDrive n.val ≠ 2 ∧ (s.fan n.val).onAt.isSome = true ∧
          (s.fan n.val).line = false ∧ (s.fan n.val).periods = 0) ∧
    (∃ (n : Fin 12) (s : State),
      Shape s ∧ s.deOn = true ∧ s.fanDrive n.val = 2 ∧ (s.fan n.val).onAt.isSome = true ∧ (s.fan n.val).kick = false ∧
          (s.fan n.val).line = false ∧ (s.fan n.val).stretch = none) ∧
    (∃ (n : Fin 12) (s : State),
      Shape s ∧ s.deOn = true ∧ s.ppr n.val ≠ 0 ∧ s.fanOn n.val = true ∧ (s.fan n.val).stretch = none ∧
          (s.fan n.val).pulseAt + s.fc (n.val) Fd.fConf.TACH_BLANK_US ≤ s.now) :=
  ⟨⟨11, fanAt 3 4 { st := .running, onAt := some 0, periods := 1 } up, by decide +kernel⟩,
   ⟨11, fanAt 1 2 { st := .running, onAt := some 0 } up, by decide +kernel⟩,
   ⟨11, fanAt 2 2 { st := .running, onAt := some 0 } up, by decide +kernel⟩,
   ⟨11, { fanAt 2 2 { st := .running, stageOn := true } up with now := 100000 }, by decide +kernel⟩⟩

/-- The hypotheses of clauses 1 to 4 of `FaultsOfTheDomains` are met. -/
theorem test_hyp_FaultsOfTheDomains :
    (∃ (s : State),
      s.guardJudges = true ∧ s.gd.hb ≠ 3) ∧
    (∃ (m : Fin 5) (s : State),
      Shape s ∧ m.val < 3 ∧ s.vsupOk = true ∧ s.mn.phase ≠ Phase.held ∧
          (¬(m.val = 2 ∧ (s.mn.phase = Phase.imageCheck ∨ s.mn.phase = Phase.loading)))) ∧
    (∃ (m : Fin 5) (s : State),
      Shape s ∧ 3 ≤ m.val ∧ s.vsupOk = true) ∧
    (∃ (s : State),
      s.gd.released = true ∧ s.vsupOk = true ∧ s.gd.inReset = none) :=
  ⟨⟨up, by decide +kernel⟩,
   ⟨2, { up with mn.phase := .recall }, by decide +kernel⟩,
   ⟨4, up, by decide +kernel⟩,
   ⟨up, by decide +kernel⟩⟩

/-- The hypotheses of clause 5 of `FaultsOfTheDomains` are met. -/
theorem test_hyp_FaultsOfTheDomains_2 :
    (∃ (cause : Nat) (s : State),
      Shape s ∧ s.gd.inReset = some cause ∧ s.pw.guardLost = false ∧ s.vsupOk = true) :=
  ⟨1, { up with gd.inReset := some 1 }, by decide +kernel⟩

/-- The hypotheses of clauses 1 to 4 of `ForcedSpeedAndAnalogOutputs` are met. -/
theorem test_hyp_ForcedSpeedAndAnalogOutputs :
    (∃ (n : Fin 12) (at_ : Nat) (p : Nat) (s : State),
      (s.fan n.val).ctrlBad = some at_ ∧ s.ctrlPt n.val = some p ∧ Shape s ∧ s.zonesRun = true ∧ (s.fan n.val).ctrlSent = false ∧
          s.fanDrive n.val ≠ 0 ∧ at_ + s.fc (n.val) Fd.fConf.CTRL_FAIL_S * 1000000 ≤ s.per.t0) ∧
    (∃ (n : Fin 12) (p : Nat) (s : State),
      s.ctrlPt n.val = some p ∧ Shape s ∧ s.zonesRun = true ∧ (s.fan n.val).ctrlSent = true ∧ (s.fan n.val).ctrlGood = true) ∧
    (∃ (s : State),
      Shape s ∧ s.act.critArmed = true ∧ s.act.critOn = false ∧ s.vsupOk = true) ∧
    (∃ (s : State),
      Shape s ∧ s.act.critOn = true) :=
  ⟨⟨11, 0, 159, { put (fanObj 11 0x020) Fd.fConf.CTRL_PT 159 (fanAt 2 2 { ctrlBad := some 0 } up) with per.t0 := 1000000 },
      by decide +kernel⟩,
   ⟨11, 159, put (fanObj 11 0x020) Fd.fConf.CTRL_PT 159 (fanAt 2 2 { ctrlSent := true, ctrlGood := true } up), by decide +kernel⟩,
   ⟨{ up with act.critArmed := true }, by decide +kernel⟩,
   ⟨{ up with act.critOn := true }, by decide +kernel⟩⟩

/-- The hypotheses of clauses 5 to 7 of `ForcedSpeedAndAnalogOutputs` are met. -/
theorem test_hyp_ForcedSpeedAndAnalogOutputs_2 :
    (∃ (_ : Fin 16) (_ : Fin 65536) (s : State),
      Shape s ∧ s.deOn = true) ∧
    (∃ (n : Fin 16) (mv : Fin 65536) (at_ : Nat) (s : State),
      Shape s ∧ s.deOn = true ∧ (s.ao n.val).fault = false ∧ (s.ao n.val).devSince = some at_ ∧ s.aoDiffers n.val mv.val = true) ∧
    (∃ (n : Fin 16) (mv : Fin 65536) (at_ : Nat) (s : State),
      Shape s ∧ s.deOn = true ∧ (s.ao n.val).fault = true ∧ (s.ao n.val).okSince = some at_ ∧ s.aoOff n.val mv.val = false) :=
  ⟨⟨15, 65535, up, by decide +kernel⟩,
   ⟨15, 10000, 0, up.modAo 15 fun _ => { enabled := true, devSince := some 0 }, by decide +kernel⟩,
   ⟨15, 0, 5, up.modAo 15 fun _ => { fault := true, okSince := some 5 }, by decide +kernel⟩⟩

/-- The hypotheses of the clauses of `FramesInsideTheBlock` are met. -/
theorem test_hyp_FramesInsideTheBlock :
    (∃ (c : Instr),
      Part.cans ∉ writesOf c ∧ Part.fabric ∉ writesOf c) ∧
    (∃ (n : Fin 12) (c : Instr) (s : State) (t : State) (m : Nat),
      c ∈ [Instr.kickEnd n, Instr.fanBackoffReset n, Instr.fanOpenLoadEnd n, Instr.tachEdge n] ∧ exec c s = Host.Outcome.next t ∧
          m ≠ n.val) ∧
    (∃ (z : Fin 32) (s : State) (t : State) (y : Nat),
      exec (Instr.doorWindowExpiry z) s = Host.Outcome.next t ∧ y ≠ z.val) :=
  ⟨⟨.crcStart, by decide +kernel⟩,
   ⟨11, .kickEnd 11, State.reset, State.reset, 10, by decide +kernel, rfl, by decide +kernel⟩,
   ⟨31, State.reset, State.reset, 30, rfl, by decide +kernel⟩⟩

/-- The hypotheses of clauses 1 to 4 of `FramesOfLinkAndFabric` are met. -/
theorem test_hyp_FramesOfLinkAndFabric :
    (∃ (c : Instr),
      (Part.cans ∈ writesOf c ∨ Part.fabric ∈ writesOf c)) ∧
    (∃ (p : Fin 3) (c : Instr) (s : State) (t : State) (q : Nat),
      (c ∈ [Instr.canBusOff p, Instr.canRecovered p, Instr.canTxdTimeout p, Instr.busIntegration p, Instr.send p, Instr.rawAbort p,
          Instr.pop p] ∨ (∃ r,
          c = Instr.canTxStart p r ∨ c = Instr.ttWindowStart p r ∨ c = Instr.ttCycleStart { port := p, ram := r } ∨ c =
          Instr.segmentAloneSend { port := p, ram := r }) ∨ (∃ r, c = Instr.canTxDone p r) ∨ ∃ l i, c = Instr.canRxError p l i) ∧
          exec c s = Host.Outcome.next t ∧ q ≠ p.val) ∧
    (∃ (n : Nat) (op : Nat) (k : Task) (c : Instr) (s : State) (t : State),
      (c, op) ∈ plainRows ++ windowRows ∧ Shape s ∧ MemOk s ∧ Due s op n k ∧ exec c s = Host.Outcome.next t) ∧
    (∃ (n : Nat) (op : Nat) (k : Task) (c : Instr) (s : State) (t : State) (b : List Byte) (a : Nat),
      (c, op) ∈ plainRows ++ windowRows ∧ Shape s ∧ MemOk s ∧ Due s op n k ∧ exec c s = Host.Outcome.next t ∧
          t.host.kept.getD n none = some (k.hdr.seq, b) ∧ (a < 256 * n ∨ 256 * n + b.length ≤ a)) :=
  ⟨⟨.ping, by decide +kernel⟩,
   ⟨2, .segmentAloneSend ⟨2, none⟩, State.reset, State.reset, 1, Or.inr (Or.inl ⟨none, by simp⟩), rfl, by decide +kernel⟩,
   ⟨7, 0, task (ask 0 sysIdent [] up), .ping, (ask 0 sysIdent [] up), after .ping (ask 0 sysIdent [] up), by decide +kernel,
       by decide +kernel, by decide +kernel, dueOf rfl (by decide +kernel), afterOf (by decide +kernel)⟩,
   ⟨7, 0, task (ask 0 sysIdent [] up), .ping, (ask 0 sysIdent [] up), after .ping (ask 0 sysIdent [] up),
       keptOf (after .ping (ask 0 sysIdent [] up)) 7, 1791, by decide +kernel, by decide +kernel, by decide +kernel,
       dueOf rfl (by decide +kernel), afterOf (by decide +kernel), by decide +kernel⟩⟩

/-- The hypotheses of clauses 5 to 7 of `FramesOfLinkAndFabric` are met. -/
theorem test_hyp_FramesOfLinkAndFabric_2 :
    (∃ (n : Nat) (op : Nat) (k : Task) (c : Instr) (s : State) (t : State),
      (c, op) ∈ plainRows ++ windowRows ∧ Shape s ∧ MemOk s ∧ Due s op n k ∧ exec c s = Host.Outcome.next t ∧
          bitOf t.host.busy n = true) ∧
    (∃ (n : Nat) (op : Nat) (k : Task) (c : Instr) (s : State) (t : State),
      (c, op) ∈ plainRows ++ windowRows ∧ Shape s ∧ MemOk s ∧ Due s op n k ∧ exec c s = Host.Outcome.next t ∧ (c, op) ∈ plainRows) ∧
    (∃ (n : Nat) (op : Nat) (k : Task) (c : Instr) (s : State) (t : State) (a : Nat),
      (c, op) ∈ plainRows ++ windowRows ∧ Shape s ∧ MemOk s ∧ Due s op n k ∧ exec c s = Host.Outcome.next t ∧
          (a < s.descAt (leAt k.payload 0 1) ∨ s.descAt (leAt k.payload 0 1) + 8 ≤ a) ∧
          (a < s.descBase (leAt k.payload 0 1) ∨ s.descBase (leAt k.payload 0 1) + s.descSize (leAt k.payload 0 1) ≤ a)) :=
  ⟨⟨7, 0x20, task (ask 0x20 sysIdent ([63#8, 8#8] ++ leBytes 2 0 ++ leBytes 4 0 ++ leBytes 4 1) (descAt 2 0 0 up)), .xferRead,
      (ask 0x20 sysIdent ([63#8, 8#8] ++ leBytes 2 0 ++ leBytes 4 0 ++ leBytes 4 1) (descAt 2 0 0 up)),
      after .xferRead (ask 0x20 sysIdent ([63#8, 8#8] ++ leBytes 2 0 ++ leBytes 4 0 ++ leBytes 4 1) (descAt 2 0 0 up)),
      by decide +kernel, by decide +kernel, by decide +kernel, dueOf rfl (by decide +kernel), afterOf (by decide +kernel),
      by decide +kernel⟩,
   ⟨7, 0, task (ask 0 sysIdent [] up), .ping, (ask 0 sysIdent [] up), after .ping (ask 0 sysIdent [] up), by decide +kernel,
       by decide +kernel, by decide +kernel, dueOf rfl (by decide +kernel), afterOf (by decide +kernel), by decide +kernel⟩,
   ⟨7, 0x22, task (ask 0x22 sysIdent ([63#8, 0#8, 0#8, 8#8] ++ leBytes 8 0 ++ leBytes 4 255) (descAt 2 0 0 up)), .checkval,
       (ask 0x22 sysIdent ([63#8, 0#8, 0#8, 8#8] ++ leBytes 8 0 ++ leBytes 4 255) (descAt 2 0 0 up)),
       after .checkval (ask 0x22 sysIdent ([63#8, 0#8, 0#8, 8#8] ++ leBytes 8 0 ++ leBytes 4 255) (descAt 2 0 0 up)), 768,
       by decide +kernel, by decide +kernel, by decide +kernel, dueOf rfl (by decide +kernel), afterOf (by decide +kernel),
       by decide +kernel⟩⟩

/-- The hypotheses of clauses 1 to 4 of `HostRegisters` are met. -/
theorem test_hyp_HostRegisters :
    (∃ (_ : Word) (s : State),
      HostQuiet s) ∧
    (∃ (_ : Bool) (_ : Word) (s : State),
      HostQuiet s) ∧
    (∃ (_ : Word) (s : State),
      HostQuiet s ∧ s.serves = false) ∧
    (∃ (_ : Word) (s : State),
      HostQuiet s ∧ s.host.window.wf = true) :=
  ⟨⟨0xFFFFFFFF#32, up, quietOf (by decide +kernel)⟩,
   ⟨true, 1#32, up, quietOf (by decide +kernel)⟩,
   ⟨1#32, { State.reset with mn.phase := .imageCheck }, quietOf (by decide +kernel), by decide +kernel⟩,
   ⟨0x1FF#32, descAt 1 0 0 up, quietOf (by decide +kernel), by decide +kernel⟩⟩

/-- The hypotheses of clauses 5 to 8 of `HostRegisters` are met. -/
theorem test_hyp_HostRegisters_2 :
    (∃ (reg : Fin 16) (l : List Byte) (s : State),
      HostQuiet s ∧ l.length = 4 ∧ reg.val ∈ [4, 7, 8, 9, 10]) ∧
    (∃ (reg : Fin 16) (l : List Byte) (s : State),
      HostQuiet s ∧ l.length = 4 ∧ reg.val = 5) ∧
    (∃ (reg : Fin 16) (l : List Byte) (s : State),
      HostQuiet s ∧ l.length = 4 ∧ reg.val = 11) ∧
    (∃ (reg : Fin 16) (l : List Byte) (s : State),
      HostQuiet s ∧ l.length = 4 ∧ reg.val ∈ [0, 1, 2, 3, 6, 12, 13, 14, 15]) :=
  ⟨⟨10, leBytes 4 1, up, quietOf (by decide +kernel), by decide +kernel⟩,
   ⟨5, leBytes 4 0x80000000, up, quietOf (by decide +kernel), by decide +kernel⟩,
   ⟨11, leBytes 4 1, descAt 0 0 0 up, quietOf (by decide +kernel), by decide +kernel⟩,
   ⟨15, leBytes 4 1, up, quietOf (by decide +kernel), by decide +kernel⟩⟩

/-- The hypotheses of clause 9 of `HostRegisters` are met. -/
theorem test_hyp_HostRegisters_3 :
    (∃ (_ : Fin 16) (l : List Byte) (s : State),
      HostQuiet s ∧ 0 < l.length ∧ l.length < 4) :=
  ⟨15, leBytes 3 1, up, quietOf (by decide +kernel), by decide +kernel⟩

/-- The hypotheses of clauses 1 to 4 of `NeighboursRoutesAndRelays` are met. -/
theorem test_hyp_NeighboursRoutesAndRelays :
    (∃ (p : Fin 3) (node : Fin 4096) (n : Nbr) (s : State),
      s.fb.losses.length = 3 ∧ s.jnOn = true ∧ List.find? (fun x => x.port == p.val && x.node == node.val) s.fb.nbrs = some n) ∧
    (∃ (r : Nat × Nat × Nat) (s : State),
      s.jnOn = true ∧ s.fb.root = some r ∧ r.2.1 ≠ ownUid) ∧
    (∃ (k : Fin 8192) (r : Route) (s : State),
      s.jnOn = true ∧ rtGet s.fb.shadow k.val = some r) ∧
    (∃ (node : Fin 4096) (seqn : Fin 4096) (x : Xact) (s : State),
      List.find? (fun y => y.node == node.val && y.seq == seqn.val) s.fb.xacts = some x ∧ s.jnOn = true ∧ x.body ≠ []) :=
  ⟨⟨2, 4095,
      ({ node := 4095, port := 2, uid := 1, xf := 1, stratum := 0, tmPrio := 0, rootPrio := 0, rootUid := 1, rootNode := 1, periodMs := 1000, conflict := false, masterHere := false, wallValid := false, wallEpoch := 0, heardAt := 0 }),
      { net with fb.nbrs := [({ node := 4095, port := 2, uid := 1, xf := 1, stratum := 0, tmPrio := 0, rootPrio := 0, rootUid := 1, rootNode := 1, periodMs := 1000, conflict := false, masterHere := false, wallValid := false, wallEpoch := 0, heardAt := 0 })] },
      by decide +kernel⟩,
   ⟨(0, (ownUid + 1) % 2 ^ 64, 9), { net with fb.root := some (0, (ownUid + 1) % 2 ^ 64, 9) }, by decide +kernel, rfl,
       by show (Config.uid.toNat + 1) % 2 ^ 64 ≠ Config.uid.toNat; omega⟩,
   ⟨8191, { st := 1 }, { net with fb.shadow := [(8191, { st := 1 })] }, by decide +kernel⟩,
   ⟨4095, 4095,
       ({ node := 4095, seq := 4095, body := [1#8], since := 0, lastAt := 0, tmoMs := 10, hdr := { origin := .host 7, opcode := 0x40, seq := 1, object := 0 }, hops := 1, ver := 1 }),
       { net with fb.xacts := [({ node := 4095, seq := 4095, body := [1#8], since := 0, lastAt := 0, tmoMs := 10, hdr := { origin := .host 7, opcode := 0x40, seq := 1, object := 0 }, hops := 1, ver := 1 })] },
       by decide +kernel⟩⟩

/-- The hypotheses of clauses 5 to 8 of `NeighboursRoutesAndRelays` are met. -/
theorem test_hyp_NeighboursRoutesAndRelays_2 :
    (∃ (node : Fin 4096) (seqn : Fin 4096) (x : Xact) (s : State),
      List.find? (fun y => y.node == node.val && y.seq == seqn.val) s.fb.xacts = some x) ∧
    (∃ (src : Fin 4096) (seqn : Fin 4096) (q : PartXact) (s : State),
      List.find? (fun y => y.src == src.val && y.seq == seqn.val) s.fb.parts = some q) ∧
    (∃ (s : State),
      s.jnOn = true ∧ s.fb.node ≠ 0) ∧
    (∃ (node : Fin 4096) (x : Subscr) (s : State),
      List.find? (fun y => y.node == node.val) s.fb.subs = some x) :=
  ⟨⟨4095, 4095,
      ({ node := 4095, seq := 4095, body := [1#8], since := 0, lastAt := 0, tmoMs := 10, hdr := { origin := .host 7, opcode := 0x40, seq := 1, object := 0 }, hops := 1, ver := 1 }),
      { net with fb.xacts := [({ node := 4095, seq := 4095, body := [1#8], since := 0, lastAt := 0, tmoMs := 10, hdr := { origin := .host 7, opcode := 0x40, seq := 1, object := 0 }, hops := 1, ver := 1 })] },
      by decide +kernel⟩,
   ⟨4095, 4095, ({ src := 4095, seq := 4095, request := true, count := 2, frags := [], since := 0 }),
       { net with fb.parts := [({ src := 4095, seq := 4095, request := true, count := 2, frags := [], since := 0 })] },
       by decide +kernel⟩,
   ⟨net, by decide +kernel⟩,
   ⟨4095, ({ node := 4095, mask := 1, at_ := 0 }), { net with fb.subs := [({ node := 4095, mask := 1, at_ := 0 })] },
       by decide +kernel⟩⟩

/-- The hypotheses of clause 9 of `NeighboursRoutesAndRelays` are met. -/
theorem test_hyp_NeighboursRoutesAndRelays_3 :
    (∃ (s : State),
      s.jnOn = true ∧ s.fb.node ≠ 0 ∧ s.fb.conflict = false ∧ s.per.running = true ∧ s.fb.bsSent ≠ some s.per.count) :=
  ⟨net, by decide +kernel⟩

/-- The hypotheses of clauses 1 to 4 of `ObjectCommands` are met. -/
theorem test_hyp_ObjectCommands :
    (∃ (n : Nat) (k : Task) (g : Grp) (s : State),
      Shape s ∧ MemOk s ∧ grpOf k.hdr.object = some g ∧ Due s 16 n k) ∧
    (∃ (n : Nat) (k : Task) (g : Grp) (s : State) (v : Nat × Nat),
      Shape s ∧ MemOk s ∧ grpOf k.hdr.object = some g ∧ Due s 17 n k ∧ k.hdr.object ≠ profObj ∧ Zeros k.payload [2, 3] ∧
          leAt k.payload 0 2 % 4 = 0 ∧ leAt k.payload 0 2 + 4 ≤ k.len ∧
          (Taken s).writeCheck k.hdr.object g ((Taken s).completeWords k.hdr.object
          (List.take g.words (wordsOf (List.drop 4 k.payload) (leAt k.payload 0 2 / 4)))) = some v ∧ v.1 ≠ stOk ∧ v.1 ≠ stPartial) ∧
    (∃ (n : Nat) (k : Task) (g : Grp) (s : State),
      Shape s ∧ MemOk s ∧ grpOf k.hdr.object = some g ∧ Due s 17 n k ∧ k.hdr.object ≠ profObj ∧ Zeros k.payload [2, 3] ∧
          leAt k.payload 0 2 % 4 = 0 ∧ leAt k.payload 0 2 + 4 ≤ k.len ∧
          (Taken s).writeCheck k.hdr.object g ((Taken s).completeWords k.hdr.object
          (List.take g.words (wordsOf (List.drop 4 k.payload) (leAt k.payload 0 2 / 4)))) = none ∧
          (Taken s).completeWords k.hdr.object (List.take g.words (wordsOf (List.drop 4 k.payload) (leAt k.payload 0 2 / 4))) ≠ [] ∧
          objCls k.hdr.object ≠ 9 ∧ objCls k.hdr.object ≠ 15 ∧
          (Taken s).takesOf k.hdr.object g ((Taken s).completeWords k.hdr.object
          (List.take g.words (wordsOf (List.drop 4 k.payload) (leAt k.payload 0 2 / 4)))) = 1) ∧
    (∃ (n : Nat) (k : Task) (g : Grp) (s : State),
      Shape s ∧ MemOk s ∧ grpOf k.hdr.object = some g ∧ Due s 17 n k ∧ k.hdr.object ≠ profObj ∧ Zeros k.payload [2, 3] ∧
          leAt k.payload 0 2 % 4 = 0 ∧ leAt k.payload 0 2 + 4 ≤ k.len ∧
          (Taken s).writeCheck k.hdr.object g ((Taken s).completeWords k.hdr.object
          (List.take g.words (wordsOf (List.drop 4 k.payload) (leAt k.payload 0 2 / 4)))) = none ∧
          (Taken s).completeWords k.hdr.object (List.take g.words (wordsOf (List.drop 4 k.payload) (leAt k.payload 0 2 / 4))) ≠ [] ∧
          objCls k.hdr.object = 1 ∧ objGrp k.hdr.object = 80) :=
  ⟨⟨7, task (ask 0x10 sysIdent [] up), grpIdent, (ask 0x10 sysIdent [] up), by decide +kernel, by decide +kernel, by decide +kernel,
      dueOf rfl (by decide +kernel)⟩,
   ⟨7, task (ask 0x11 (znObj 31 0x020) (leBytes 2 8 ++ [0#8, 0#8] ++ leBytes 8 0) up), grpZnConf,
       (ask 0x11 (znObj 31 0x020) (leBytes 2 8 ++ [0#8, 0#8] ++ leBytes 8 0) up), (stRange, 25), by decide +kernel,
       by decide +kernel, by decide +kernel, dueOf rfl (by decide +kernel), by decide +kernel⟩,
   ⟨7, task (ask 0x11 (znObj 31 0x020) (leBytes 2 8 ++ [0#8, 0#8] ++ bytesOfWords grpZnConf.dfltWords) up), grpZnConf,
       (ask 0x11 (znObj 31 0x020) (leBytes 2 8 ++ [0#8, 0#8] ++ bytesOfWords grpZnConf.dfltWords) up), by decide +kernel,
       by decide +kernel, by decide +kernel, dueOf rfl (by decide +kernel), by decide +kernel⟩,
   ⟨7, task (ask 0x11 (znObj 31 0x050) (leBytes 2 (4 * grpZnSp.words) ++ [0#8, 0#8] ++ bytesOfWords grpZnSp.dfltWords) up), grpZnSp,
       (ask 0x11 (znObj 31 0x050) (leBytes 2 (4 * grpZnSp.words) ++ [0#8, 0#8] ++ bytesOfWords grpZnSp.dfltWords) up),
       by decide +kernel, by decide +kernel, by decide +kernel, dueOf rfl (by decide +kernel), by decide +kernel⟩⟩

/-- The hypotheses of clauses 5 to 7 of `ObjectCommands` are met. -/
theorem test_hyp_ObjectCommands_2 :
    (∃ (n : Nat) (k : Task) (g : Grp) (s : State),
      Shape s ∧ MemOk s ∧ grpOf k.hdr.object = some g ∧ Due s 18 n k ∧ g.hasRw = false) ∧
    (∃ (n : Nat) (k : Task) (g : Grp) (s : State),
      Shape s ∧ MemOk s ∧ grpOf k.hdr.object = some g ∧ Due s 18 n k ∧ g.hasRw = true ∧ k.hdr.object ≠ profObj ∧
          objCls k.hdr.object ≠ 9 ∧ objCls k.hdr.object ≠ 15 ∧
          (Taken s).writeCheck k.hdr.object g ((Taken s).completeWords k.hdr.object (List.take g.words g.dfltWords)) = none ∧
          (Taken s).completeWords k.hdr.object (List.take g.words g.dfltWords) ≠ [] ∧
          (Taken s).takesOf k.hdr.object g ((Taken s).completeWords k.hdr.object (List.take g.words g.dfltWords)) = 1) ∧
    (∃ (n : Nat) (k : Task) (g : Grp) (s : State),
      Shape s ∧ MemOk s ∧ grpOf k.hdr.object = some g ∧ Due s 19 n k ∧ leAt k.payload 0 1 ≤ 1 ∧ Zeros k.payload [1]) :=
  ⟨⟨7, task (ask 0x12 sysIdent [] up), grpIdent, (ask 0x12 sysIdent [] up), by decide +kernel, by decide +kernel, by decide +kernel,
      dueOf rfl (by decide +kernel), by decide +kernel⟩,
   ⟨7, task (ask 0x12 (znObj 31 0x020) [] up), grpZnConf, (ask 0x12 (znObj 31 0x020) [] up), by decide +kernel, by decide +kernel,
       by decide +kernel, dueOf rfl (by decide +kernel), by decide +kernel⟩,
   ⟨7, task (ask 0x13 sysIdent (leBytes 4 1) up), grpIdent, (ask 0x13 sysIdent (leBytes 4 1) up), by decide +kernel,
       by decide +kernel, by decide +kernel, dueOf rfl (by decide +kernel), by decide +kernel⟩⟩

/-- The hypotheses of the clauses of `PeriodStartsAtT0` are met. -/
theorem test_hyp_PeriodStartsAtT0 :
    (∃ (s : State),
      s.periodsRun = true ∧ s.per.running = true ∧ s.per.inCo = true) ∧
    (∃ (s : State),
      s.periodsRun = true ∧ s.per.running = false ∧ (s.per.rejoin = true ∨ s.fb.heardAny = false ∨ s.jnOn = false)) ∧
    (∃ (s : State),
      s.periodsRun = true ∧ s.per.running = false ∧ s.per.rejoin = false ∧ s.fb.heardAny = true ∧ s.jnOn = true ∧
          s.fb.timed = true) :=
  ⟨⟨{ up with per.inCo := true }, by decide +kernel⟩,
   ⟨{ up with per.running := false }, by decide +kernel⟩,
   ⟨{ net with per.running := false, fb.heardAny := true, fb.timed := true }, by decide +kernel⟩⟩

/-- The hypotheses of clauses 1 to 4 of `ProofsAndFaultsOfTheValves` are met. -/
theorem test_hyp_ProofsAndFaultsOfTheValves :
    (∃ (ch : Fin 24) (b : Nat) (s : State),
      Shape s ∧ s.gangBase ch.val = some b ∧ s.deOn = true ∧ (s.vlv b).st = VSt.reg ∧ (s.vlv b).verdict ≠ 7) ∧
    (∃ (ch : Fin 24) (b : Nat) (s : State),
      Shape s ∧ s.gangBase ch.val = some b ∧ s.deOn = true ∧ (s.vlv b).st = VSt.reg ∧ (s.vlv b).verdict = 7) ∧
    (∃ (s : State),
      s.deOn = true) ∧
    (∃ (ch : Fin 24) (b : Nat) (s : State),
      Shape s ∧ s.gangBase ch.val = some b ∧ ((s.vlv b).st = VSt.pullin ∨ (s.vlv b).st = VSt.reg)) :=
  ⟨⟨23, 23, gangAt 23 1 { st := .reg } up, by decide +kernel⟩,
   ⟨23, 23, gangAt 23 1 { st := .reg, verdict := 7 } up, by decide +kernel⟩,
   ⟨up, by decide +kernel⟩,
   ⟨23, 22, gangAt 22 2 { st := .pullin } up, by decide +kernel⟩⟩

/-- The hypotheses of clauses 5 to 8 of `ProofsAndFaultsOfTheValves` are met. -/
theorem test_hyp_ProofsAndFaultsOfTheValves_2 :
    (∃ (ch : Fin 24) (b : Nat) (s : State),
      Shape s ∧ s.gangBase ch.val = some b ∧ s.deOn = true ∧ ((s.vlv b).st = VSt.pullin ∨ (s.vlv b).st = VSt.reg)) ∧
    (∃ (ch : Fin 24) (_ : Fin 65536) (s : State),
      Shape s ∧ s.mayStroke ch.val = true ∧ (s.vlv ch.val).fault = 2 ∧ (s.vlv ch.val).st = VSt.off ∧
          fEq (s.vlv ch.val).cmd fZero = false) ∧
    (∃ (g : Fin 4) (s : State),
      Shape s ∧ (s.vgrp g.val).hsOff = none ∧ (s.vgrp g.val).latched = false ∧ s.powered = true) ∧
    (∃ (g : Fin 4) (_ : Fin 65536) (at_ : Nat) (s : State),
      Shape s ∧ (s.vgrp g.val).hsOff = some at_ ∧ (s.vgrp g.val).latched = false ∧ s.deOn = true) :=
  ⟨⟨21, 18, gangAt 18 3 { st := .reg } up, by decide +kernel⟩,
   ⟨23, 65535, gangAt 23 1 { fault := 2, cmd := f100 } up, by decide +kernel⟩,
   ⟨3, up, by decide +kernel⟩,
   ⟨3, 24000, 0, up.modGrp 3 fun _ => { hsOff := some 0 }, by decide +kernel⟩⟩

/-- The hypotheses of clauses 9 to 10 of `ProofsAndFaultsOfTheValves` are met. -/
theorem test_hyp_ProofsAndFaultsOfTheValves_3 :
    (∃ (ch : Fin 24) (mw : Fin 65536) (b : Nat) (s : State),
      Shape s ∧ s.gangBase ch.val = some b ∧ s.deOn = true ∧ 500 < mw.val ∧ (s.vlv ch.val).clampLim = false) ∧
    (∃ (ch : Fin 24) (mw : Fin 65536) (b : Nat) (s : State),
      Shape s ∧ s.gangBase ch.val = some b ∧ s.deOn = true ∧ mw.val < 400 ∧ (s.vlv ch.val).clampLim = true) :=
  ⟨⟨23, 501, 23, gangAt 23 1 {} up, by decide +kernel⟩,
   ⟨23, 399, 23, gangAt 23 1 { clampLim := true } up, by decide +kernel⟩⟩

/-- The hypotheses of clauses 1 to 4 of `PulseUnitAndProveStrokes` are met. -/
theorem test_hyp_PulseUnitAndProveStrokes :
    (∃ (b : Nat) (s : State),
      Shape s ∧ s.depotRegs = true ∧ s.deOn = true ∧ s.pulseDenied = false ∧ s.act.pulse.busy = false ∧ s.pulseCfgErr = false ∧
          s.pulseGang = some b ∧ (s.vlv b).st = VSt.off ∧ s.mayStroke b = true) ∧
    (∃ (n : Nat) (s : State),
      Shape s ∧ s.depotRegs = true ∧ s.deOn = true ∧ s.pulseDenied = false ∧ s.act.pulse.busy = false ∧ s.pulseCfgErr = false ∧
          s.pulseGang = none ∧ s.pulseFan = some n ∧ (s.fan n).onAt = none ∧ (s.fan n).faultL = false ∧ s.powered = true) ∧
    (∃ (s : State),
      (s.act.pulse.busy = true ∨ s.pulseCfgErr = true ∨ s.pulseDenied = true)) ∧
    (∃ (b : Nat) (s : State),
      Shape s ∧ s.depotRegs = true ∧ s.deOn = true ∧ s.act.pulse.busy = true ∧ s.act.pulse.decaying = false ∧ s.pulseGang = some b ∧
          (s.vlv b).why = Stroke.pulse ∧ (s.vlv b).st = VSt.pullin) :=
  ⟨⟨23, { gangAt 23 1 {} dep with act.pulse.target := 23 }, by decide +kernel⟩,
   ⟨11, { fanAt 2 2 {} dep with act.pulse.target := 0x4B }, by decide +kernel⟩,
   ⟨{ dep with act.pulse.busy := true }, by decide +kernel⟩,
   ⟨23, { gangAt 23 1 { st := .pullin, why := .pulse } dep with act.pulse.run := 23, act.pulse.busy := true }, by decide +kernel⟩⟩

/-- The hypotheses of clauses 5 to 8 of `PulseUnitAndProveStrokes` are met. -/
theorem test_hyp_PulseUnitAndProveStrokes_2 :
    (∃ (b : Nat) (s : State),
      Shape s ∧ s.depotRegs = true ∧ s.deOn = true ∧ s.act.pulse.busy = true ∧ s.act.pulse.decaying = false ∧ s.pulseGang = some b ∧
          (s.vlv b).why = Stroke.pulse ∧ (s.vlv b).st = VSt.defer) ∧
    (∃ (b : Nat) (at_ : Nat) (s : State),
      Shape s ∧ s.act.pulse.startAt = some at_ ∧ s.deOn = true ∧ s.act.pulse.busy = true ∧ s.act.pulse.decaying = false ∧
          s.pulseGang = some b ∧ (s.vlv b).why = Stroke.pulse ∧ (s.vlv b).st = VSt.pullin) ∧
    (∃ (n : Nat) (at_ : Nat) (s : State),
      Shape s ∧ s.act.pulse.startAt = some at_ ∧ s.deOn = true ∧ s.act.pulse.busy = true ∧ s.act.pulse.decaying = false ∧
          s.pulseGang = none ∧ s.pulseFan = some n) ∧
    (∃ (ch : Fin 24) (p : Prove) (s : State),
      Shape s ∧ s.deOn = true ∧ List.find? (fun q => q.gang == ch.val && q.pullEnd.isSome) s.act.proves = some p) :=
  ⟨⟨23, { gangAt 23 1 { st := .defer, why := .pulse } dep with act.pulse.run := 23, act.pulse.busy := true }, by decide +kernel⟩,
   ⟨23, 0, { gangAt 23 1 { st := .pullin, why := .pulse } dep with act.pulse.run := 23, act.pulse.busy := true, act.pulse.startAt := some 0 },
       by decide +kernel⟩,
   ⟨11, 0, { fanAt 2 2 { onAt := some 0 } dep with act.pulse.run := 0x4B, act.pulse.busy := true, act.pulse.startAt := some 0 },
       by decide +kernel⟩,
   ⟨23, ({ gang := 23, since := 0, started := true, pullEnd := some 0 }),
       { gangAt 23 1 { why := .prove, st := .decay } up with act.proves := [({ gang := 23, since := 0, started := true, pullEnd := some 0 })] },
       by decide +kernel⟩⟩

/-- The hypotheses of clause 9 of `PulseUnitAndProveStrokes` are met. -/
theorem test_hyp_PulseUnitAndProveStrokes_3 :
    (∃ (ch : Fin 24) (p : Prove) (s : State),
      Shape s ∧ List.find? (fun q => q.gang == ch.val && !q.started && !q.answered) s.act.proves = some p) :=
  ⟨23, ({ gang := 23, since := 0 }), { up with act.proves := [({ gang := 23, since := 0 })] }, by decide +kernel⟩

/-- The hypotheses of clauses 1 to 4 of `RawCanAccess` are met. -/
theorem test_hyp_RawCanAccess :
    (∃ (p : Fin 3) (s : State),
      Shape s ∧ s.depotOpen = true ∧ (s.port p.val).raw.result ≠ 1 ∧ (s.port p.val).item false 31 = none ∧
          dlcLen (s.port p.val).raw.frame.fdf (s.port p.val).raw.frame.dlc ≤ elemSize (s.cf (cnObj p.val) Fd.cnConf.TXE_SIZE) ∧
          (¬((s.port p.val).raw.frame.fdf = true ∧ (s.port p.val).raw.frame.rtr = true)) ∧
          ((s.port p.val).raw.frame.fdf = true → s.cfb (cnObj p.val) Fd.cnConf.FD_EN = true) ∧
          ((s.port p.val).raw.frame.brs = true → s.cfb (cnObj p.val) Fd.cnConf.BRS_EN = true) ∧
          ((s.port p.val).raw.frame.xtd = true ∨ (s.port p.val).raw.frame.id ≤ 2047)) ∧
    (∃ (p : Fin 3) (s : State),
      Shape s ∧ s.depotOpen = true ∧ (s.port p.val).raw.result ≠ 1 ∧ (s.port p.val).item false 31 = none ∧
          elemSize (s.cf (cnObj p.val) Fd.cnConf.TXE_SIZE) < dlcLen (s.port p.val).raw.frame.fdf (s.port p.val).raw.frame.dlc) ∧
    (∃ (p : Fin 3) (s : State),
      s.depotOpen = true ∧ (s.port p.val).raw.result = 1) ∧
    (∃ (p : Fin 3) (it : TxItem) (s : State),
      Shape s ∧ s.depotOpen = true ∧ (s.port p.val).item false 31 = some it ∧ it.use = TxUse.raw ∧ (s.port p.val).air ≠ some (false,
          31) ∧ (s.port p.val).qFabo = [] ∧ (s.port p.val).backlog = []) :=
  ⟨⟨2, dep, by decide +kernel⟩,
   ⟨2, put (cnObj 2) Fd.cnConf.TXE_SIZE 0 (portAt { raw := { hdr := 2 ^ 30, dlc := 15 } } dep), by decide +kernel⟩,
   ⟨2, portAt { raw := { result := 1 } } dep, by decide +kernel⟩,
   ⟨2, ({ queue := false, idx := 31, frame := {}, use := .raw }),
       portAt { tx := [({ queue := false, idx := 31, frame := {}, use := .raw })] } dep, by decide +kernel⟩⟩

/-- The hypotheses of clauses 5 to 6 of `RawCanAccess` are met. -/
theorem test_hyp_RawCanAccess_2 :
    (∃ (p : Fin 3) (it : TxItem) (s : State),
      Shape s ∧ s.depotOpen = true ∧ (s.port p.val).item false 31 = some it ∧ it.use = TxUse.raw ∧ (s.port p.val).air = some (false,
          31)) ∧
    (∃ (_ : Fin 3) (s : State),
      Shape s ∧ s.depotOpen = true) :=
  ⟨⟨2, ({ queue := false, idx := 31, frame := {}, use := .raw }),
      portAt { tx := [({ queue := false, idx := 31, frame := {}, use := .raw })], air := some (false, 31) } dep, by decide +kernel⟩,
   ⟨2, dep, by decide +kernel⟩⟩

/-- The hypotheses of clauses 1 to 4 of `RecordCommands` are met. -/
theorem test_hyp_RecordCommands :
    (∃ (n : Nat) (k : Task) (s : State),
      Shape s ∧ MemOk s ∧ Due s 48 n k ∧ recAllowed 48 (objInst k.hdr.object) (leAt k.payload 0 2) = true ∧
          s.recReadable (objInst k.hdr.object) = true ∧ leAt k.payload 0 2 < s.recCount (objInst k.hdr.object) ∧ Zeros k.payload [6,
          7] ∧ 0 < leAt k.payload 4 2 ∧ leAt k.payload 4 2 ≤ 232 ∧
          leAt k.payload 2 2 + leAt k.payload 4 2 ≤ (s.recData (objInst k.hdr.object) (leAt k.payload 0 2)).length) ∧
    (∃ (n : Nat) (k : Task) (s : State),
      Shape s ∧ MemOk s ∧ Due s 49 n k ∧ 16 ≤ objInst k.hdr.object ∧ s.recWritable (objInst k.hdr.object) = true ∧
          leAt k.payload 0 2 < s.recCount (objInst k.hdr.object) ∧ Zeros k.payload [6, 7] ∧ 0 < leAt k.payload 4 2 ∧
          leAt k.payload 4 2 ≤ 232 ∧ leAt k.payload 4 2 + 8 = k.len ∧
          leAt k.payload 2 2 + leAt k.payload 4 2 ≤ (s.recData (objInst k.hdr.object) (leAt k.payload 0 2)).length) ∧
    (∃ (n : Nat) (k : Task) (s : State) (c : Instr),
      Shape s ∧ MemOk s ∧ (c = Instr.recRead ∧ Due s 48 n k ∧ s.recReadable (objInst k.hdr.object) = true ∨ c = Instr.recWrite ∧
          Due s 49 n k ∧ s.recWritable (objInst k.hdr.object) = true ∨ c = Instr.recDefault ∧ Due s 54 n k ∧
          s.recWritable (objInst k.hdr.object) = true) ∧ 8 ≤ objInst k.hdr.object ∧ objInst k.hdr.object < 16) ∧
    (∃ (n : Nat) (k : Task) (s : State),
      Shape s ∧ MemOk s ∧ Due s 49 n k ∧ 16 ≤ objInst k.hdr.object ∧ s.recWritable (objInst k.hdr.object) = false) :=
  ⟨⟨7, task (ask 0x30 (objId 0x0E 31 0) (leBytes 2 0 ++ leBytes 2 0 ++ leBytes 2 4 ++ [0#8, 0#8]) up),
      (ask 0x30 (objId 0x0E 31 0) (leBytes 2 0 ++ leBytes 2 0 ++ leBytes 2 4 ++ [0#8, 0#8]) up), by decide +kernel,
      by decide +kernel, dueOf rfl (by decide +kernel), by decide +kernel⟩,
   ⟨7, task (ask 0x31 (objId 0x0E 31 0) (leBytes 2 0 ++ leBytes 2 0 ++ leBytes 2 4 ++ [0#8, 0#8] ++ leBytes 4 77) up),
       (ask 0x31 (objId 0x0E 31 0) (leBytes 2 0 ++ leBytes 2 0 ++ leBytes 2 4 ++ [0#8, 0#8] ++ leBytes 4 77) up), by decide +kernel,
       by decide +kernel, dueOf rfl (by decide +kernel), by decide +kernel⟩,
   ⟨7, task (ask 0x30 (objId 0x0E 15 0) (leBytes 2 0 ++ leBytes 2 0 ++ leBytes 2 4 ++ [0#8, 0#8]) up),
       (ask 0x30 (objId 0x0E 15 0) (leBytes 2 0 ++ leBytes 2 0 ++ leBytes 2 4 ++ [0#8, 0#8]) up), .recRead, by decide +kernel,
       by decide +kernel, .inl ⟨rfl, dueOf rfl (by decide +kernel), by decide +kernel⟩, by decide +kernel⟩,
   ⟨7, task (ask 0x31 (objId 0x0E 31 0) (leBytes 8 0 ++ leBytes 4 77) (stored 0 37 (leBytes 16 (2 ^ 64)) up)),
       (ask 0x31 (objId 0x0E 31 0) (leBytes 8 0 ++ leBytes 4 77) (stored 0 37 (leBytes 16 (2 ^ 64)) up)), by decide +kernel,
       by decide +kernel, dueOf rfl (by decide +kernel), by decide +kernel⟩⟩

/-- The hypotheses of clauses 5 to 8 of `RecordCommands` are met. -/
theorem test_hyp_RecordCommands_2 :
    (∃ (n : Nat) (k : Task) (s : State),
      Shape s ∧ MemOk s ∧ Due s 50 n k) ∧
    (∃ (n : Nat) (k : Task) (s : State) (wr : Bool),
      Shape s ∧ MemOk s ∧ Due s 51 n k ∧ leAt k.payload 0 1 = b2n wr ∧ Zeros k.payload [1, 2, 3] ∧
          s.attempts (objInst k.hdr.object) ≠ 0 ∧ leAt k.payload 4 8 = s.regionPw (objInst k.hdr.object) wr) ∧
    (∃ (n : Nat) (k : Task) (s : State) (wr : Bool),
      Shape s ∧ MemOk s ∧ Due s 51 n k ∧ leAt k.payload 0 1 = b2n wr ∧ Zeros k.payload [1, 2, 3] ∧
          s.attempts (objInst k.hdr.object) ≠ 0 ∧ leAt k.payload 4 8 ≠ s.regionPw (objInst k.hdr.object) wr ∧
          objInst k.hdr.object < s.rs.wrong.length) ∧
    (∃ (n : Nat) (k : Task) (s : State),
      Shape s ∧ MemOk s ∧ Due s 52 n k) :=
  ⟨⟨7, task (ask 0x32 (objId 0x0E 31 0) [] up), (ask 0x32 (objId 0x0E 31 0) [] up), by decide +kernel, by decide +kernel,
      dueOf rfl (by decide +kernel)⟩,
   ⟨7, task (ask 0x33 (objId 0x0E 31 0) (leBytes 4 1 ++ leBytes 8 0) up),
       (ask 0x33 (objId 0x0E 31 0) (leBytes 4 1 ++ leBytes 8 0) up), true, by decide +kernel, by decide +kernel,
       dueOf rfl (by decide +kernel), by decide +kernel⟩,
   ⟨7, task (ask 0x33 (objId 0x0E 31 0) (leBytes 4 1 ++ leBytes 8 1) up),
       (ask 0x33 (objId 0x0E 31 0) (leBytes 4 1 ++ leBytes 8 1) up), true, by decide +kernel, by decide +kernel,
       dueOf rfl (by decide +kernel), by decide +kernel⟩,
   ⟨7, task (ask 0x34 (objId 0x0E 31 0) [] up), (ask 0x34 (objId 0x0E 31 0) [] up), by decide +kernel, by decide +kernel,
       dueOf rfl (by decide +kernel)⟩⟩

/-- The hypotheses of clauses 9 to 11 of `RecordCommands` are met. -/
theorem test_hyp_RecordCommands_3 :
    (∃ (n : Nat) (k : Task) (s : State) (wr : Bool),
      Shape s ∧ MemOk s ∧ Due s 53 n k ∧ leAt k.payload 0 1 = b2n wr ∧ Zeros k.payload [1, 2, 3] ∧
          s.attempts (objInst k.hdr.object) ≠ 0 ∧ leAt k.payload 4 8 = s.regionPw (objInst k.hdr.object) wr) ∧
    (∃ (n : Nat) (k : Task) (s : State) (wr : Bool),
      Shape s ∧ MemOk s ∧ Due s 53 n k ∧ leAt k.payload 0 1 = b2n wr ∧ Zeros k.payload [1, 2, 3] ∧
          s.attempts (objInst k.hdr.object) ≠ 0 ∧ leAt k.payload 4 8 ≠ s.regionPw (objInst k.hdr.object) wr ∧
          objInst k.hdr.object < s.rs.wrong.length) ∧
    (∃ (n : Nat) (k : Task) (s : State),
      Shape s ∧ MemOk s ∧ Due s 54 n k ∧ 16 ≤ objInst k.hdr.object ∧ s.recWritable (objInst k.hdr.object) = true ∧
          leAt k.payload 0 2 < s.recCount (objInst k.hdr.object) ∧ Zeros k.payload [2, 3]) :=
  ⟨⟨7, task (ask 0x35 (objId 0x0E 31 0) (leBytes 4 0 ++ leBytes 8 0 ++ leBytes 8 5) up),
      (ask 0x35 (objId 0x0E 31 0) (leBytes 4 0 ++ leBytes 8 0 ++ leBytes 8 5) up), false, by decide +kernel, by decide +kernel,
      dueOf rfl (by decide +kernel), by decide +kernel⟩,
   ⟨7, task (ask 0x35 (objId 0x0E 31 0) (leBytes 4 0 ++ leBytes 8 9 ++ leBytes 8 5) up),
       (ask 0x35 (objId 0x0E 31 0) (leBytes 4 0 ++ leBytes 8 9 ++ leBytes 8 5) up), false, by decide +kernel, by decide +kernel,
       dueOf rfl (by decide +kernel), by decide +kernel⟩,
   ⟨7, task (ask 0x36 (objId 0x0E 31 0) (leBytes 4 0) up), (ask 0x36 (objId 0x0E 31 0) (leBytes 4 0) up), by decide +kernel,
       by decide +kernel, dueOf rfl (by decide +kernel), by decide +kernel⟩⟩

/-- The hypotheses of clauses 1 to 4 of `RecordsAreWritten` are met. -/
theorem test_hyp_RecordsAreWritten :
    (∃ (e : QE RecEntry) (l : List (QE RecEntry)) (s : State),
      Shape s ∧ s.storeOn = true ∧ s.pastTc = false ∧ s.rs.queue = e :: l ∧ s.rs.wlist.length < 64 ∧ s.rs.waiting = []) ∧
    (∃ (s : State),
      Shape s ∧ s.storeOn = true ∧ s.pastTc = false ∧ s.rs.queue = []) ∧
    (∃ (s : State),
      s.pastTc = true) ∧
    (∃ (e : RecEntry) (s : State),
      s.rs.cur = some e ∧ s.storeOn = true ∧ e.tag = 0) :=
  ⟨⟨({ val := { region := 31, record := 0 }, prod := 0 }), [],
      { up with rs.queue := [({ val := { region := 31, record := 0 }, prod := 0 })] }, by decide +kernel⟩,
   ⟨up, by decide +kernel⟩,
   ⟨{ up with now := 998000 }, by decide +kernel⟩,
   ⟨({ region := 31, record := 0 }), { up with rs.cur := some ({ region := 31, record := 0 }) }, by decide +kernel⟩⟩

/-- The hypotheses of clauses 5 to 6 of `RecordsAreWritten` are met. -/
theorem test_hyp_RecordsAreWritten_2 :
    (∃ (s : State),
      Shape s ∧ s.mn.phase = Phase.run) ∧
    (∃ (u : Nat) (s : State),
      Shape s ∧ s.mn.phase = Phase.run ∧ s.rs.mainFrom = some u) :=
  ⟨⟨up, by decide +kernel⟩,
   ⟨0, { up with rs.mainFrom := some 0 }, by decide +kernel⟩⟩

/-- The hypotheses of clauses 1 to 4 of `RequestsAreAnsweredOnce` are met. -/
theorem test_hyp_RequestsAreAnsweredOnce :
    (∃ (n : Nat) (v : Word) (s : State),
      n < 8 ∧ BitVec.toNat v = 2 ^ n ∧ HostQuiet s ∧ Shape s ∧ MemOk s ∧ bitOf s.host.busy n = false ∧ s.serves = true ∧
          240 < (s.readReq { origin := Origin.host n }).len) ∧
    (∃ (n : Nat) (v : Word) (s : State),
      n < 8 ∧ BitVec.toNat v = 2 ^ n ∧ HostQuiet s ∧ Shape s ∧ MemOk s ∧ bitOf s.host.busy n = false ∧ s.serves = true ∧
          (s.readReq { origin := Origin.host n }).len ≤ 240 ∧
          ¬mailboxCheck n (s.readReq { origin := Origin.host n }).hdr.seq (s.host.h2d.bytes (256 * n) 12) (s.readReq
          { origin := Origin.host n }).payload = s.slotCheck n) ∧
    (∃ (n : Nat) (v : Word) (s : State) (b : List Byte),
      n < 8 ∧ BitVec.toNat v = 2 ^ n ∧ HostQuiet s ∧ Shape s ∧ MemOk s ∧ bitOf s.host.busy n = false ∧ s.serves = true ∧
          (s.readReq { origin := Origin.host n }).len ≤ 240 ∧
          mailboxCheck n (s.readReq { origin := Origin.host n }).hdr.seq (s.host.h2d.bytes (256 * n) 12) (s.readReq
          { origin := Origin.host n }).payload = s.slotCheck n ∧
          s.host.kept.getD n none = some ((s.readReq { origin := Origin.host n }).hdr.seq, b)) ∧
    (∃ (n : Nat) (v : Word) (s : State),
      n < 8 ∧ BitVec.toNat v = 2 ^ n ∧ HostQuiet s ∧ Shape s ∧ MemOk s ∧ bitOf s.host.busy n = false ∧ s.serves = true ∧
          (s.readReq { origin := Origin.host n }).len ≤ 240 ∧
          mailboxCheck n (s.readReq { origin := Origin.host n }).hdr.seq (s.host.h2d.bytes (256 * n) 12) (s.readReq
          { origin := Origin.host n }).payload = s.slotCheck n ∧ (∀ (b : List Byte),
          s.host.kept.getD n none ≠ some ((s.readReq { origin := Origin.host n }).hdr.seq, b)) ∧ s.slotFlags n = 0 ∧
          s.mn.ready = true ∧ s.mn.mode ≠ Mode.bufferStop ∧ opRow (s.readReq { origin := Origin.host n }).hdr.opcode = none) :=
  ⟨⟨7, 128#32, { up with host.h2d := [(1794, 0xF1#8)] }, by decide +kernel, by decide +kernel, quietOf (by decide +kernel),
      by decide +kernel⟩,
   ⟨7, 128#32, up, by decide +kernel, by decide +kernel, quietOf (by decide +kernel), by decide +kernel⟩,
   ⟨7, 128#32,
       ({ ask 0 sysIdent [] up with host.reqs := [], host.busy := 0, host.kept := List.replicate 7 none ++ [some (9, [])] }), [],
       by decide +kernel, by decide +kernel, quietOf (by decide +kernel), by decide +kernel⟩,
   ⟨7, 128#32, ({ ask 5 sysIdent [] up with host.reqs := [], host.busy := 0 }), by decide +kernel, by decide +kernel,
       quietOf (by decide +kernel), by decide +kernel, by decide +kernel, by decide +kernel, by decide +kernel, by decide +kernel,
       by decide +kernel,
       fun b h => absurd
       ((by decide +kernel : ({ ask 5 sysIdent [] up with host.reqs := [], host.busy := 0 }).host.kept.getD 7 none =
       none).symm.trans h) (by simp), by decide +kernel⟩⟩

/-- The hypotheses of clauses 5 to 6 of `RequestsAreAnsweredOnce` are met. -/
theorem test_hyp_RequestsAreAnsweredOnce_2 :
    (∃ (n : Nat) (v : Word) (s : State),
      n < 8 ∧ BitVec.toNat v = 2 ^ n ∧ HostQuiet s ∧ Shape s ∧ MemOk s ∧ bitOf s.host.busy n = false ∧ s.serves = true ∧
          (wrH2dDb (BitVec.toNat v) s).verdict (s.readReq { origin := Origin.host n }) = Verdict.pass) ∧
    (∃ (c : Instr) (op : Nat) (m : Nat) (n : Nat) (k : Task) (s : State),
      (c, op) ∈ mailboxRows ∧ m ≠ op ∧ Due s m n k) :=
  ⟨⟨7, 128#32, ({ ask 0 sysIdent [] up with host.reqs := [], host.busy := 0 }), by decide +kernel, by decide +kernel,
      quietOf (by decide +kernel), by decide +kernel⟩,
   ⟨.depSvcPw, 230, 1, 7, task (ask 1 sysIdent [1#8, 3#8, 0#8, 0#8] up), (ask 1 sysIdent [1#8, 3#8, 0#8, 0#8] up),
       by decide +kernel, by decide +kernel, dueOf rfl (by decide +kernel)⟩⟩

/-- The hypotheses of clauses 1 to 4 of `ResetLeavesTheStatedValues` are met. -/
theorem test_hyp_ResetLeavesTheStatedValues :
    (∃ (q : List EvtEntry),
      q ∈ State.reset.qEvt) ∧
    (∃ (q : List (QE CmdVal)),
      q ∈ State.reset.act.qCmd) ∧
    (∃ (q : List (QE SmpVal)),
      q ∈ State.reset.se.qSmp) ∧
    (∃ (q : List (QE PntVal)),
      q ∈ State.reset.zs.qPnt) :=
  ⟨⟨[], by decide +kernel⟩,
   ⟨[], by decide +kernel⟩,
   ⟨[], by decide +kernel⟩,
   ⟨[], by decide +kernel⟩⟩

/-- The hypotheses of clauses 5 to 7 of `ResetLeavesTheStatedValues` are met. -/
theorem test_hyp_ResetLeavesTheStatedValues_2 :
    (∃ (p : Port),
      p ∈ State.reset.cans) ∧
    (∃ (n : Nat),
      n < 12) ∧
    (∃ (b : Nat),
      b < 24) :=
  ⟨⟨{}, by decide +kernel⟩,
   ⟨11, by decide +kernel⟩,
   ⟨23, by decide +kernel⟩⟩

/-- The hypotheses of clauses 1 to 4 of `ResetsOfTheMainDomain` are met. -/
theorem test_hyp_ResetsOfTheMainDomain :
    (∃ (s : State),
      s.pw.rstLow = false ∧ s.vsupOk = true) ∧
    (∃ (s : State),
      s.pw.rstLow = false ∧ s.vsupOk = false) ∧
    (∃ (_ : List Nat) (s : State),
      s.pw.rstLow = true ∧ s.vsupOk = true) ∧
    (∃ (_ : List Nat) (s : State),
      s.pw.rstLow = true ∧ s.vsupOk = false) :=
  ⟨⟨State.reset, by decide +kernel⟩,
   ⟨{ State.reset with pw.vsup := false }, by decide +kernel⟩,
   ⟨List.replicate 11 8, { State.reset with pw.rstLow := true }, by decide +kernel⟩,
   ⟨[], { State.reset with pw.rstLow := true, pw.vsup := false }, by decide +kernel⟩⟩

/-- The hypotheses of clauses 5 to 6 of `ResetsOfTheMainDomain` are met. -/
theorem test_hyp_ResetsOfTheMainDomain_2 :
    (∃ (c : Nat) (s : State),
      s.mn.restartDue = some c ∧ s.pw.rstLow = false ∧ s.pw.coreLost = false ∧ s.vsupOk = true) ∧
    (∃ (s : State),
      s.mn.phase = Phase.run ∧ 100 ≤ s.mn.trialPeriods ∧ s.bankState s.mn.bankRun = 2 ∧ s.mn.bankRun < 2 ∧
          2 < (s.recData 0 0).length) :=
  ⟨⟨3, { up with mn.restartDue := some 3 }, by decide +kernel⟩,
   ⟨{ stored 0 0 (2#8 :: List.replicate 31 0#8) up with mn.trialPeriods := 100 }, by decide +kernel⟩⟩

/-- The hypotheses of clauses 1 to 4 of `SamplesBecomePoints` are met. -/
theorem test_hyp_SamplesBecomePoints :
    (∃ (k : Fin 2) (p : Nat) (i : Nat) (w : Nat) (v : F32) (e : QE SmpVal) (q : List (List (QE SmpVal))) (s : State),
      Shape s ∧ s.mn.phase = Phase.run ∧ s.mn.mode = Mode.mainline ∧ s.pastTc = false ∧ s.seWaits k.val = false ∧
          popRings s.se.qSmp = some (e, q) ∧ e.bad = false ∧ e.val = SmpVal.de i v false w ∧ s.entryPoints e.val = [p] ∧ p < 160 ∧
          s.cf (ptObj p 48) Fd.ptLin.METHOD = 0 ∧ (s.pt p).stat = PStat.good ∧ (s.pt p).cause = 0 ∧ (s.pt p).wasBad = false ∧
          (s.pt p).restart = false ∧ fLt v (s.cff (ptObj p 64) Fd.ptCheck.LO) = false ∧ fNotFinite v = false ∧
          fLt (s.cff (ptObj p 64) Fd.ptCheck.HI) v = false ∧ fEq (s.cff (ptObj p 64) Fd.ptCheck.RATE_MAX) fZero = true ∧
          s.cfb (ptObj p 64) Fd.ptCheck.MEDIAN3 = false ∧ fEq (s.cff (ptObj p 64) Fd.ptCheck.TAU_S) fZero = true) ∧
    (∃ (k : Fin 2) (p : Nat) (n : Nat) (code : Int) (e : QE SmpVal) (q : List (List (QE SmpVal))) (s : State),
      Shape s ∧ s.mn.phase = Phase.run ∧ s.mn.mode = Mode.mainline ∧ s.pastTc = false ∧ s.seWaits k.val = false ∧
          popRings s.se.qSmp = some (e, q) ∧ e.val = SmpVal.ai p n code ∧ n ≠ 0 ∧ s.entryPoints e.val = [p] ∧ p < 160 ∧
          (s.isStale p = false ∨ (s.pt p).stat = PStat.stale ∧ (s.pt p).byStart = false)) ∧
    (∃ (k : Fin 2) (p : Nat) (i : Nat) (w : Nat) (v : F32) (e : QE SmpVal) (q : List (List (QE SmpVal))) (s : State),
      Shape s ∧ s.mn.phase = Phase.run ∧ s.mn.mode = Mode.mainline ∧ s.pastTc = false ∧ s.seWaits k.val = false ∧
          popRings s.se.qSmp = some (e, q) ∧ e.bad = false ∧ e.val = SmpVal.de i v true w ∧ s.entryPoints e.val = [p] ∧ p < 160 ∧
          s.cf (ptObj p 64) Fd.ptCheck.FAIL_N ≤ (s.pt p).failRun + 1 ∧ s.isStale p = false ∧ (s.pt p).stat ≠ PStat.stale) ∧
    (∃ (k : Fin 2) (s : State),
      Shape s ∧ s.mn.phase = Phase.run ∧ s.mn.mode = Mode.mainline ∧ s.pastTc = false ∧ s.seWaits k.val = false ∧
          popRings s.se.qSmp = none) :=
  ⟨⟨1, 159, 3, 255, 0x41A00000#32, ({ val := .de 3 0x41A00000#32 false 255, prod := 0 }), List.replicate 4 [],
      { (put (ptObj 159 64) Fd.ptCheck.TAU_S 0 (put (ptObj 159 64) Fd.ptCheck.RATE_MAX 0 (put (ptObj 159 0x020) Fd.ptSource.SRC_INDEX 3 (put (ptObj 159 0x020) Fd.ptSource.SRC_TYPE 6 up)))).modPt 159 fun _ => { stat := .good, cause := 0, restart := false } with se.qSmp := [[({ val := .de 3 0x41A00000#32 false 255, prod := 0 })], [], [], []] },
      by decide +kernel⟩,
   ⟨1, 159, 1, 0, ({ val := .ai 159 1 0, prod := 0 }), List.replicate 4 [],
       { (put (ptObj 159 0x020) Fd.ptSource.SRC_TYPE 1 up) with se.qSmp := [[], [({ val := .ai 159 1 0, prod := 0 })], [], []] },
       by decide +kernel⟩,
   ⟨1, 159, 3, 9, 0#32, ({ val := .de 3 0#32 true 9, prod := 0 }), List.replicate 4 [],
       { (put (ptObj 159 0x020) Fd.ptSource.SRC_INDEX 3 (put (ptObj 159 0x020) Fd.ptSource.SRC_TYPE 6 up)).modPt 159 fun _ => { stat := .good, cause := 0, failRun := 2, accAt := some 0 } with se.qSmp := [[({ val := .de 3 0#32 true 9, prod := 0 })], [], [], []] },
       by decide +kernel⟩,
   ⟨1, up, by decide +kernel⟩⟩

/-- The hypotheses of clauses 5 to 7 of `SamplesBecomePoints` are met. -/
theorem test_hyp_SamplesBecomePoints_2 :
    (∃ (k : Fin 2) (s : State),
      (s.pastTc = true ∨ s.seWaits k.val = true)) ∧
    (∃ (p : Fin 160) (s : State),
      Shape s ∧ s.staleTested = true ∧ s.seWaits 0 = false ∧ s.srcType p.val ≠ 0 ∧ s.isStale p.val = true ∧
          (s.pt p.val).stat ≠ PStat.stale) ∧
    (∃ (p : Fin 160) (s : State),
      Shape s ∧ s.staleTested = true ∧ s.seWaits 0 = false ∧ s.srcType p.val ≠ 0 ∧ s.isStale p.val = true ∧
          (s.pt p.val).stat = PStat.stale ∧ (s.pt p.val).byStart = true) :=
  ⟨⟨1, { up with now := 998000 }, by decide +kernel⟩,
   ⟨159, (put (ptObj 159 0x020) Fd.ptSource.SRC_TYPE 1 up).modPt 159 fun _ => { stat := .good, cause := 0 }, by decide +kernel⟩,
   ⟨159, (put (ptObj 159 0x020) Fd.ptSource.SRC_TYPE 1 up).modPt 159 fun _ => { stat := .stale, cause := 6, byStart := true },
       by decide +kernel⟩⟩

/-- The hypotheses of clauses 1 to 4 of `SaveAndWake` are met. -/
theorem test_hyp_SaveAndWake :
    (∃ (s : State),
      s.vsupOk = true ∧ s.mn.phase ≠ Phase.saving) ∧
    (∃ (mv : Nat) (s : State),
      s.mn.phase = Phase.run ∧ s.pw.saveArmed = false ∧ s.pw.saveArmJudged = false ∧ mv < 2 ^ 32) ∧
    (∃ (_ : Nat) (s : State),
      s.pw.saveArmed = true ∧ s.vsupOk = true ∧ s.mn.phase ≠ Phase.off ∧ s.mn.phase ≠ Phase.saving) ∧
    (∃ (s : State),
      s.mn.phase = Phase.saving ∧ s.pw.vsup = true) :=
  ⟨⟨up, by decide +kernel⟩,
   ⟨2 ^ 32 - 1, up, by decide +kernel⟩,
   ⟨0, { up with pw.saveArmed := true }, by decide +kernel⟩,
   ⟨{ up with mn.phase := .saving }, by decide +kernel⟩⟩

/-- The hypotheses of clauses 5 to 8 of `SaveAndWake` are met. -/
theorem test_hyp_SaveAndWake_2 :
    (∃ (s : State),
      s.pw.vsup = true) ∧
    (∃ (s : State),
      s.pw.latch = false ∧ s.sbAlive = true) ∧
    (∃ (s : State),
      s.pw.latch = true ∧ s.pw.vsup = true ∧ s.cfb (sysObj 48) Fd.power.ARM_WAKE_N = true ∧ strapAt s.st.pins 10 = false) ∧
    (∃ (s : State),
      s.pw.latch = true ∧ s.pw.vsup = false ∧ s.cfb (sysObj 48) Fd.power.ARM_WAKE_N = true) :=
  ⟨⟨State.reset, by decide +kernel⟩,
   ⟨up, by decide +kernel⟩,
   ⟨{ State.reset with pw.latch := true }, by decide +kernel⟩,
   ⟨{ State.reset with pw.latch := true, pw.vsup := false }, by decide +kernel⟩⟩

/-- The hypotheses of clauses 9 to 12 of `SaveAndWake` are met. -/
theorem test_hyp_SaveAndWake_3 :
    (∃ (s : State),
      s.pw.latch = true ∧ s.pw.vsup = true ∧ s.cfb (sysObj 48) Fd.power.ARM_RTC = true ∧ strapAt s.st.pins 10 = false) ∧
    (∃ (s : State),
      s.pw.latch = true ∧ s.pw.vsup = false ∧ s.cfb (sysObj 48) Fd.power.ARM_RTC = true) ∧
    (∃ (p : Fin 3) (d1 : Nat) (r : Nat) (d2 : Nat) (s : State),
      s.wakeRx = true ∧ (s.port p.val).armP = true ∧ 1800 ≤ d1 ∧ 1800 ≤ r ∧ 1800 ≤ d2 ∧ r + 1800 ≤ 1000000 ∧
          strapAt s.st.pins 10 = false) ∧
    (∃ (_ : Fin 3) (d1 : Nat) (r : Nat) (d2 : Nat) (_ : State),
      (d1 < 500 ∨ r < 500 ∨ d2 < 500)) :=
  ⟨⟨put (sysObj 48) Fd.power.ARM_RTC 1 { State.reset with pw.latch := true }, by decide +kernel⟩,
   ⟨put (sysObj 48) Fd.power.ARM_RTC 1 { State.reset with pw.latch := true, pw.vsup := false }, by decide +kernel⟩,
   ⟨2, 1800, 998200, 1800, portAt { armP := true } { State.reset with pw.latch := true, pw.latchHalt := true }, by decide +kernel⟩,
   ⟨2, 499, 1800, 1800, State.reset, by decide +kernel⟩⟩

/-- The hypotheses of clauses 13 to 16 of `SaveAndWake` are met. -/
theorem test_hyp_SaveAndWake_4 :
    (∃ (_ : Fin 3) (_ : Nat) (_ : Nat) (_ : Nat) (s : State),
      strapAt s.st.pins 10 = false) ∧
    (∃ (p : Fin 3) (f : CanFrame) (s : State),
      s.wakeRx = true ∧ (s.port p.val).armF = true ∧ s.wakeMatch (p.val) f = true ∧ strapAt s.st.pins 10 = false) ∧
    (∃ (p : Fin 3) (f : CanFrame) (s : State),
      s.cans.length = 3 ∧ s.wakeRx = true ∧ (s.port p.val).armF = true ∧ s.wakeMatch (p.val) f = false) ∧
    (∃ (p : Fin 3) (s : State),
      s.cans.length = 3 ∧ s.wakeRx = true ∧ (s.port p.val).armF = true ∧ (s.port p.val).wakeErr < 31) :=
  ⟨⟨2, 1799, 500, 1799, portAt { armP := true } { State.reset with pw.latch := true, pw.latchHalt := true }, by decide +kernel⟩,
   ⟨2, { xtd := false }, portAt { armF := true } { State.reset with pw.latch := true, pw.latchHalt := true }, by decide +kernel⟩,
   ⟨2, {}, portAt { armF := true } { State.reset with pw.latch := true, pw.latchHalt := true }, by decide +kernel⟩,
   ⟨2, portAt { armF := true, wakeErr := 30 } { State.reset with pw.latch := true, pw.latchHalt := true }, by decide +kernel⟩⟩

/-- The hypotheses of clause 17 of `SaveAndWake` are met. -/
theorem test_hyp_SaveAndWake_5 :
    (∃ (p : Fin 3) (s : State),
      s.cans.length = 3 ∧ s.wakeRx = true ∧ (s.port p.val).armF = true ∧ (s.port p.val).wakeErr = 31 ∧
          strapAt s.st.pins 10 = false) :=
  ⟨2, portAt { armF := true, wakeErr := 31 } { State.reset with pw.latch := true, pw.latchHalt := true }, by decide +kernel⟩

/-- The hypotheses of clauses 1 to 4 of `SequencerStepsAndOutputs` are met. -/
theorem test_hyp_SequencerStepsAndOutputs :
    (∃ (n : Fin 4) (s : State),
      Shape s ∧ s.seqRuns = true ∧ s.pw.afeLost = false ∧ (s.md n.val).step = none ∧ (s.md n.val).cal = false ∧
          s.calFirst n.val = true) ∧
    (∃ (n : Fin 4) (p : Nat) (i : Nat) (s : State),
      Shape s ∧ s.seqRuns = true ∧ s.pw.afeLost = false ∧ (s.md n.val).step = none ∧ (s.md n.val).cal = false ∧
          s.calFirst n.val = false ∧ (s.md n.val).lane.stopped = false ∧ s.scanMode n.val = 0 ∧ (s.md n.val).lane.left ≠ 0 ∧
          s.nextDue true (s.sublist n.val) (s.md n.val).lane = some (p, i)) ∧
    (∃ (n : Fin 4) (p : Nat) (_ : Int) (s : State),
      Shape s ∧ s.pw.afeLost = false ∧ (s.md n.val).cal = false ∧ (s.md n.val).step = some p ∧ (s.md n.val).cont = false ∧
          (s.md n.val).ring < 4) ∧
    (∃ (n : Fin 4) (p : Nat) (_ : Int) (s : State),
      Shape s ∧ s.pw.afeLost = false ∧ (s.md n.val).cal = false ∧ (s.md n.val).step = some p ∧ (s.md n.val).cont = true ∧
          (s.md n.val).ring < 4) :=
  ⟨⟨3, up, by decide +kernel⟩,
   ⟨3, 159, 0,
       (put (ptObj 159 0x020) Fd.ptSource.SRC_INDEX 47 (put (ptObj 159 0x020) Fd.ptSource.SRC_TYPE 1 up)).modMod 3 fun _ =>
       { lane := { left := 1 }, calAt := some 0 }, by decide +kernel⟩,
   ⟨3, 159, -8388608, up.modMod 3 fun _ => { step := some 159 }, by decide +kernel⟩,
   ⟨3, 159, 8388607, put (sysObj 0x050) Fd.frontEnd.SCAN_MODE 128 (up.modMod 3 fun _ => { step := some 159, cont := true }),
       by decide +kernel⟩⟩

/-- The hypotheses of clauses 5 to 7 of `SequencerStepsAndOutputs` are met. -/
theorem test_hyp_SequencerStepsAndOutputs_2 :
    (∃ (n : Fin 4) (_ : Bool) (_ : Bool) (s : State),
      Shape s ∧ (s.md n.val).cal = true ∧ s.pw.afeLost = false) ∧
    (∃ (n : Fin 4) (s : State),
      Shape s ∧ s.mn.phase = Phase.run ∧ s.scanMode n.val = 3) ∧
    (∃ (_ : Fin 1048576) (p : Nat) (i : Nat) (s : State),
      Shape s ∧ s.seqRuns = true ∧ s.pw.afeLost = false ∧ s.se.cap.stopped = false ∧ s.se.cap.left ≠ 0 ∧
          s.nextDue true s.capList s.se.cap = some (p, i) ∧ s.fitsAt (s.laneStart s.se.cap 4100) 4100 = true ∧ s.seqUsed 2 < 16) :=
  ⟨⟨3, true, true, up.modMod 3 fun _ => { cal := true }, by decide +kernel⟩,
   ⟨3, put (sysObj 0x050) Fd.frontEnd.SCAN_MODE 192 up, by decide +kernel⟩,
   ⟨1048575, 159, 0, { (put (ptObj 159 0x020) Fd.ptSource.SRC_TYPE 3 up) with se.cap := { left := 1 } }, by decide +kernel⟩⟩

/-- The hypotheses of clauses 1 to 4 of `SessionAndModeCommands` are met. -/
theorem test_hyp_SessionAndModeCommands :
    (∃ (n : Nat) (k : Task) (s : State),
      Shape s ∧ MemOk s ∧ Due s 0 n k) ∧
    (∃ (n : Nat) (k : Task) (s : State),
      Shape s ∧ MemOk s ∧ Due s 1 n k ∧ Zeros k.payload [2, 3] ∧ 1 ≤ leAt k.payload 0 1 ∧ leAt k.payload 0 1 ≤ leAt k.payload 1 1 ∧
          putBit s.host.busy n false = 0 ∧ leAt k.payload 0 1 ≤ s.mn.protoMax) ∧
    (∃ (n : Nat) (k : Task) (s : State),
      Shape s ∧ MemOk s ∧ Due s 1 n k ∧ Zeros k.payload [2, 3] ∧ 1 ≤ leAt k.payload 0 1 ∧ leAt k.payload 0 1 ≤ leAt k.payload 1 1 ∧
          putBit s.host.busy n false ≠ 0) ∧
    (∃ (n : Nat) (k : Task) (s : State),
      Shape s ∧ MemOk s ∧ Due s 1 n k ∧ Zeros k.payload [2, 3] ∧ 1 ≤ leAt k.payload 0 1 ∧ leAt k.payload 0 1 ≤ leAt k.payload 1 1 ∧
          putBit s.host.busy n false = 0 ∧ s.mn.protoMax < leAt k.payload 0 1) :=
  ⟨⟨7, task (ask 0 sysIdent [] up), (ask 0 sysIdent [] up), by decide +kernel, by decide +kernel, dueOf rfl (by decide +kernel)⟩,
   ⟨7, task (ask 1 sysIdent [3#8, 3#8, 0#8, 0#8] up), (ask 1 sysIdent [3#8, 3#8, 0#8, 0#8] up), by decide +kernel,
       by decide +kernel, dueOf rfl (by decide +kernel), by decide +kernel⟩,
   ⟨7, task ({ ask 1 sysIdent [1#8, 3#8, 0#8, 0#8] up with host.busy := 129 }),
       ({ ask 1 sysIdent [1#8, 3#8, 0#8, 0#8] up with host.busy := 129 }), by decide +kernel, by decide +kernel,
       dueOf rfl (by decide +kernel), by decide +kernel⟩,
   ⟨7, task (ask 1 sysIdent [4#8, 4#8, 0#8, 0#8] up), (ask 1 sysIdent [4#8, 4#8, 0#8, 0#8] up), by decide +kernel,
       by decide +kernel, dueOf rfl (by decide +kernel), by decide +kernel⟩⟩

/-- The hypotheses of clauses 5 to 8 of `SessionAndModeCommands` are met. -/
theorem test_hyp_SessionAndModeCommands_2 :
    (∃ (n : Nat) (k : Task) (s : State) (m : Mode),
      Shape s ∧ MemOk s ∧ Due s 2 n k ∧ Zeros k.payload [1, 2, 3] ∧ leAt k.payload 0 1 = m.code ∧
          (m = Mode.platform ∨ m = Mode.mainline) ∧ leAt k.payload 4 8 = 0 ∧ m ≠ s.mn.mode ∧ s.mn.mode ≠ Mode.depot) ∧
    (∃ (n : Nat) (k : Task) (s : State) (m : Mode),
      Shape s ∧ MemOk s ∧ Due s 2 n k ∧ Zeros k.payload [1, 2, 3] ∧ leAt k.payload 0 1 = m.code ∧
          (m = Mode.platform ∨ m = Mode.mainline) ∧ leAt k.payload 4 8 = 0 ∧ s.mn.mode = Mode.depot) ∧
    (∃ (n : Nat) (k : Task) (s : State) (m : Mode),
      Shape s ∧ MemOk s ∧ Due s 2 n k ∧ Zeros k.payload [1, 2, 3] ∧ leAt k.payload 0 1 = m.code ∧
          (m = Mode.terminus ∨ m = Mode.halt) ∧ leAt k.payload 4 8 = 0 ∧ m ≠ s.mn.mode ∧ s.mn.mode ≠ Mode.depot ∧
          s.pw.rtcLost = false ∧ s.pw.vbkp = true ∧ (m = Mode.halt → s.wakeArmedBad = false ∧
          (s.cf (sysObj 48) Fd.power.ARM_WUF ≠ 0 ∨ s.cf (sysObj 48) Fd.power.ARM_WUP ≠ 0)) ∧
          (s.cfb (sysObj 48) Fd.power.ARM_RTC = true → rtcSeconds s < s.cf (sysObj 48) Fd.power.RTC_ALARM) ∧
          (s.anyGuardZone = false ∨ s.cfb (sysObj 48) Fd.power.GZ_STBY_OK = true)) ∧
    (∃ (n : Nat) (k : Task) (s : State) (m : Mode),
      Shape s ∧ MemOk s ∧ Due s 2 n k ∧ Zeros k.payload [1, 2, 3] ∧ leAt k.payload 0 1 = m.code ∧ m = Mode.depot ∧
          s.mn.mode ≠ Mode.depot ∧ s.svcAttempts ≠ 0) :=
  ⟨⟨7, task (ask 2 sysIdent (leBytes 4 3 ++ leBytes 8 0) up), (ask 2 sysIdent (leBytes 4 3 ++ leBytes 8 0) up), .platform,
      by decide +kernel, by decide +kernel, dueOf rfl (by decide +kernel), by decide +kernel⟩,
   ⟨7, task (ask 2 sysIdent (leBytes 4 4 ++ leBytes 8 0) dep), (ask 2 sysIdent (leBytes 4 4 ++ leBytes 8 0) dep), .mainline,
       by decide +kernel, by decide +kernel, dueOf rfl (by decide +kernel), by decide +kernel⟩,
   ⟨7, task (ask 2 sysIdent (leBytes 4 (Mode.code .halt) ++ leBytes 8 0) (put (sysObj 0x030) Fd.power.ARM_WUP 4 up)),
       (ask 2 sysIdent (leBytes 4 (Mode.code .halt) ++ leBytes 8 0) (put (sysObj 0x030) Fd.power.ARM_WUP 4 up)), .halt,
       by decide +kernel, by decide +kernel, dueOf rfl (by decide +kernel), by decide +kernel⟩,
   ⟨7, task (ask 2 sysIdent (leBytes 4 6 ++ leBytes 8 0) up), (ask 2 sysIdent (leBytes 4 6 ++ leBytes 8 0) up), .depot,
       by decide +kernel, by decide +kernel, dueOf rfl (by decide +kernel), by decide +kernel⟩⟩

/-- The hypotheses of clause 9 of `SessionAndModeCommands` are met. -/
theorem test_hyp_SessionAndModeCommands_3 :
    (∃ (n : Nat) (k : Task) (s : State),
      Shape s ∧ MemOk s ∧ Due s 3 n k ∧ leAt k.payload 0 4 = 1297371986) :=
  ⟨7, task (ask 3 sysIdent (leBytes 4 1297371986) up), (ask 3 sysIdent (leBytes 4 1297371986) up), by decide +kernel,
      by decide +kernel, dueOf rfl (by decide +kernel), by decide +kernel⟩

/-- The hypotheses of clauses 1 to 4 of `SidingAndBufferStop` are met. -/
theorem test_hyp_SidingAndBufferStop :
    (∃ (g : Fin 6) (at_ : Nat) (s : State),
      (s.lim g.val).floorAt = some at_ ∧ s.zonesRun = true ∧ s.cf (thObj 0 32) Fd.thConf.SIDING_FLOOR_S ≠ 0) ∧
    (∃ (at_ : Nat) (s : State),
      s.coolSince = some at_ ∧ s.mn.phase = Phase.run ∧ s.mn.mode = Mode.siding ∧ s.mn.sidingCause = 4) ∧
    (∃ (k : Nat) (s : State),
      Shape s ∧ s.mn.phase = Phase.run ∧ s.mn.mode = Mode.siding ∧ s.canPower 0 = true ∧ s.fbf Fd.fbConf.FABRIC_EN ≠ 0 ∧
          s.fb.lastHeld ≠ 0 ∧ (s.port 0).freeEntry = some k ∧ s.cfb (cnObj 0) Fd.cnConf.FD_EN = true ∧
          s.cf (cnObj 0) Fd.cnConf.TXE_SIZE = 7) ∧
    (∃ (s : State),
      s.fbf Fd.fbConf.FABRIC_EN = 0) :=
  ⟨⟨5, 0, { up with th.lims := lset up.th.lims 5 { floorAt := some 0 } }, by decide +kernel⟩,
   ⟨5, { inMode .siding with mn.sidingCause := 4, th.lims := List.replicate 6 { coolAt := some 5 } }, by decide +kernel⟩,
   ⟨0, { inMode .siding with fb.lastHeld := 5 }, by decide +kernel⟩,
   ⟨put (objId 0x0D 0 0x020) Fd.fbConf.FABRIC_EN 0 { inMode .siding with fb.lastHeld := 5 }, by decide +kernel⟩⟩

/-- The hypotheses of clauses 5 to 6 of `SidingAndBufferStop` are met. -/
theorem test_hyp_SidingAndBufferStop_2 :
    (∃ (n : Fin 9) (s : State),
      Shape s ∧ s.vsupOk = true ∧ s.th.armed = true ∧ s.th.bufStop = none ∧ (s.die n.val).selfBad = false) ∧
    (∃ (n : Fin 9) (s : State),
      (s.die n.val).selfBad = true) :=
  ⟨⟨8, { up with th.armed := true }, by decide +kernel⟩,
   ⟨8, up.modDie 8 fun _ => { selfBad := true }, by decide +kernel⟩⟩

/-- The hypotheses of clauses 1 to 4 of `SpiReadsReturn` are met. -/
theorem test_hyp_SpiReadsReturn :
    (∃ (mk : Option (Fin 16777216) → Nat → Instr) (s : State) (_ : Option (Fin 16777216)) (_ : Nat),
      (mk = Instr.spiRead ∨ mk = Instr.spiQread) ∧ s.spiAlive = false) ∧
    (∃ (mk : Option (Fin 16777216) → Nat → Instr) (s : State) (_ : Nat),
      (mk = Instr.spiRead ∨ mk = Instr.spiQread) ∧ HostQuiet s) ∧
    (∃ (mk : Option (Fin 16777216) → Nat → Instr) (s : State) (a : Fin 16777216) (k : Nat) (n : Nat),
      (mk = Instr.spiRead ∨ mk = Instr.spiQread) ∧ HostQuiet s ∧ k < 8 ∧ 6144 + 256 * k ≤ a.val ∧ a.val + n ≤ 6400 + 256 * k) ∧
    (∃ (mk : Option (Fin 16777216) → Nat → Instr) (s : State) (a : Fin 16777216) (k : Nat) (n : Nat),
      (mk = Instr.spiRead ∨ mk = Instr.spiQread) ∧ HostQuiet s ∧ k < 8 ∧ 6144 + 256 * k ≤ a.val ∧ a.val < 6400 + 256 * k ∧
          6400 + 256 * k < a.val + n ∧ n ≤ 4096) :=
  ⟨⟨Instr.spiQread, State.reset, some 0, 1, Or.inr rfl, by decide +kernel⟩,
   ⟨Instr.spiRead, up, 1, Or.inl rfl, quietOf (by decide +kernel)⟩,
   ⟨Instr.spiQread, up, 7936, 7, 256, Or.inr rfl, quietOf (by decide +kernel), by decide +kernel⟩,
   ⟨Instr.spiRead, up, 8191, 7, 4096, Or.inl rfl, quietOf (by decide +kernel), by decide +kernel⟩⟩

/-- The hypotheses of clauses 5 to 8 of `SpiReadsReturn` are met. -/
theorem test_hyp_SpiReadsReturn_2 :
    (∃ (mk : Option (Fin 16777216) → Nat → Instr) (s : State) (a : Fin 16777216) (r : Nat),
      (mk = Instr.spiRead ∨ mk = Instr.spiQread) ∧ HostQuiet s ∧ r < 16 ∧ a.val = 4 * r) ∧
    (∃ (mk : Option (Fin 16777216) → Nat → Instr) (s : State) (a : Fin 16777216) (d : Nat) (n : Nat),
      (mk = Instr.spiRead ∨ mk = Instr.spiQread) ∧ HostQuiet s ∧ d < 64 ∧ s.host.wdescValid = true ∧ s.owner d = 1 ∧
          65536 + s.descBase d ≤ a.val ∧ a.val + n ≤ 65536 + s.descBase d + s.descSize d ∧ a.val + n ≤ 327680 ∧ n ≤ 4096) ∧
    (∃ (mk : Option (Fin 16777216) → Nat → Instr) (s : State) (a : Fin 16777216) (d : Nat) (n : Nat),
      (mk = Instr.spiRead ∨ mk = Instr.spiQread) ∧ HostQuiet s ∧ d < 64 ∧ s.host.wdescValid = true ∧ s.owner d = 1 ∧
          65536 + s.descBase d ≤ a.val ∧ a.val + 4096 ≤ 65536 + s.descBase d + s.descSize d ∧ 4096 < n ∧ a.val + n ≤ 327680) ∧
    (∃ (mk : Option (Fin 16777216) → Nat → Instr) (s : State) (a : Fin 16777216) (n : Nat),
      (mk = Instr.spiRead ∨ mk = Instr.spiQread) ∧ HostQuiet s ∧ 327680 ≤ a.val ∧ 0 < n ∧ n ≤ 4096 ∧ a.val + n ≤ 16777216) :=
  ⟨⟨Instr.spiQread, up, 60, 15, Or.inr rfl, quietOf (by decide +kernel), by decide +kernel⟩,
   ⟨Instr.spiRead, descAt 1 0 0 up, 66048, 63, 256, Or.inl rfl, quietOf (by decide +kernel), by decide +kernel⟩,
   ⟨.spiRead,
       { up with host.wdescValid := true, host.window := (Mem.writeBytes 504 (leBytes 4 (2 ^ 30 + 16 * 2 ^ 16 + 2) ++ leBytes 4 0) []) },
       66048, 63, 4097, .inl rfl, quietOf (by decide +kernel), by decide +kernel⟩,
   ⟨Instr.spiQread, up, 16777215, 1, Or.inr rfl, quietOf (by decide +kernel), by decide +kernel⟩⟩

/-- The hypotheses of clause 9 of `SpiReadsReturn` are met. -/
theorem test_hyp_SpiReadsReturn_3 :
    (∃ (mk : Option (Fin 16777216) → Nat → Instr) (s : State) (a : Fin 16777216) (n : Nat),
      (mk = Instr.spiRead ∨ mk = Instr.spiQread) ∧ HostQuiet s ∧ 327680 ≤ a.val ∧ 4096 < n ∧ a.val + n ≤ 16777216) :=
  ⟨Instr.spiRead, up, 327680, 4097, Or.inl rfl, quietOf (by decide +kernel), by decide +kernel⟩

/-- The hypotheses of clauses 1 to 4 of `SpiWritesLand` are met. -/
theorem test_hyp_SpiWritesLand :
    (∃ (mk : Option (Fin 16777216) → List Byte → Instr) (s : State) (_ : Option (Fin 16777216)) (_ : List Byte),
      (mk = Instr.spiWrite ∨ mk = Instr.spiQwrite) ∧ s.spiAlive = false) ∧
    (∃ (mk : Option (Fin 16777216) → List Byte → Instr) (s : State) (_ : List Byte),
      (mk = Instr.spiWrite ∨ mk = Instr.spiQwrite) ∧ HostQuiet s) ∧
    (∃ (mk : Option (Fin 16777216) → List Byte → Instr) (s : State) (a : Fin 16777216) (k : Nat) (l : List Byte),
      (mk = Instr.spiWrite ∨ mk = Instr.spiQwrite) ∧ HostQuiet s ∧ k < 8 ∧ l ≠ [] ∧ 4096 + 256 * k ≤ a.val ∧
          a.val + l.length ≤ 4352 + 256 * k) ∧
    (∃ (mk : Option (Fin 16777216) → List Byte → Instr) (s : State) (a : Fin 16777216) (k : Nat) (l : List Byte),
      (mk = Instr.spiWrite ∨ mk = Instr.spiQwrite) ∧ HostQuiet s ∧ k < 8 ∧ l ≠ [] ∧ 6144 + 256 * k ≤ a.val ∧
          a.val + l.length ≤ 6400 + 256 * k) :=
  ⟨⟨Instr.spiQwrite, State.reset, some 0, [1#8], Or.inr rfl, by decide +kernel⟩,
   ⟨Instr.spiWrite, up, [1#8], Or.inl rfl, quietOf (by decide +kernel)⟩,
   ⟨Instr.spiQwrite, up, 6143, 7, [1#8], Or.inr rfl, quietOf (by decide +kernel), by decide +kernel⟩,
   ⟨Instr.spiWrite, up, 8191, 7, [1#8], Or.inl rfl, quietOf (by decide +kernel), by decide +kernel⟩⟩

/-- The hypotheses of clauses 5 to 8 of `SpiWritesLand` are met. -/
theorem test_hyp_SpiWritesLand_2 :
    (∃ (mk : Option (Fin 16777216) → List Byte → Instr) (s : State) (a : Fin 16777216) (l : List Byte),
      (mk = Instr.spiWrite ∨ mk = Instr.spiQwrite) ∧ HostQuiet s ∧ l ≠ [] ∧ l.length ≤ 4096 ∧ 8192 ≤ a.val ∧
          a.val + l.length ≤ 65536) ∧
    (∃ (mk : Option (Fin 16777216) → List Byte → Instr) (s : State) (a : Fin 16777216) (d : Nat) (l : List Byte),
      (mk = Instr.spiWrite ∨ mk = Instr.spiQwrite) ∧ HostQuiet s ∧ d < 64 ∧ s.host.window.wf = true ∧ s.host.wdescValid = true ∧
          s.owner d = 1 ∧ ClearOfTable s d ∧ l.length ≤ 4096 ∧ 65536 + s.descBase d ≤ a.val ∧
          a.val + l.length ≤ 65536 + s.descBase d + s.descSize d ∧ a.val + l.length ≤ 327680) ∧
    (∃ (_ : Fin 8) (off : Fin 256) (l : List Byte) (s : State),
      HostQuiet s ∧ l ≠ [] ∧ off.val + l.length ≤ 256) ∧
    (∃ (code : Byte) (s : State),
      HostQuiet s ∧ BitVec.toNat code ≠ 26 ∧ BitVec.toNat code ≠ 30 ∧ BitVec.toNat code ≠ 42 ∧ BitVec.toNat code ≠ 46) :=
  ⟨⟨Instr.spiQwrite, up, 65535, [1#8], Or.inr rfl, quietOf (by decide +kernel), by decide +kernel⟩,
   ⟨Instr.spiWrite, descAt 1 0 0 up, 66048, 63, List.replicate 256 1#8, Or.inl rfl, quietOf (by decide +kernel), by decide +kernel⟩,
   ⟨7, 255, [1#8], up, quietOf (by decide +kernel), by decide +kernel⟩,
   ⟨0x03#8, up, quietOf (by decide +kernel), by decide +kernel⟩⟩

/-- The hypotheses of clauses 9 to 11 of `SpiWritesLand` are met. -/
theorem test_hyp_SpiWritesLand_3 :
    (∃ (s : State),
      HostQuiet s) ∧
    (∃ (a : Fin 16777216) (k : Nat) (l : List Byte) (s : State),
      HostQuiet s ∧ k < 8 ∧ bitOf s.host.busy k = false ∧ l ≠ [] ∧ 4096 + 256 * k ≤ a.val ∧ a.val + l.length ≤ 4352 + 256 * k) ∧
    (∃ (a : Fin 16777216) (k : Nat) (n : Nat) (s : State),
      HostQuiet s ∧ k < 8 ∧ 6144 + 256 * k ≤ a.val ∧ a.val + n ≤ 6400 + 256 * k) :=
  ⟨⟨up, quietOf (by decide +kernel)⟩,
   ⟨6143, 7, [1#8], up, quietOf (by decide +kernel), by decide +kernel⟩,
   ⟨7936, 7, 256, up, quietOf (by decide +kernel), by decide +kernel⟩⟩

/-- The hypotheses of clauses 1 to 4 of `StartStagesBeforeTheImage` are met. -/
theorem test_hyp_StartStagesBeforeTheImage :
    (∃ (s : State),
      s.vsupOk = true ∧ s.act.critArmed = false) ∧
    (∃ (s : State),
      s.vsupOk = true ∧ s.mn.drvLocked = false) ∧
    (∃ (s : State),
      s.vsupOk = true ∧ s.gd.released = false) ∧
    (∃ (s : State),
      s.vsupOk = true ∧ s.gd.released = true ∧ s.gd.ready = false ∧ s.gd.inReset = none ∧ s.pw.guardLost = false) :=
  ⟨⟨State.reset, by decide +kernel⟩,
   ⟨State.reset, by decide +kernel⟩,
   ⟨State.reset, by decide +kernel⟩,
   ⟨{ State.reset with gd.released := true }, by decide +kernel⟩⟩

/-- The hypotheses of clause 5 of `StartStagesBeforeTheImage` are met. -/
theorem test_hyp_StartStagesBeforeTheImage_2 :
    (∃ (s : State),
      s.mn.phase = Phase.held ∧ s.mn.restartDue = none ∧ s.pw.rstLow = false ∧ s.pw.coreLost = false ∧ s.vsupOk = true) :=
  ⟨State.reset, by decide +kernel⟩

/-- The hypotheses of clauses 1 to 4 of `StartStagesFromTheImageToReady` are met. -/
theorem test_hyp_StartStagesFromTheImageToReady :
    (∃ (_ : Bool) (s : State),
      s.mn.phase = Phase.imageCheck) ∧
    (∃ (s : State),
      s.mn.phase = Phase.loading) ∧
    (∃ (_ : List Nat) (s : State),
      s.mn.phase = Phase.selfTest) ∧
    (∃ (c : Fin 4) (s : State),
      (s.core c.val).testing = true ∧ s.sbAlive = true) :=
  ⟨⟨true, { State.reset with mn.phase := .imageCheck }, by decide +kernel⟩,
   ⟨{ State.reset with mn.phase := .loading }, by decide +kernel⟩,
   ⟨[], { State.reset with mn.phase := .selfTest }, by decide +kernel⟩,
   ⟨3, { up with per.cores := lset up.per.cores 3 { testing := true } }, by decide +kernel⟩⟩

/-- The hypotheses of clauses 5 to 6 of `StartStagesFromTheImageToReady` are met. -/
theorem test_hyp_StartStagesFromTheImageToReady_2 :
    (∃ (_ : Nat) (s : State),
      s.mn.phase = Phase.recall) ∧
    (∃ (s : State),
      s.mn.phase = Phase.applying) :=
  ⟨⟨0, { State.reset with mn.phase := .recall }, by decide +kernel⟩,
   ⟨{ State.reset with mn.phase := .applying }, by decide +kernel⟩⟩

/-- The hypotheses of the clauses of `StepRunsTheFrontCommand` are met. -/
theorem test_hyp_StepRunsTheFrontCommand :
    (∃ (s : State),
      s.pending = []) :=
  ⟨State.reset, by decide +kernel⟩

/-- The hypotheses of clauses 1 to 4 of `StrokesOfTheValves` are met. -/
theorem test_hyp_StrokesOfTheValves :
    (∃ (g : Fin 4) (mv : Fin 65536) (b : Nat) (gq : Bool) (rest : List (Nat × Bool)) (s : State),
      Shape s ∧ b < 24 ∧ b / 6 = g.val ∧ (s.vgrp g.val).queue = (b, gq) :: rest ∧ (s.setVdrv mv.val).canStroke b = true) ∧
    (∃ (ch : Fin 24) (s : State),
      Shape s ∧ s.deOn = true ∧ (s.vlv ch.val).st = VSt.pullin ∧ (s.vlv ch.val).why ≠ Stroke.pulse ∧
          (s.isQuad ch.val = false ∨ (s.vlv ch.val).peakAt = none)) ∧
    (∃ (ch : Fin 24) (s : State),
      (s.vlv ch.val).peakAt.isSome = true ∧ s.isQuad ch.val = true) ∧
    (∃ (ch : Fin 24) (s : State),
      Shape s ∧ s.deOn = true ∧ (s.vlv ch.val).st = VSt.pullin ∧ (s.vlv ch.val).why ≠ Stroke.pulse ∧ s.isQuad ch.val = true ∧
          (s.vlv ch.val).peakAt.isSome = true) :=
  ⟨⟨3, 24000, 18, false, [], (gangAt 18 1 {} up).modGrp 3 fun _ => { queue := [(18, false)] }, by decide +kernel⟩,
   ⟨23, gangAt 23 1 { st := .pullin } up, by decide +kernel⟩,
   ⟨20, gangAt 20 3 { st := .pullin, peakAt := some 0 } up, by decide +kernel⟩,
   ⟨18, gangAt 18 3 { st := .pullin, peakAt := some 0 } up, by decide +kernel⟩⟩

/-- The hypotheses of clauses 5 to 8 of `StrokesOfTheValves` are met. -/
theorem test_hyp_StrokesOfTheValves_2 :
    (∃ (ch : Fin 24) (_ : Fin 65536) (b : Nat) (s : State),
      Shape s ∧ s.gangBase ch.val = some b ∧ s.deOn = true ∧ ((s.vlv b).st = VSt.reg ∨ (s.vlv b).st = VSt.pullin ∧
          (s.isQuad b = true ∨ (s.vlv b).why = Stroke.pulse) ∧ (s.vlv b).peakAt.isSome = true) ∧ (s.vlv b).stepDown = false) ∧
    (∃ (ch : Fin 24) (_ : Fin 65536) (b : Nat) (s : State),
      Shape s ∧ s.gangBase ch.val = some b ∧ s.deOn = true ∧ (s.vlv b).st = VSt.reg ∧ (s.vlv b).stepDown = true) ∧
    (∃ (ch : Fin 24) (b : Nat) (s : State),
      Shape s ∧ s.gangBase ch.val = some b ∧ s.deOn = true ∧ (s.vlv b).st = VSt.decay ∧ (s.vlv b).drv = none ∧
          (s.vlv b).why ≠ Stroke.pulse ∧ (∀ p ∈ s.act.proves, p.gang ≠ b ∨ p.started = true)) ∧
    (∃ (ch : Fin 24) (b : Nat) (s : State),
      Shape s ∧ s.gangBase ch.val = some b ∧ s.deOn = true ∧ (s.vlv b).st = VSt.decay ∧ (s.vlv b).drv.isSome = true) :=
  ⟨⟨23, 65535, 23, gangAt 23 1 { st := .reg } up, by decide +kernel⟩,
   ⟨23, 65535, 23, gangAt 23 1 { st := .reg, stepDown := true } up, by decide +kernel⟩,
   ⟨23, 23, gangAt 23 1 { st := .decay } up, by decide +kernel⟩,
   ⟨23, 23, gangAt 23 1 { st := .decay, drv := some 1 } up, by decide +kernel⟩⟩

/-- The hypotheses of clause 9 of `StrokesOfTheValves` are met. -/
theorem test_hyp_StrokesOfTheValves_3 :
    (∃ (ch : Fin 24) (s : State),
      Shape s ∧ s.gangBase ch.val = none ∧ (s.vlv ch.val).st = VSt.decay) :=
  ⟨23, up.modVlv 23 fun _ => { st := .decay }, by decide +kernel⟩

/-- The hypotheses of clauses 1 to 4 of `SupplyLossAndReturn` are met. -/
theorem test_hyp_SupplyLossAndReturn :
    (∃ (s : State),
      Shape s ∧ s.pw.vdrv = true) ∧
    (∃ (s : State),
      Shape s ∧ s.pw.vdrv = false) ∧
    (∃ (mv : Nat) (s : State),
      Shape s ∧ s.pw.vdrvOv = false ∧ 40000 < mv ∧ s.vsupOk = true) ∧
    (∃ (s : State),
      s.pw.vdrvOv = true) :=
  ⟨⟨up, by decide +kernel⟩,
   ⟨{ up with pw.vdrv := false }, by decide +kernel⟩,
   ⟨40001, up, by decide +kernel⟩,
   ⟨{ up with pw.vdrvOv := true }, by decide +kernel⟩⟩

/-- The hypotheses of clauses 5 to 8 of `SupplyLossAndReturn` are met. -/
theorem test_hyp_SupplyLossAndReturn_2 :
    (∃ (s : State),
      Shape s ∧ s.pw.vio = true) ∧
    (∃ (s : State),
      Shape s ∧ s.pw.vio = false) ∧
    (∃ (s : State),
      Shape s ∧ s.pw.vbkp = true ∧ s.pw.vsup = true) ∧
    (∃ (s : State),
      s.pw.vbkp = true ∧ s.pw.vsup = false) :=
  ⟨⟨up, by decide +kernel⟩,
   ⟨{ up with pw.vio := false }, by decide +kernel⟩,
   ⟨up, by decide +kernel⟩,
   ⟨{ State.reset with pw.vsup := false }, by decide +kernel⟩⟩

/-- The hypotheses of clauses 9 to 10 of `SupplyLossAndReturn` are met. -/
theorem test_hyp_SupplyLossAndReturn_3 :
    (∃ (s : State),
      Shape s ∧ s.pw.vbkp = false ∧ s.pw.vsup = true) ∧
    (∃ (s : State),
      s.pw.vbkp = false ∧ s.pw.vsup = false) :=
  ⟨⟨{ up with pw.vbkp := false }, by decide +kernel⟩,
   ⟨{ State.reset with pw.vbkp := false, pw.vsup := false }, by decide +kernel⟩⟩

/-- The hypotheses of the clauses of `TheCheckValuePresets` are met. -/
theorem test_hyp_TheCheckValuePresets :
    (∃ (k : Nat),
      4 ≤ k) :=
  ⟨4, by decide +kernel⟩

/-- The hypotheses of clauses 1 to 4 of `TheHeartbeatAndTheGuardZones` are met. -/
theorem test_hyp_TheHeartbeatAndTheGuardZones :
    (∃ (at_ : Nat) (s : State),
      s.sbBeat ≠ Beat.none ∧ s.gd.toggleAt = some at_) ∧
    (∃ (at_ : Nat) (s : State),
      Shape s ∧ s.sbBeat = Beat.hold ∧ s.gd.toggleAt = some at_ ∧ s.now ≤ at_ + 4000 ∧ s.firstHold = false ∧ s.guardJudges = true ∧
          1 ≤ s.gd.holdRun) ∧
    (∃ (at_ : Nat) (s : State),
      Shape s ∧ s.sbBeat = Beat.control ∧ s.gd.toggleAt = some at_ ∧ s.now ≤ at_ + 1000 ∧ s.guardJudges = true ∧ 3 ≤ s.gd.ctlRun) ∧
    (∃ (s : State),
      s.guardOn = true) :=
  ⟨⟨0, { up with gd.toggleAt := some 0 }, by decide +kernel⟩,
   ⟨0, { up with gd.toggleAt := some 0, gd.holdRun := 1, now := 4000 }, by decide +kernel⟩,
   ⟨0, { up with gd.toggleAt := some 0, gd.ctlDue := true, gd.ctlRun := 3, now := 1000 }, by decide +kernel⟩,
   ⟨up, by decide +kernel⟩⟩

/-- The hypotheses of clauses 5 to 6 of `TheHeartbeatAndTheGuardZones` are met. -/
theorem test_hyp_TheHeartbeatAndTheGuardZones_2 :
    (∃ (z : Fin 8) (_ : Fin 2500001) (_ : Int) (_ : Int) (s : State),
      Shape s ∧ s.guardOn = true ∧ s.gd.toApply = [] ∧ (s.gz z.val).enabled = true) ∧
    (∃ (z : Fin 8) (s : State),
      Shape s ∧ s.guardOn = true ∧ (s.gz z.val).enabled = true) :=
  ⟨⟨7, 2500000, 0, 0, { up with gd.zones := lset up.gd.zones 7 { cfg := [0x80000000] } }, by decide +kernel⟩,
   ⟨7, { up with gd.zones := lset up.gd.zones 7 { cfg := [0x80000000] } }, by decide +kernel⟩⟩

/-- The hypotheses of the clauses of `TheNewerOfTwoCopies` are met. -/
theorem test_hyp_TheNewerOfTwoCopies :
    (∃ (m : Mem) (a : Nat) (lmax : Nat) (_ : List Byte) (x : RecCopy) (y : RecCopy),
      readCopy m a lmax = some x ∧ readCopy m (a + slotSize lmax) lmax = some y ∧ x.seq < 2 ^ 32 ∧ y.seq < 2 ^ 32 ∧
          seqNewer x.seq y.seq = true) ∧
    (∃ (m : Mem) (a : Nat) (lmax : Nat) (_ : List Byte) (x : RecCopy) (y : RecCopy),
      readCopy m a lmax = some x ∧ readCopy m (a + slotSize lmax) lmax = some y ∧ x.seq < 2 ^ 32 ∧ y.seq < 2 ^ 32 ∧
          seqNewer y.seq x.seq = true) ∧
    (∃ (s : State) (r : Nat) (k : Nat) (_ : Bool) (_ : List Byte),
      (s.recSel r k).seq = 2 ^ 32 - 1) :=
  ⟨⟨Mem.writeBytes 0 (copyBytes 0 2 false [5#8]) (Mem.writeBytes (slotSize 1) (copyBytes (slotSize 1) 1 true [7#8]) []), 0, 1, [],
      { v1 := false, seq := 2, dflt := false, data := [5#8] }, { v1 := false, seq := 1, dflt := true, data := [7#8] },
      by decide +kernel⟩,
   ⟨Mem.writeBytes 0 (copyBytes 0 (2 ^ 32 - 1) false [5#8]) (Mem.writeBytes (slotSize 1) (copyBytes (slotSize 1) 0 true [7#8]) []),
       0, 1, [], { v1 := false, seq := 2 ^ 32 - 1, dflt := false, data := [5#8] },
       { v1 := false, seq := 0, dflt := true, data := [7#8] }, by decide +kernel⟩,
   ⟨{ State.reset with rs.cells := Mem.writeBytes (recAddr (State.reset.lens 0) 0 1) (copyBytes (recAddr (State.reset.lens 0) 0 1) (2 ^ 32 - 1) false [1#8]) [] },
       0, 1, false, [2#8], by decide +kernel⟩⟩

/-- The hypotheses of clauses 1 to 4 of `ThePanelAndItsActions` are met. -/
theorem test_hyp_ThePanelAndItsActions :
    (∃ (_ : BitVec 64) (s : State),
      s.panelOn = true ∧ s.pnCf Fd.pnConf.ENABLE ≠ 0 ∧ s.pnCf Fd.pnConf.DIODE ≠ 0 ∧ s.pn.frozenO = 0 ∧ s.pn.frozenI = 0) ∧
    (∃ (k : Fin 64) (at_ : Nat) (s : State),
      Shape s ∧ s.pn.down.getD (k.val) none = some at_ ∧ s.panelOn = true ∧ bitOf s.pn.stuck k.val = false) ∧
    (∃ (e : Fin 4) (a : Bool) (b : Bool) (us : Fin 65536) (s : State),
      Shape s ∧ s.encOn e.val = true ∧ (s.enc e.val).rawA = (s.enc e.val).a ∧ (s.enc e.val).rawB = (s.enc e.val).b ∧
          (s.enc e.val).a ≠ a ∧ (s.enc e.val).b = b ∧ s.cf (pnObj (e.val + 1) 32) Fd.enConf.FILT_US ≤ us.val) ∧
    (∃ (e : Fin 4) (a : Bool) (b : Bool) (us : Fin 65536) (s : State),
      Shape s ∧ s.encOn e.val = true ∧ (s.enc e.val).rawA = (s.enc e.val).a ∧ (s.enc e.val).rawB = (s.enc e.val).b ∧
          (s.enc e.val).a = a ∧ (s.enc e.val).b ≠ b ∧ s.cf (pnObj (e.val + 1) 32) Fd.enConf.FILT_US ≤ us.val) :=
  ⟨⟨1#64, put (pnObj 0 0x020) Fd.pnConf.DIODE 1 (put (pnObj 0 0x020) Fd.pnConf.ENABLE 1 up), by decide +kernel⟩,
   ⟨63, 0, { up with pn.down := List.replicate 63 none ++ [some 0] }, by decide +kernel⟩,
   ⟨3, true, false, 65535, put (pnObj 4 0x020) Fd.enConf.ENABLE 1 up, by decide +kernel⟩,
   ⟨3, false, true, 65535, put (pnObj 4 0x020) Fd.enConf.ENABLE 1 up, by decide +kernel⟩⟩

/-- The hypotheses of clauses 5 to 8 of `ThePanelAndItsActions` are met. -/
theorem test_hyp_ThePanelAndItsActions_2 :
    (∃ (e : Fin 4) (_ : Bool) (_ : Bool) (us : Fin 65536) (s : State),
      Shape s ∧ s.encOn e.val = true ∧ (s.enc e.val).rawA = (s.enc e.val).a ∧ (s.enc e.val).rawB = (s.enc e.val).b ∧
          us.val < s.cf (pnObj (e.val + 1) 32) Fd.enConf.FILT_US) ∧
    (∃ (e : Fin 4) (a : Bool) (b : Bool) (us : Fin 65536) (s : State),
      Shape s ∧ s.encOn e.val = true ∧ (s.enc e.val).rawA = a ∧ (s.enc e.val).rawB = b ∧ (s.enc e.val).a ≠ a ∧ (s.enc e.val).b = b ∧
          s.cf (pnObj (e.val + 1) 32) Fd.enConf.FILT_US ≤ 1000 ∧
          s.cf (pnObj (e.val + 1) 32) Fd.enConf.FILT_US ≤ (s.enc e.val).runA + us.val) ∧
    (∃ (e : Fin 4) (a : Bool) (b : Bool) (us : Fin 65536) (s : State),
      Shape s ∧ s.encOn e.val = true ∧ (s.enc e.val).rawA = a ∧ (s.enc e.val).rawB = b ∧ (s.enc e.val).a = a ∧ (s.enc e.val).b ≠ b ∧
          s.cf (pnObj (e.val + 1) 32) Fd.enConf.FILT_US ≤ 1000 ∧
          s.cf (pnObj (e.val + 1) 32) Fd.enConf.FILT_US ≤ (s.enc e.val).runB + us.val) ∧
    (∃ (e : Fin 4) (a : Bool) (b : Bool) (us : Fin 65536) (s : State),
      Shape s ∧ s.encOn e.val = true ∧ (s.enc e.val).rawA = (s.enc e.val).a ∧ (s.enc e.val).rawB = (s.enc e.val).b ∧
          (s.enc e.val).a ≠ a ∧ (s.enc e.val).b ≠ b ∧ s.cf (pnObj (e.val + 1) 32) Fd.enConf.FILT_US ≤ us.val) :=
  ⟨⟨3, true, true, 999, put (pnObj 4 0x020) Fd.enConf.FILT_US 1000 (put (pnObj 4 0x020) Fd.enConf.ENABLE 1 up), by decide +kernel⟩,
   ⟨3, true, false, 1,
       { put (pnObj 4 0x020) Fd.enConf.FILT_US 1000 (put (pnObj 4 0x020) Fd.enConf.ENABLE 1 up) with pn.encs := lset up.pn.encs 3 { rawA := true, runA := 999 } },
       by decide +kernel⟩,
   ⟨3, false, true, 1,
       { put (pnObj 4 0x020) Fd.enConf.FILT_US 1000 (put (pnObj 4 0x020) Fd.enConf.ENABLE 1 up) with pn.encs := lset up.pn.encs 3 { rawB := true, runB := 999 } },
       by decide +kernel⟩,
   ⟨3, true, true, 65535, put (pnObj 4 0x020) Fd.enConf.ENABLE 1 up, by decide +kernel⟩⟩

/-- The hypotheses of clauses 9 to 12 of `ThePanelAndItsActions` are met. -/
theorem test_hyp_ThePanelAndItsActions_3 :
    (∃ (e : Fin 4) (s : State),
      Shape s ∧ s.encOn e.val = true) ∧
    (∃ (e : Fin 4) (s : State),
      Shape s ∧ s.encOn e.val = true ∧ s.cf (pnObj (e.val + 1) 32) Fd.enConf.FUNC ≠ 0 ∧ (s.enc e.val).steps ≠ 0) ∧
    (∃ (k : Nat) (s : State),
      s.host.reqs = [{ origin := Origin.panel (PanelAct.key k) }] ∧ s.host.replies = [] ∧ s.serves = true ∧ s.panelActs = true) ∧
    (∃ (e : Nat) (n : Int) (s : State),
      s.host.reqs = [{ origin := Origin.panel (PanelAct.enc e n) }] ∧ s.host.replies = [] ∧ s.serves = true ∧ s.panelActs = true) :=
  ⟨⟨3, put (pnObj 4 0x020) Fd.enConf.ENABLE 1 up, by decide +kernel⟩,
   ⟨3, { put (pnObj 4 32) Fd.enConf.FUNC 2 (put (pnObj 4 0x020) Fd.enConf.ENABLE 1 up) with pn.encs := lset up.pn.encs 3 { steps := -1 } },
       by decide +kernel⟩,
   ⟨63, { up with host.reqs := [{ origin := .panel (.key 63) }] }, by decide +kernel⟩,
   ⟨3, -1, { up with host.reqs := [{ origin := .panel (.enc 3 (-1)) }] }, by decide +kernel⟩⟩

/-- The hypotheses of the clauses of `TheRecordIsServed` are met. -/
theorem test_hyp_TheRecordIsServed :
    (∃ (m : Mem) (a : Nat) (lmax : Nat) (seq : Nat) (old : List Byte) (new : List Byte) (_ : List Byte) (c : RecCopy) (inA : Bool),
      m.wf = true ∧ new.length ≤ lmax ∧ lmax < 65536 ∧ seq < 2 ^ 32 ∧ c.seq = seq ∧ c.v1 = false ∧ c.data = old ∧
          (readCopy m a lmax = if inA = true then some c else none) ∧
          (readCopy m (a + slotSize lmax) lmax = if inA = true then none else some c)) :=
  ⟨Mem.writeBytes 0 (copyBytes 0 3 false [5#8]) [], 0, 1, 3, [5#8], [6#8], [],
      { v1 := false, seq := 3, dflt := false, data := [5#8] }, true, by decide +kernel⟩

/-- The hypotheses of the clauses of `TheTimetableRuns` are met. -/
theorem test_hyp_TheTimetableRuns :
    (∃ (p : Fin 3) (m : List Byte) (s : State) (_ : Option (Fin 4096)),
      Shape s ∧ (s.port p.val).tt.active = some m ∧ (s.port p.val).tt.st ≠ TtSt.off ∧ (s.port p.val).tt.master = true ∧
          mxNtu m * (s.canTim p.val).nom ≠ 0) ∧
    (∃ (p : Fin 3) (m : List Byte) (s : State),
      Shape s ∧ (s.port p.val).tt.active = some m ∧ (s.port p.val).tt.cycling = true ∧ (s.port p.val).tt.master = false ∧
          mxNtu m * (s.canTim p.val).nom ≠ 0) ∧
    (∃ (p : Fin 3) (m : List Byte) (w : Nat) (s : State) (_ : Option (Fin 4096)),
      Shape s ∧ (s.port p.val).tt.active = some m ∧ (s.port p.val).tt.win = some w ∧ (s.port p.val).tt.cycling = true ∧
          w + 1 < mxWindows m) ∧
    (∃ (p : Fin 3) (m : List Byte) (w : Nat) (s : State) (it : TxItem),
      Shape s ∧ (s.port p.val).tt.active = some m ∧ (s.port p.val).tt.win = some w ∧ (s.port p.val).tt.cycling = true ∧
          w + 1 < mxWindows m ∧ cellTx ((s.port p.val).tt.cell (w + 1)) = true ∧
          (s.port p.val).item false (cellBuf ((s.port p.val).tt.cell (w + 1))) = some it ∧ (s.port p.val).tt.st = TtSt.running ∧
          (s.port p.val).st = CanSt.active ∧ (s.port p.val).alone = false ∧ (s.port p.val).reconf = false ∧
          (s.port p.val).air = none ∧ (s.port p.val).tec ≤ 255) :=
  ⟨⟨2, ([0#8, 0#8, 0#8, 2#8, 1#8, 0#8]),
      portAt { tt := { active := some ([0#8, 0#8, 0#8, 2#8, 1#8, 0#8]), st := .running, master := true } } net, none,
      by decide +kernel⟩,
   ⟨2, ([0#8, 0#8, 0#8, 2#8, 1#8, 0#8]), portAt { tt := { active := some ([0#8, 0#8, 0#8, 2#8, 1#8, 0#8]), st := .running } } net,
       by decide +kernel⟩,
   ⟨2, ([0#8, 0#8, 0#8, 2#8, 1#8, 0#8]), 0,
       portAt { tt := { active := some ([0#8, 0#8, 0#8, 2#8, 1#8, 0#8]), win := some 0, st := .running } } net, some 4095,
       by decide +kernel⟩,
   ⟨2, ([0#8, 0#8, 0#8, 2#8, 1#8, 0#8]), 0,
       portAt { st := .active, tx := [({ queue := false, idx := 31, frame := {}, use := .raw })], tt := { active := some ([0#8, 0#8, 0#8, 2#8, 1#8, 0#8]), win := some 0, st := .running, banks := [[0, 2 ^ 29 + 31 * 2 ^ 24], []] } }
       net, ({ queue := false, idx := 31, frame := {}, use := .raw }), by decide +kernel⟩⟩

/-- The hypotheses of clauses 1 to 4 of `TimersOfTheZones` are met. -/
theorem test_hyp_TimersOfTheZones :
    (∃ (z : Fin 32) (at_ : Nat) (s : State),
      Shape s ∧ (s.zone z.val).pres.doorEnd = some at_ ∧ s.zonesRun = true ∧ s.zoneOn z.val = true ∧
          (s.zone z.val).pres.motion = false ∧ s.cfb (znObj (z.val) 32) Fd.znConf.PRES_EN = true ∧
          s.motionAt (z.val) (s.cf (prObj (z.val) 32) Fd.presConf.PIR0_PT) (s.zone z.val).pres.pir0 = false ∧
          s.motionAt (z.val) (s.cf (prObj (z.val) 32) Fd.presConf.PIR1_PT) (s.zone z.val).pres.pir1 = false) ∧
    (∃ (z : Fin 32) (s : State),
      Shape s ∧ s.zonesRun = true ∧ s.zoneOn z.val = true ∧ s.cfb (znObj (z.val) 32) Fd.znConf.PRES_EN = true ∧
          (s.zone z.val).sched = 0 ∧ (s.zone z.val).pres.occ = false ∧ s.cf (znObj (z.val) 32) Fd.znConf.VACANT_HOLD_S ≠ 0 ∧
          (s.zone z.val).released = false ∧ s.coreOf z.val < 4) ∧
    (∃ (k : Fin 64) (at_ : Nat) (s : State),
      Shape s ∧ (s.loop k.val).badAt = some at_ ∧ s.zonesRun = true ∧ (s.loop k.val).st = LState.hold ∧
          s.coreOf (s.cf (lpObj (k.val) 32) Fd.loopConf.ZONE) < 4) ∧
    (∃ (z : Fin 32) (s : State),
      Shape s ∧ (s.zone z.val).ovr.isSome = true ∧ s.mn.phase = Phase.run) :=
  ⟨⟨31, 0, (put (znObj 31 32) Fd.znConf.PRES_EN 1 (put (znObj 31 32) Fd.znConf.ENABLE 1 up)).modZone 31 fun _ =>
      { pres := { doorEnd := some 0 } }, by decide +kernel⟩,
   ⟨31, (put (znObj 31 32) Fd.znConf.PRES_EN 1 (put (znObj 31 32) Fd.znConf.ENABLE 1 up)).modZone 31 fun _ => { sched := 0 },
       by decide +kernel⟩,
   ⟨63, 0, (put (lpObj 63 32) Fd.loopConf.ZONE 31 up).modLoop 63 fun _ => { st := .hold, badAt := some 0 }, by decide +kernel⟩,
   ⟨31, up.modZone 31 fun _ => { ovr := some 2 }, by decide +kernel⟩⟩

/-- The hypotheses of clause 5 of `TimersOfTheZones` are met. -/
theorem test_hyp_TimersOfTheZones_2 :
    (∃ (st : Stage) (d : Direct) (at_ : Nat) (s : State),
      s.directOf st = some d ∧ d.endAt = some at_) :=
  ⟨.fan 11, ({ stage := .fan 11, value := 0#32, endAt := some 5 }), 5,
      { up with act.direct := [({ stage := .fan 11, value := 0#32, endAt := some 5 })] }, by decide +kernel⟩

/-- The hypotheses of clauses 1 to 4 of `TransfersAndTheSilentHost` are met. -/
theorem test_hyp_TransfersAndTheSilentHost :
    (∃ (d : Fin 64) (x : Xfer) (s : State),
      Shape s ∧ MemOk s ∧ s.xferOf d.val = some x ∧ x.waitsHost = false ∧ x.toHost = true ∧ x.stream ≠ 0 ∧ x.stream < 256 ∧
          ClearOfTable s d.val ∧ s.descSize d.val < x.total - x.moved) ∧
    (∃ (d : Fin 64) (x : Xfer) (s : State) (n : Nat),
      Shape s ∧ MemOk s ∧ s.xferOf d.val = some x ∧ x.waitsHost = false ∧ x.toHost = true ∧ x.stream ≠ 0 ∧ x.stream < 256 ∧
          ClearOfTable s d.val ∧ x.hdr.origin = Origin.host n ∧ n < 8 ∧ x.total - x.moved ≤ s.descSize d.val) ∧
    (∃ (d : Fin 64) (x : Xfer) (s : State),
      Shape s ∧ MemOk s ∧ s.xferOf d.val = some x ∧ x.waitsHost = false ∧ x.toHost = false ∧ s.descLast d.val = false ∧
          s.descFill d.val ≤ s.descSize d.val ∧ s.descFill d.val ≠ 0) ∧
    (∃ (d : Fin 64) (x : Xfer) (s : State) (n : Nat),
      Shape s ∧ MemOk s ∧ s.xferOf d.val = some x ∧ x.waitsHost = false ∧ x.toHost = false ∧ s.descLast d.val = false ∧
          s.descFill d.val ≤ s.descSize d.val ∧ s.descFill d.val = 0 ∧ x.hdr.origin = Origin.host n ∧ n < 8 ∧ x.stream < 256) :=
  ⟨⟨63, ({ hdr := { origin := .host 7, opcode := 0x20, seq := 1, object := sysIdent }, desc := 63, stream := 1, sub := 0, toHost := true, total := 257 }),
      { descAt 2 0 0 up with host.xfers := [({ hdr := { origin := .host 7, opcode := 0x20, seq := 1, object := sysIdent }, desc := 63, stream := 1, sub := 0, toHost := true, total := 257 })] },
      by decide +kernel⟩,
   ⟨63, ({ hdr := { origin := .host 7, opcode := 0x20, seq := 1, object := sysIdent }, desc := 63, stream := 255, sub := 0, toHost := true, total := 256 }),
       { descAt 2 0 0 up with host.xfers := [({ hdr := { origin := .host 7, opcode := 0x20, seq := 1, object := sysIdent }, desc := 63, stream := 255, sub := 0, toHost := true, total := 256 })] },
       7, by decide +kernel⟩,
   ⟨63, ({ hdr := { origin := .host 7, opcode := 0x21, seq := 1, object := sysIdent }, desc := 63, stream := 2, sub := 0, toHost := false, total := 256 }),
       { descAt 2 0 256 up with host.xfers := [({ hdr := { origin := .host 7, opcode := 0x21, seq := 1, object := sysIdent }, desc := 63, stream := 2, sub := 0, toHost := false, total := 256 })] },
       by decide +kernel⟩,
   ⟨63, ({ hdr := { origin := .host 7, opcode := 0x21, seq := 1, object := sysIdent }, desc := 63, stream := 255, sub := 0, toHost := false, total := 256 }),
       { descAt 2 0 0 up with host.xfers := [({ hdr := { origin := .host 7, opcode := 0x21, seq := 1, object := sysIdent }, desc := 63, stream := 255, sub := 0, toHost := false, total := 256 })] },
       7, by decide +kernel⟩⟩

/-- The hypotheses of clauses 5 to 6 of `TransfersAndTheSilentHost` are met. -/
theorem test_hyp_TransfersAndTheSilentHost_2 :
    (∃ (d : Fin 64) (n : Nat) (x : Xfer) (s : State),
      Shape s ∧ MemOk s ∧ s.xferOf d.val = some x ∧ x.waitsHost = true ∧ x.hdr.origin = Origin.host n ∧ n < 8 ∧ x.stream < 256) ∧
    (∃ (s : State),
      s.mn.ready = true ∧ s.cf (sysObj 64) Fd.hostlink.LINK_TMO_S ≠ 0 ∧ s.host.linkLost = false) :=
  ⟨⟨63, 7, ({ hdr := { origin := .host 7, opcode := 0x21, seq := 1, object := sysIdent }, desc := 63, stream := 255, sub := 0, toHost := false, total := 256, waitsHost := true }),
      { descAt 2 0 0 up with host.xfers := [({ hdr := { origin := .host 7, opcode := 0x21, seq := 1, object := sysIdent }, desc := 63, stream := 255, sub := 0, toHost := false, total := 256, waitsHost := true })] },
      by decide +kernel⟩,
   ⟨up, by decide +kernel⟩⟩

/-- The hypotheses of clauses 1 to 4 of `WindowCommands` are met. -/
theorem test_hyp_WindowCommands :
    (∃ (n : Nat) (k : Task) (s : State),
      Shape s ∧ MemOk s ∧ Due s 32 n k ∧ leAt k.payload 0 1 ≤ 63 ∧ dirOk (leAt k.payload 1 1) true = true ∧
          subOk (leAt k.payload 1 1) (leAt k.payload 2 2) = true ∧ leAt k.payload 8 4 ≠ 0 ∧ leAt k.payload 8 4 ≤ 16777216 ∧
          s.streamOpen (leAt k.payload 1 1) (leAt k.payload 2 2) true = true ∧ s.xferBuf (leAt k.payload 0 1) = true ∧
          leAt k.payload 1 1 ≠ 0) ∧
    (∃ (n : Nat) (k : Task) (s : State),
      Shape s ∧ MemOk s ∧ Due s 32 n k ∧ leAt k.payload 0 1 ≤ 63 ∧ dirOk (leAt k.payload 1 1) true = true ∧
          subOk (leAt k.payload 1 1) (leAt k.payload 2 2) = true ∧ leAt k.payload 8 4 ≠ 0 ∧ leAt k.payload 8 4 ≤ 16777216 ∧
          s.streamOpen (leAt k.payload 1 1) (leAt k.payload 2 2) true = true ∧ s.xferBuf (leAt k.payload 0 1) = true ∧
          leAt k.payload 1 1 = 0) ∧
    (∃ (n : Nat) (k : Task) (s : State),
      Shape s ∧ MemOk s ∧ Due s 32 n k ∧ leAt k.payload 0 1 ≤ 63 ∧ dirOk (leAt k.payload 1 1) true = true ∧
          subOk (leAt k.payload 1 1) (leAt k.payload 2 2) = true ∧ leAt k.payload 8 4 ≠ 0 ∧ leAt k.payload 8 4 ≤ 16777216 ∧
          s.streamOpen (leAt k.payload 1 1) (leAt k.payload 2 2) true = true ∧ s.xferBuf (leAt k.payload 0 1) = false) ∧
    (∃ (n : Nat) (k : Task) (s : State) (c : Instr),
      Shape s ∧ MemOk s ∧ (c = Instr.xferRead ∧ Due s 32 n k ∧ dirOk (leAt k.payload 1 1) true = false ∨ c = Instr.xferWrite ∧
          Due s 33 n k ∧ dirOk (leAt k.payload 1 1) false = false) ∧ leAt k.payload 0 1 ≤ 63) :=
  ⟨⟨7, task (ask 0x20 sysIdent ([63#8, 8#8] ++ leBytes 2 0 ++ leBytes 4 0 ++ leBytes 4 16777216) (descAt 2 0 0 up)),
      (ask 0x20 sysIdent ([63#8, 8#8] ++ leBytes 2 0 ++ leBytes 4 0 ++ leBytes 4 16777216) (descAt 2 0 0 up)), by decide +kernel,
      by decide +kernel, dueOf rfl (by decide +kernel), by decide +kernel⟩,
   ⟨7, task (ask 0x20 sysIdent ([63#8, 0#8] ++ leBytes 2 0 ++ leBytes 4 0 ++ leBytes 4 1) (descAt 2 0 0 up)),
       (ask 0x20 sysIdent ([63#8, 0#8] ++ leBytes 2 0 ++ leBytes 4 0 ++ leBytes 4 1) (descAt 2 0 0 up)), by decide +kernel,
       by decide +kernel, dueOf rfl (by decide +kernel), by decide +kernel⟩,
   ⟨7, task (ask 0x20 sysIdent ([63#8, 1#8] ++ leBytes 2 0 ++ leBytes 4 0 ++ leBytes 4 1) up),
       (ask 0x20 sysIdent ([63#8, 1#8] ++ leBytes 2 0 ++ leBytes 4 0 ++ leBytes 4 1) up), by decide +kernel, by decide +kernel,
       dueOf rfl (by decide +kernel), by decide +kernel⟩,
   ⟨7, task (ask 0x21 sysIdent ([63#8, 8#8, 0#8, 0#8] ++ leBytes 4 0 ++ leBytes 4 1) up),
       (ask 0x21 sysIdent ([63#8, 8#8, 0#8, 0#8] ++ leBytes 4 0 ++ leBytes 4 1) up), .xferWrite, by decide +kernel,
       by decide +kernel, .inr ⟨rfl, dueOf rfl (by decide +kernel), by decide +kernel⟩, by decide +kernel⟩⟩

/-- The hypotheses of clauses 5 to 8 of `WindowCommands` are met. -/
theorem test_hyp_WindowCommands_2 :
    (∃ (n : Nat) (k : Task) (s : State),
      Shape s ∧ MemOk s ∧ Due s 33 n k ∧ leAt k.payload 0 1 ≤ 63 ∧ dirOk (leAt k.payload 1 1) false = true ∧
          subOk (leAt k.payload 1 1) (leAt k.payload 2 2) = true ∧ leAt k.payload 4 4 = 0 ∧ leAt k.payload 8 4 ≠ 0 ∧
          leAt k.payload 8 4 ≤ 16777216 ∧ s.streamOpen (leAt k.payload 1 1) (leAt k.payload 2 2) false = true ∧
          s.xferBuf (leAt k.payload 0 1) = true) ∧
    (∃ (n : Nat) (k : Task) (s : State),
      Shape s ∧ MemOk s ∧ Due s 33 n k ∧ leAt k.payload 0 1 ≤ 63 ∧ dirOk (leAt k.payload 1 1) false = true ∧
          subOk (leAt k.payload 1 1) (leAt k.payload 2 2) = true ∧ leAt k.payload 4 4 = 0 ∧ leAt k.payload 8 4 ≠ 0 ∧
          leAt k.payload 8 4 ≤ 16777216 ∧ s.streamOpen (leAt k.payload 1 1) (leAt k.payload 2 2) false = true ∧
          s.xferBuf (leAt k.payload 0 1) = false) ∧
    (∃ (n : Nat) (k : Task) (s : State) (c : CrcParams),
      Shape s ∧ MemOk s ∧ Due s 34 n k ∧ leAt k.payload 0 1 ≤ 63 ∧ crcPreset (leAt k.payload 1 1) = some c ∧
          leAt k.payload 2 1 ≤ 1 ∧ leAt k.payload 3 1 ≤ 8 ∧ (∀ (i : Nat),
          leAt k.payload 3 1 ≤ i → i < 8 → k.payload.getD (4 + i) 0#8 = 0#8) ∧ leAt k.payload 12 4 ≠ 0 ∧
          s.deviceBuf (leAt k.payload 0 1) = false) ∧
    (∃ (n : Nat) (k : Task) (s : State) (c : CrcParams),
      Shape s ∧ MemOk s ∧ Due s 34 n k ∧ leAt k.payload 0 1 ≤ 63 ∧ crcPreset (leAt k.payload 1 1) = some c ∧
          leAt k.payload 2 1 ≤ 1 ∧ leAt k.payload 3 1 ≤ 8 ∧ (∀ (i : Nat),
          leAt k.payload 3 1 ≤ i → i < 8 → k.payload.getD (4 + i) 0#8 = 0#8) ∧
          s.descSize (leAt k.payload 0 1) < leAt k.payload 12 4 ∧ s.deviceBuf (leAt k.payload 0 1) = true ∧
          s.descUse (leAt k.payload 0 1) = 0) :=
  ⟨⟨7, task (ask 0x21 sysIdent ([63#8, 3#8] ++ leBytes 2 0xFFF ++ leBytes 4 0 ++ leBytes 4 16) (descAt 2 0 0 up)),
      (ask 0x21 sysIdent ([63#8, 3#8] ++ leBytes 2 0xFFF ++ leBytes 4 0 ++ leBytes 4 16) (descAt 2 0 0 up)), by decide +kernel,
      by decide +kernel, dueOf rfl (by decide +kernel), by decide +kernel⟩,
   ⟨7, task (ask 0x21 sysIdent ([63#8, 3#8] ++ leBytes 2 0xFFF ++ leBytes 4 0 ++ leBytes 4 16) up),
       (ask 0x21 sysIdent ([63#8, 3#8] ++ leBytes 2 0xFFF ++ leBytes 4 0 ++ leBytes 4 16) up), by decide +kernel, by decide +kernel,
       dueOf rfl (by decide +kernel), by decide +kernel⟩,
   ⟨7, task (ask 0x22 sysIdent ([63#8, 0#8, 0#8, 8#8] ++ leBytes 8 0 ++ leBytes 4 (2 ^ 32 - 1)) up),
       (ask 0x22 sysIdent ([63#8, 0#8, 0#8, 8#8] ++ leBytes 8 0 ++ leBytes 4 (2 ^ 32 - 1)) up), crc8Smbus, by decide +kernel,
       by decide +kernel, dueOf rfl (by decide +kernel), by decide +kernel, by decide +kernel, by decide +kernel, by decide +kernel,
       fun i h g => absurd (Nat.lt_of_lt_of_le g (Nat.le_trans (by decide +kernel : 8 ≤ leAt (task (ask 0x22 sysIdent ([63#8, 0#8,
       0#8, 8#8] ++ leBytes 8 0 ++ leBytes 4 (2 ^ 32 - 1)) up)).payload 3 1) h)) (Nat.lt_irrefl i), by decide +kernel⟩,
   ⟨7, task (ask 0x22 sysIdent ([63#8, 0#8, 0#8, 8#8] ++ leBytes 8 0 ++ leBytes 4 257) (descAt 2 0 0 up)),
       (ask 0x22 sysIdent ([63#8, 0#8, 0#8, 8#8] ++ leBytes 8 0 ++ leBytes 4 257) (descAt 2 0 0 up)), crc8Smbus, by decide +kernel,
       by decide +kernel, dueOf rfl (by decide +kernel), by decide +kernel, by decide +kernel, by decide +kernel, by decide +kernel,
       fun i h g => absurd (Nat.lt_of_lt_of_le g (Nat.le_trans (by decide +kernel : 8 ≤ leAt (task (ask 0x22 sysIdent ([63#8, 0#8,
       0#8, 8#8] ++ leBytes 8 0 ++ leBytes 4 257) (descAt 2 0 0 up))).payload 3 1) h)) (Nat.lt_irrefl i), by decide +kernel⟩⟩

/-- The hypotheses of clauses 9 to 10 of `WindowCommands` are met. -/
theorem test_hyp_WindowCommands_3 :
    (∃ (n : Nat) (k : Task) (s : State) (c : CrcParams),
      Shape s ∧ MemOk s ∧ Due s 34 n k ∧ leAt k.payload 0 1 ≤ 63 ∧ crcPreset (leAt k.payload 1 1) = some c ∧
          leAt k.payload 2 1 ≤ 1 ∧ leAt k.payload 3 1 ≤ 8 ∧ (∀ (i : Nat),
          leAt k.payload 3 1 ≤ i → i < 8 → k.payload.getD (4 + i) 0#8 = 0#8) ∧ leAt k.payload 12 4 ≠ 0 ∧
          s.deviceBuf (leAt k.payload 0 1) = true ∧ s.descUse (leAt k.payload 0 1) = 0 ∧ leAt k.payload 2 1 = 0 ∧
          leAt k.payload 12 4 + c.width / 8 ≤ s.descSize (leAt k.payload 0 1)) ∧
    (∃ (n : Nat) (k : Task) (s : State) (c : CrcParams),
      Shape s ∧ MemOk s ∧ Due s 34 n k ∧ leAt k.payload 0 1 ≤ 63 ∧ crcPreset (leAt k.payload 1 1) = some c ∧
          leAt k.payload 2 1 ≤ 1 ∧ leAt k.payload 3 1 ≤ 8 ∧ (∀ (i : Nat),
          leAt k.payload 3 1 ≤ i → i < 8 → k.payload.getD (4 + i) 0#8 = 0#8) ∧ leAt k.payload 12 4 ≠ 0 ∧
          s.deviceBuf (leAt k.payload 0 1) = true ∧ s.descUse (leAt k.payload 0 1) = 0 ∧ leAt k.payload 2 1 = 1 ∧
          c.width / 8 ≤ leAt k.payload 12 4 ∧ leAt k.payload 12 4 ≤ s.descSize (leAt k.payload 0 1)) :=
  ⟨⟨7, task (ask 0x22 sysIdent ([63#8, 0#8, 0#8, 8#8] ++ leBytes 8 0 ++ leBytes 4 255) (descAt 2 0 0 up)),
      (ask 0x22 sysIdent ([63#8, 0#8, 0#8, 8#8] ++ leBytes 8 0 ++ leBytes 4 255) (descAt 2 0 0 up)), crc8Smbus, by decide +kernel,
      by decide +kernel, dueOf rfl (by decide +kernel), by decide +kernel, by decide +kernel, by decide +kernel, by decide +kernel,
      fun i h g => absurd (Nat.lt_of_lt_of_le g (Nat.le_trans (by decide +kernel : 8 ≤ leAt (task (ask 0x22 sysIdent ([63#8, 0#8,
      0#8, 8#8] ++ leBytes 8 0 ++ leBytes 4 255) (descAt 2 0 0 up))).payload 3 1) h)) (Nat.lt_irrefl i), by decide +kernel⟩,
   ⟨7, task (ask 0x22 sysIdent ([63#8, 3#8, 1#8, 8#8] ++ leBytes 8 0 ++ leBytes 4 256) (descAt 2 0 0 up)),
       (ask 0x22 sysIdent ([63#8, 3#8, 1#8, 8#8] ++ leBytes 8 0 ++ leBytes 4 256) (descAt 2 0 0 up)), crc32c, by decide +kernel,
       by decide +kernel, dueOf rfl (by decide +kernel), by decide +kernel, by decide +kernel, by decide +kernel, by decide +kernel,
       fun i h g => absurd (Nat.lt_of_lt_of_le g (Nat.le_trans (by decide +kernel : 8 ≤ leAt (task (ask 0x22 sysIdent ([63#8, 3#8,
       1#8, 8#8] ++ leBytes 8 0 ++ leBytes 4 256) (descAt 2 0 0 up))).payload 3 1) h)) (Nat.lt_irrefl i), by decide +kernel⟩⟩

/-- The hypotheses of clauses 1 to 4 of `ZoneInstantComputesTheZones` are met. -/
theorem test_hyp_ZoneInstantComputesTheZones :
    (∃ (s : State),
      Shape s ∧ s.zonesRun = true ∧ s.per.running = true ∧ s.per.inCo = false ∧ s.per.instantDone = false ∧
          max s.now s.zoneInstantAt < s.tc) ∧
    (∃ (us : Nat) (sv : Solve) (s : State),
      s.pr.solve = some sv ∧ sv.startAt + us < s.zoneInstantAt) ∧
    (∃ (us : Nat) (sv : Solve) (s : State),
      s.pr.solve = some sv ∧ s.zoneInstantAt ≤ sv.startAt + us) ∧
    (∃ (c : Fin 4) (e : QE PntVal) (rest : List (QE PntVal)) (s : State),
      Shape s ∧ s.mn.phase = Phase.run ∧ s.mn.mode ≠ Mode.siding ∧ s.pastTc = false ∧ s.zs.qPnt.getD c.val [] = e :: rest ∧
          s.zs.pntWait = []) :=
  ⟨⟨up, by decide +kernel⟩,
   ⟨0, ({ startAt := 0, period := 0, nSteps := 1, nBlocks := 1, zones := [] }),
       { up with pr.solve := some ({ startAt := 0, period := 0, nSteps := 1, nBlocks := 1, zones := [] }) }, by decide +kernel⟩,
   ⟨1000000, ({ startAt := 0, period := 0, nSteps := 1, nBlocks := 1, zones := [] }),
       { up with pr.solve := some ({ startAt := 0, period := 0, nSteps := 1, nBlocks := 1, zones := [] }) }, by decide +kernel⟩,
   ⟨3, ({ val := .point 159 0#32 .good 0, prod := 0 }), [],
       { up with zs.qPnt := [[], [], [], [({ val := .point 159 0#32 .good 0, prod := 0 })]] }, by decide +kernel⟩⟩

/-- The hypotheses of clauses 5 to 8 of `ZoneInstantComputesTheZones` are met. -/
theorem test_hyp_ZoneInstantComputesTheZones_2 :
    (∃ (c : Fin 4) (s : State),
      Shape s ∧ s.mn.phase = Phase.run ∧ s.mn.mode ≠ Mode.siding ∧ s.pastTc = false ∧ s.zs.qPnt.getD c.val [] = []) ∧
    (∃ (_ : Fin 4) (s : State),
      s.pastTc = true) ∧
    (∃ (c : Fin 4) (s : State),
      Shape s ∧ s.mn.phase = Phase.run ∧ (s.core c.val).online = true ∧ (s.zs.qPnt.getD c.val [] ≠ [] ∨ s.per.instantDone = true ∧
          s.coreUndone c.val ≠ [])) ∧
    (∃ (at_ : Nat) (s : State),
      s.per.emptyAt = some at_ ∧ s.mn.phase = Phase.run ∧ (∀ c < 4, (s.core c).online = false)) :=
  ⟨⟨3, up, by decide +kernel⟩,
   ⟨3, { up with now := 998000 }, by decide +kernel⟩,
   ⟨3, { up with per.undone := [31], per.instantDone := true }, by decide +kernel⟩,
   ⟨0, { up with per.emptyAt := some 0, per.cores := List.replicate 4 { online := false } }, by decide +kernel⟩⟩

end Sys2Proof.Tests
end

section
/-!
PROOFS. Sys2Proof/Proofs/HostRegisters.lean: what the host's writes to the hardware registers do (O43): bits that are cleared and
set, reports of violations, transactions that find no request to answer, the slots rung by a doorbell, the descriptor table moved by
`WDESC`, and register writes as SPI transactions.
-/
namespace Sys2Proof.Machine
open Sys2Proof

/-! ### Bits -/

theorem bitOf_eq_testBit (x n : Nat) : bitOf x n = x.testBit n := by
  rw [bitOf, Nat.testBit_eq_decide_div_mod_eq, Nat.shiftRight_eq_div_pow]
  rfl

theorem bitOf_mod_two_pow {n k : Nat} (h : n < k) (x : Nat) : bitOf (x % 2 ^ k) n = bitOf x n := by
  rw [bitOf_eq_testBit, bitOf_eq_testBit, Nat.testBit_mod_two_pow, decide_eq_true h, Bool.true_and]

/-- Clearing commutes with dropping the lowest bit. -/
theorem w1c_div_two (x v : Nat) : w1c x v / 2 = w1c (x / 2) (v / 2) := by
  have hle : x &&& v ≤ x := Nat.and_le_left
  have hdiv : (x &&& v) / 2 = x / 2 &&& v / 2 := Nat.and_div_two
  have hmod : (x &&& v) % 2 = 1 → x % 2 = 1 := fun h => (Nat.and_mod_two_eq_one.mp h).1
  simp only [w1c]
  omega

/-- A 1 clears its bit, a 0 leaves it (R13). -/
theorem bitOf_w1c (x v n : Nat) : bitOf (w1c x v) n = (bitOf x n && !bitOf v n) := by
  simp only [bitOf_eq_testBit]
  induction n generalizing x v with
  | zero =>
    have hle : x &&& v ≤ x := Nat.and_le_left
    have hmod : (x &&& v) % 2 = 1 ↔ x % 2 = 1 ∧ v % 2 = 1 := Nat.and_mod_two_eq_one
    simp only [w1c, Nat.testBit_zero]
    grind
  | succ n ih => rw [Nat.testBit_succ, Nat.testBit_succ, Nat.testBit_succ, w1c_div_two, ih]

theorem putBit_eq (x n : Nat) (b : Bool) : putBit x n b = x - x / 2 ^ n % 2 * 2 ^ n + b2n b * 2 ^ n := by
  cases b <;> simp [putBit, putBits, bits, b2n, Nat.shiftLeft_eq, Nat.shiftRight_eq_div_pow]

/-- Replacing a bit above the lowest is replacing one of the half. -/
theorem putBit_succ_div_two (x n : Nat) (b : Bool) : putBit x (n + 1) b / 2 = putBit (x / 2) n b := by
  simp only [putBit_eq, Nat.pow_succ', ← Nat.div_div_eq_div_mul, ← Nat.mul_assoc, Nat.mul_comm _ 2]
  rw [Nat.mul_assoc, Nat.mul_assoc]
  omega

/-- Replacing a bit replaces it alone. -/
theorem bitOf_putBit (x n m : Nat) (b : Bool) : bitOf (putBit x n b) m = if m = n then b else bitOf x m := by
  simp only [bitOf_eq_testBit]
  induction n generalizing x m with
  | zero =>
    cases m with
    | zero => cases b <;> simp [putBit_eq, b2n] <;> omega
    | succ m =>
      have hdiv : putBit x 0 b / 2 = x / 2 := by cases b <;> simp [putBit_eq, b2n] <;> omega
      simp [Nat.testBit_succ, hdiv]
  | succ n ih =>
    cases m with
    | zero =>
      have hmod : putBit x (n + 1) b % 2 = x % 2 := by
        have hle : x / 2 ^ (n + 1) % 2 * 2 ^ (n + 1) ≤ x :=
          Nat.le_trans (Nat.mul_le_mul_right _ (Nat.mod_le _ _)) (Nat.div_mul_le_self x _)
        simp only [putBit_eq, Nat.pow_succ, ← Nat.mul_assoc] at *
        omega
      simp [hmod]
    | succ m => simp only [Nat.testBit_succ, putBit_succ_div_two, ih, Nat.add_right_cancel_iff]

/-! ### Reports of violations (R461) -/

/-- What the report of one violation leaves. -/
theorem errReport_one (c a : Nat) (s : State) : errReport [(c, a)] s =
    { s with host.db := s.host.db ||| 0x1000, host.ownErr := s.host.ownErr || (c == 0x05 || c == 0x09 || c == 0x0A),
             host.slotErr := s.host.slotErr || c == 0x06,
             host.spiErr := s.host.spiErr || !(c == 0x05 || c == 0x09 || c == 0x0A || c == 0x06),
             host.errCause := c, host.errAddr := a % 2 ^ 24 } := by
  simp only [errReport, List.foldl_cons, List.foldl_nil, errFlag, State.ring]
  by_cases h1 : (c == 0x05 || c == 0x09 || c == 0x0A) = true
  · have h6 : (c == 0x06) = false := by grind
    simp [h1, h6]
  · by_cases h6 : (c == 0x06) = true
    · simp [h1, h6]
    · simp [h1, h6]

/-- `DB_ERR` is none of the `DB_RESP` bits. -/
theorem bitOf_or_dbErr {n : Nat} (h : n < 8) (x : Nat) : bitOf (x ||| 0x1000) n = bitOf x n := by
  have h0 : Nat.testBit (2 ^ 12) n = false := Nat.testBit_two_pow_of_ne (by omega)
  rw [bitOf_eq_testBit, bitOf_eq_testBit, Nat.testBit_or, show 0x1000 = 2 ^ 12 from rfl, h0, Bool.or_false]

theorem errReport_one_violation (c a : Nat) (s : State) : Violation (errReport [(c, a)] s) c a := by
  refine ⟨?_, rfl, rfl⟩
  rw [errReport_one, bitOf_eq_testBit]
  exact (Nat.testBit_or ..).trans (Bool.or_eq_true _ _ ▸ .inr (Nat.testBit_two_pow_self (n := 12)))

theorem errReport_one_same (c a : Nat) (s : State) : SameOutside [.link, .log] s (errReport [(c, a)] s) := by
  rw [errReport_one]
  exact (SameOutside.refl _ s).update

/-- `ERR_INFO` with another content. -/
def State.putErr (s : State) (c a : Nat) : State := { s with host.errCause := c, host.errAddr := a }

/-- A violation that is reported twice leaves what one report leaves, whatever `ERR_INFO` held before each. -/
theorem errReport_again (c a x x' y : Nat) (s : State) :
    errReport [(c, a % 2 ^ 24)] ((errReport [(c, a)] (s.putErr x' y)).putErr x y) = errReport [(c, a)] (s.putErr x y) := by
  simp only [errReport_one, State.putErr, Nat.or_assoc, Nat.or_self, Bool.or_assoc, Bool.or_self, Nat.mod_mod]

/-! ### Transactions that find no request to answer (R66, R100) -/

/-- No request is next exactly when none waits or mailbox service stands still. -/
theorem State.front_eq_none {s : State} : s.front = none ↔ s.host.reqs = [] ∨ s.serves = false := by
  unfold State.front
  cases s.host.reqs <;> simp

theorem State.settleOne_of_front {s : State} (h : s.front = none) : s.settleOne = none := by
  unfold State.settleOne
  unfold State.front at h
  cases hr : s.host.reqs <;> simp_all

theorem State.settle_of_front {s : State} (h : s.front = none) (hq : s.host.replies = []) : s.settle = s := by
  have hn (n : Nat) : s.settleN n = s := by
    cases n with
    | zero => rfl
    | succ n => simp only [State.settleN, State.settleOne_of_front h]
  rw [State.settle, hn, State.flushReplies, hq, List.foldl_nil, ← hq]

/-- A transaction that leaves no request to be executed and no response to be sent does what it carries, and no more. -/
theorem State.hostTx_of_front {s : State} {f : State → State} (ha : s.spiAlive = true) (hf : (f s).front = none)
    (hq : (f s).host.replies = []) : s.hostTx f = f s := by
  rw [State.hostTx, if_pos ha, State.settle_of_front hf hq, State.checkBusy, hf]

/-! ### Doorbells (R105, R106) -/

/-- A doorbell with `v` rings slot `n` in `s`: its bit is set and the slot is free. -/
def State.rung (s : State) (v n : Nat) : Bool := bitOf v n && !bitOf s.host.busy n

/-- A slot that is rung becomes busy, its `DB_RESP` clears, and its request joins the order of execution. -/
def ringSlot (v n : Nat) (s : State) : State :=
  if s.rung v n then { s with host.busy := putBit s.host.busy n true, host.db := putBit s.host.db n false,
                              host.reqs := s.host.reqs ++ [{ origin := .host n }] }
  else s

theorem ringSlots_succ (v k : Nat) (s : State) : ringSlots v (k + 1) s = ringSlots v k (ringSlot v (7 - k) s) := by
  rw [ringSlots, ringSlot, State.rung]
  cases bitOf v (7 - k) <;> cases bitOf s.host.busy (7 - k) <;> rfl

/-- What one slot leaves of the bits and of the order. -/
theorem ringSlot_host (v n : Nat) (s : State) :
    (∀ m, bitOf (ringSlot v n s).host.busy m = (bitOf s.host.busy m || (m == n && bitOf v m))) ∧
    (∀ m, bitOf (ringSlot v n s).host.db m = (bitOf s.host.db m && !(m == n && s.rung v m))) ∧
    (ringSlot v n s).host.reqs = s.host.reqs ++ if s.rung v n then [{ origin := .host n }] else [] := by
  unfold ringSlot
  split
  case isTrue h =>
    have hv := h
    simp only [State.rung, Bool.and_eq_true] at hv
    refine ⟨fun m => ?_, fun m => ?_, rfl⟩ <;> simp only [bitOf_putBit] <;> grind
  case isFalse h =>
    have hv := h
    simp only [State.rung, Bool.and_eq_true] at hv
    refine ⟨fun m => ?_, fun m => ?_, (List.append_nil _).symm⟩ <;> grind

theorem ringSlot_rung {v n m : Nat} (s : State) (h : m ≠ n) : (ringSlot v n s).rung v m = s.rung v m := by
  have hmn : (m == n) = false := by simpa using h
  simp [State.rung, (ringSlot_host v n s).1, hmn]

/-- What the last `k` slots rung leave: each free one of them that is named is busy, with its `DB_RESP` clear, and their requests
stand behind those that wait, in ascending order. -/
theorem ringSlots_host (v : Nat) {k : Nat} (hk : k ≤ 8) (s : State) :
    (∀ n, n < 8 → bitOf (ringSlots v k s).host.busy n = (bitOf s.host.busy n || (decide (8 - k ≤ n) && bitOf v n))) ∧
    (∀ n, n < 8 → bitOf (ringSlots v k s).host.db n = (bitOf s.host.db n && !(decide (8 - k ≤ n) && s.rung v n))) ∧
    (ringSlots v k s).host.reqs =
      s.host.reqs ++ ((List.range' (8 - k) k).filter (s.rung v)).map fun n => { origin := .host n } := by
  induction k generalizing s with
  | zero =>
    have hno {n : Nat} (h : n < 8) : decide (8 - 0 ≤ n) = false := by simpa using h
    exact ⟨fun n h => by simp [ringSlots, hno h], fun n h => by simp [ringSlots, hno h], by simp [ringSlots]⟩
  | succ k ih =>
    obtain ⟨hbusy, hdb, hreqs⟩ := ih (by omega) (ringSlot v (7 - k) s)
    obtain ⟨hbusy1, hdb1, hreqs1⟩ := ringSlot_host v (7 - k) s
    have hle (n : Nat) : decide (8 - (k + 1) ≤ n) = (n == 7 - k || decide (8 - k ≤ n)) := by grind
    have hrest : (List.range' (8 - k) k).filter ((ringSlot v (7 - k) s).rung v) = (List.range' (8 - k) k).filter (s.rung v) :=
      List.filter_congr fun n hn => ringSlot_rung s (by have := List.mem_range'_1.mp hn; omega)
    have hcons : List.range' (8 - (k + 1)) (k + 1) = (7 - k) :: List.range' (8 - k) k := by
      rw [List.range'_succ, show 8 - (k + 1) + 1 = 8 - k by omega, show 8 - (k + 1) = 7 - k by omega]
    rw [ringSlots_succ]
    refine ⟨fun n hn => ?_, fun n hn => ?_, ?_⟩
    · rw [hbusy n hn, hbusy1, hle]
      grind
    · rw [hdb n hn, hdb1, hle]
      by_cases h : n = 7 - k
      · grind
      · rw [ringSlot_rung s h]
        grind
    · rw [hreqs, hreqs1, hrest, hcons, List.filter_cons]
      split <;> simp

/-- Ringing slots neither reads nor writes `ERR_INFO`. -/
theorem ringSlots_putErr (v k c a : Nat) (s : State) : ringSlots v k (s.putErr c a) = (ringSlots v k s).putErr c a := by
  induction k generalizing s with
  | zero => rfl
  | succ k ih =>
    rw [ringSlots_succ, ringSlots_succ, ← ih]
    congr 1
    have hrung : (s.putErr c a).rung v (7 - k) = s.rung v (7 - k) := rfl
    rw [ringSlot, ringSlot, hrung]
    split <;> rfl

/-- What ringing slots leaves as it was. -/
theorem ringSlots_frame (v k : Nat) (s : State) :
    (ringSlots v k s).host.replies = s.host.replies ∧ (ringSlots v k s).serves = s.serves := by
  induction k generalizing s with
  | zero => exact ⟨rfl, rfl⟩
  | succ k ih =>
    obtain ⟨hr, hs⟩ := ih (ringSlot v (7 - k) s)
    have hone : (ringSlot v (7 - k) s).host.replies = s.host.replies ∧ (ringSlot v (7 - k) s).serves = s.serves := by
      unfold ringSlot
      split <;> exact ⟨rfl, rfl⟩
    rw [ringSlots_succ]
    exact ⟨hr.trans hone.1, hs.trans hone.2⟩

/-- A doorbell for a busy slot is reported. -/
theorem wrH2dDb_busy {v : Nat} {s : State} (h : ∃ n, n < 8 ∧ bitOf v n = true ∧ bitOf s.host.busy n = true) :
    wrH2dDb v s = errReport [(0x06, 0x14)] (ringSlots (v % 256) 8 s) := by
  refine if_pos ?_
  obtain ⟨n, hn, hv, hb⟩ := h
  rw [bitOf_eq_testBit] at hv hb
  rw [bne_iff_ne]
  intro h0
  have hbit := Nat.testBit_mod_two_pow (v &&& s.host.busy) 8 n
  rw [Nat.testBit_and, hv, hb, decide_eq_true hn, show 2 ^ 8 = 256 from rfl, h0, Nat.zero_testBit] at hbit
  exact Bool.noConfusion hbit

/-- What a doorbell leaves of the slots, of the order of execution and of mailbox service. -/
theorem wrH2dDb_host (v : Nat) (s : State) :
    (∀ n, n < 8 → bitOf (wrH2dDb v s).host.busy n = (bitOf s.host.busy n || bitOf v n)) ∧
    (∀ n, n < 8 → bitOf (wrH2dDb v s).host.db n = (bitOf s.host.db n && !s.rung v n)) ∧
    (wrH2dDb v s).host.reqs = s.host.reqs ++ ((List.range 8).filter (s.rung v)).map (fun n => { origin := .host n }) ∧
    (wrH2dDb v s).host.replies = s.host.replies ∧ (wrH2dDb v s).serves = s.serves := by
  obtain ⟨hbusy, hdb, hreqs⟩ := ringSlots_host (v % 256) (Nat.le_refl 8) s
  obtain ⟨hreplies, hserves⟩ := ringSlots_frame (v % 256) 8 s
  have hmod {n : Nat} (hn : n < 8) : bitOf (v % 256) n = bitOf v n := bitOf_mod_two_pow (k := 8) hn v
  have hrung {n : Nat} (hn : n < 8) : s.rung (v % 256) n = s.rung v n := by rw [State.rung, hmod hn, State.rung]
  have hfilter : (List.range 8).filter (s.rung (v % 256)) = (List.range 8).filter (s.rung v) :=
    List.filter_congr fun n hn => hrung (List.mem_range.mp hn)
  have hring : (∀ n, n < 8 → bitOf (ringSlots (v % 256) 8 s).host.busy n = (bitOf s.host.busy n || bitOf v n)) ∧
      (∀ n, n < 8 → bitOf (ringSlots (v % 256) 8 s).host.db n = (bitOf s.host.db n && !s.rung v n)) := by
    refine ⟨fun n hn => ?_, fun n hn => ?_⟩
    · rw [hbusy n hn, hmod hn]
      simp
    · rw [hdb n hn, hrung hn]
      simp
  rw [Nat.sub_self, ← List.range_eq_range', hfilter] at hreqs
  unfold wrH2dDb
  dsimp only
  split
  · rw [errReport_one]
    exact ⟨hring.1, fun n hn => (bitOf_or_dbErr hn _).trans (hring.2 n hn), hreqs, hreplies, hserves⟩
  · exact ⟨hring.1, hring.2, hreqs, hreplies, hserves⟩

/-! ### The descriptor table (R111) -/

theorem leNat_zeros (k : Nat) : leNat (List.replicate k 0#8) = 0 := by
  induction k with
  | zero => rfl
  | succ k ih => simp [List.replicate_succ, leNat, ih]

/-- A number inside bytes that were zeroed reads 0. -/
theorem Mem.le_zeroed {m : Mem} {a k n l : Nat} (w : m.wf = true) (h : k + l ≤ n) :
    (Mem.writeBytes a (List.replicate n 0#8) m).le (a + k) l = 0 := by
  have hb : (Mem.writeBytes a (List.replicate n 0#8) m).bytes (a + k) l = List.replicate l 0#8 := by
    refine (List.map_eq_replicate_iff (b := 0#8).mpr fun i hi => ?_).trans (by rw [List.length_range])
    have hi : k + i < n := Nat.lt_of_lt_of_le (Nat.add_lt_add_left (List.mem_range.mp hi) k) h
    rw [Nat.add_assoc, Mem.read_writeBytes_in w (by rwa [List.length_replicate]), List.getD_eq_getElem?_getD,
      List.getElem?_replicate_of_lt hi, Option.getD_some]
  rw [Mem.le, hb, leNat_zeros]

/-- `WDESC` written with `v` would move or close a table in use (R111). -/
def State.wdescRefuses (s : State) (v : Nat) : Bool :=
  (s.host.wdescValid && (List.range 64).any fun d => s.owner d != 0) &&
    (bits v 17 9 != s.host.wdescBase || (s.host.wdescValid && !bitOf v 0))

/-- The table becomes valid, or a valid one moves. -/
def State.wdescFresh (s : State) (base : Nat) (valid : Bool) : Bool :=
  valid && (!s.host.wdescValid || base != s.host.wdescBase)

/-- `WDESC` takes base and valid bit; a table that becomes valid or moves is zeroed (R111). -/
def State.takeWdesc (s : State) (base : Nat) (valid : Bool) : State :=
  if s.wdescFresh base valid then
    { s with host.wdescBase := base, host.wdescValid := valid,
             host.window := s.host.window.writeBytes (base * 512) (List.replicate 512 0#8), host.idle := List.replicate 64 0 }
  else { s with host.wdescBase := base, host.wdescValid := valid }

theorem wrWdesc_eq (v : Nat) (s : State) : wrWdesc v s =
    if s.wdescRefuses v then errReport [(0x0A, 0x2C)] s else s.takeWdesc (bits v 17 9) (bitOf v 0) := by
  by_cases h : s.wdescRefuses v = true
  · exact (if_pos h).trans (if_pos h).symm
  · refine ((if_neg h).trans ?_).trans (if_neg h).symm
    by_cases hf : s.wdescFresh (bits v 17 9) (bitOf v 0) = true
    · exact (if_pos hf).trans (if_pos hf).symm
    · exact (if_neg hf).trans (if_neg hf).symm

theorem State.wdescRefuses_iff {s : State} {v : Nat} : s.wdescRefuses v = true ↔
    (s.host.wdescValid = true ∧ ∃ d, d < 64 ∧ s.owner d ≠ 0) ∧ (bits v 17 9 ≠ s.host.wdescBase ∨ bitOf v 0 = false) := by
  simp only [State.wdescRefuses, Bool.and_eq_true, Bool.or_eq_true, List.any_eq_true, List.mem_range, bne_iff_ne,
    Bool.not_eq_true']
  grind

/-- Base and valid bit are taken, and no request or response moves. -/
theorem State.takeWdesc_host (s : State) (base : Nat) (valid : Bool) :
    (s.takeWdesc base valid).host.wdescBase = base ∧ (s.takeWdesc base valid).host.wdescValid = valid ∧
      (s.takeWdesc base valid).host.reqs = s.host.reqs ∧ (s.takeWdesc base valid).host.replies = s.host.replies := by
  unfold State.takeWdesc
  split <;> exact ⟨rfl, rfl, rfl, rfl⟩

/-- A table that becomes valid or moves holds zeros alone. -/
theorem State.takeWdesc_descWord {s : State} {base d k : Nat} (w : s.host.window.wf = true)
    (hz : s.host.wdescValid = false ∨ base ≠ s.host.wdescBase) (hd : d < 64) (hk : k < 2) :
    (s.takeWdesc base true).descWord d k = 0 := by
  have hz : s.wdescFresh base true = true := by simpa [State.wdescFresh] using hz
  simp only [State.takeWdesc, if_pos hz, State.descWord, State.descAt, Nat.add_assoc]
  exact Mem.le_zeroed w (by omega)

theorem State.takeWdesc_putErr (s : State) (base : Nat) (valid : Bool) (c a : Nat) :
    (s.putErr c a).takeWdesc base valid = (s.takeWdesc base valid).putErr c a := by
  have hfresh : (s.putErr c a).wdescFresh base valid = s.wdescFresh base valid := rfl
  rw [State.takeWdesc, State.takeWdesc, hfresh]
  split <;> simp only [State.putErr]

/-- A table not in use is opened, closed or moved as `WDESC` says, and reads 0 when it opens or moves. -/
theorem wrWdesc_free {v : Nat} {s : State} (w : s.host.window.wf = true)
    (hfree : s.host.wdescValid = false ∨ ∀ d, d < 64 → s.owner d = 0) :
    (wrWdesc v s).host.wdescBase = bits v 17 9 ∧ (wrWdesc v s).host.wdescValid = bitOf v 0 ∧
      (bitOf v 0 = true → s.host.wdescValid = false ∨ bits v 17 9 ≠ s.host.wdescBase →
        ∀ d, d < 64 → (wrWdesc v s).descWord d 0 = 0 ∧ (wrWdesc v s).descWord d 1 = 0) := by
  have htaken : ¬s.wdescRefuses v = true := by
    rw [State.wdescRefuses_iff]
    grind
  rw [wrWdesc_eq, if_neg htaken]
  obtain ⟨hbase, hvalid, -, -⟩ := s.takeWdesc_host (bits v 17 9) (bitOf v 0)
  refine ⟨hbase, hvalid, fun hv hz d hd => ?_⟩
  rw [hv]
  exact ⟨State.takeWdesc_descWord w hz hd (by decide), State.takeWdesc_descWord w hz hd (by decide)⟩

/-- A table in use is neither closed nor moved, which is reported. -/
theorem wrWdesc_inUse {v : Nat} {s : State} (hvalid : s.host.wdescValid = true) (hused : ∃ d, d < 64 ∧ s.owner d ≠ 0)
    (hchange : bits v 17 9 ≠ s.host.wdescBase ∨ bitOf v 0 = false) : wrWdesc v s = errReport [(0x0A, 0x2C)] s :=
  (wrWdesc_eq v s).trans (if_pos (State.wdescRefuses_iff.mpr ⟨⟨hvalid, hused⟩, hchange⟩))

/-! ### `HANDOVER` (R113) -/

/-- `HANDOVER_LO` and `HANDOVER_HI`: each clears bits of its own half alone. -/
theorem wrHandover_bits (hi : Bool) {v : Nat} (hv : v < 2 ^ 32) (s : State) {n : Nat} (hn : n < 32) :
    bitOf (wrHandover hi v s).host.handover (if hi then n + 32 else n) =
        (bitOf s.host.handover (if hi then n + 32 else n) && !bitOf v n) ∧
      bitOf (wrHandover hi v s).host.handover (if hi then n else n + 32) = bitOf s.host.handover (if hi then n else n + 32) := by
  simp only [wrHandover, bitOf_w1c]
  cases hi with
  | false =>
    have hout : bitOf v (n + 32) = false := by
      rw [bitOf_eq_testBit]
      exact Nat.testBit_lt_two_pow (Nat.lt_of_lt_of_le hv (Nat.pow_le_pow_right (by decide) (by omega)))
    simp [hout]
  | true =>
    have hin : bitOf (v * 2 ^ 32) (n + 32) = bitOf v n := by
      rw [bitOf_eq_testBit, bitOf_eq_testBit, Nat.testBit_mul_two_pow]
      simp
    have hout : bitOf (v * 2 ^ 32) n = false := by
      rw [bitOf_eq_testBit, Nat.testBit_mul_two_pow, decide_eq_false (Nat.not_le.mpr hn), Bool.false_and]
    simp only [if_true, hin, hout, Bool.not_false, Bool.and_true, and_self]

/-! ### Register writes as SPI transactions (R97, R99) -/

/-- `g` done in `s` neither reads nor sets `ERR_INFO` before the one violation that it may report at its end. -/
def ReportsLast (g : State → State) (s : State) : Prop :=
  ∃ t : State, (∀ c a, g (s.putErr c a) = t.putErr c a) ∨
    ∃ k b, k ≠ 0 ∧ ∀ c a, g (s.putErr c a) = errReport [(k, b)] (t.putErr c a)

theorem wrH2dDb_reportsLast (v : Nat) (s : State) : ReportsLast (wrH2dDb v) s := by
  refine ⟨ringSlots (v % 256) 8 s, ?_⟩
  by_cases h : ((v &&& s.host.busy) % 256 != 0) = true
  · refine .inr ⟨0x06, 0x14, by decide, fun c a => ?_⟩
    rw [← ringSlots_putErr]
    exact if_pos h
  · refine .inl fun c a => ?_
    rw [← ringSlots_putErr]
    exact if_neg h

theorem wrWdesc_reportsLast (v : Nat) (s : State) : ReportsLast (wrWdesc v) s := by
  have href (c a : Nat) : (s.putErr c a).wdescRefuses v = s.wdescRefuses v := rfl
  by_cases h : s.wdescRefuses v = true
  · exact ⟨s, .inr ⟨0x0A, 0x2C, by decide, fun c a => by rw [wrWdesc_eq, href, if_pos h]⟩⟩
  · refine ⟨s.takeWdesc (bits v 17 9) (bitOf v 0), .inl fun c a => ?_⟩
    rw [wrWdesc_eq, href, if_neg h, State.takeWdesc_putErr]

/-- Every register is written in this way. -/
theorem wrReg_reportsLast (r v : Nat) (s : State) : ReportsLast (wrReg r v) s := by
  unfold wrReg
  split
  case h_1 => exact ⟨wrStatus v s, .inl fun _ _ => rfl⟩
  case h_2 => exact wrH2dDb_reportsLast v s
  case h_3 => exact ⟨wrDb v s, .inl fun _ _ => rfl⟩
  case h_4 => exact ⟨wrIrqMask v s, .inl fun _ _ => rfl⟩
  case h_5 => exact ⟨wrHandover false v s, .inl fun _ _ => rfl⟩
  case h_6 => exact ⟨wrHandover true v s, .inl fun _ _ => rfl⟩
  case h_7 => exact wrWdesc_reportsLast v s
  case h_8 => exact ⟨s, .inl fun _ _ => rfl⟩

/-- Only a doorbell brings a request. -/
theorem wrReg_reqs_replies {r : Nat} (hr : r ≠ 5) (v : Nat) (s : State) :
    (wrReg r v s).host.reqs = s.host.reqs ∧ (wrReg r v s).host.replies = s.host.replies := by
  unfold wrReg
  split
  case h_2 => exact absurd rfl hr
  case h_7 =>
    rw [wrWdesc_eq]
    split
    · rw [errReport_one]
      exact ⟨rfl, rfl⟩
    · obtain ⟨-, -, hreqs, hreplies⟩ := s.takeWdesc_host (bits v 17 9) (bitOf v 0)
      exact ⟨hreqs, hreplies⟩
  all_goals exact ⟨rfl, rfl⟩

/-- The registers that only read take nothing. -/
theorem wrReg_readOnly {r : Nat} (hr : r ∈ [0, 1, 2, 3, 6, 12, 13, 14, 15]) (v : Nat) (s : State) : wrReg r v s = s := by
  unfold wrReg
  split
  case h_8 => rfl
  all_goals exact absurd hr (by decide)

/-- Registers behind the transaction's last byte are left alone. -/
theorem spiWriteRegs_behind {a : Nat} {data : List Byte} {k r : Nat} (h : a + data.length ≤ 4 * r) (s : State)
    (es : List (Nat × Nat)) : spiWriteRegs a data k r s es = (s, es) := by
  induction k generalizing r with
  | zero => rfl
  | succ k ih => rw [spiWriteRegs, if_pos (by simp [h]), ih (by omega)]

/-- Registers before the transaction's first byte are left alone. -/
theorem spiWriteRegs_before {a : Nat} {data : List Byte} {k r q : Nat} (hq : 4 * (r + q) ≤ a) (s : State) (es : List (Nat × Nat)) :
    spiWriteRegs a data (q + k) r s es = spiWriteRegs a data k (r + q) s es := by
  induction q generalizing r with
  | zero => rw [Nat.zero_add]; rfl
  | succ q ih =>
    rw [Nat.add_right_comm, spiWriteRegs, if_pos (by simp; omega), ih (by omega), Nat.add_assoc r, Nat.add_comm 1]

/-- A transaction from the first byte of a register on passes the registers before it. -/
theorem spiWriteRegs_at {r : Nat} (hr : r < 16) (data : List Byte) (s : State) :
    ∃ k, spiWriteRegs (4 * r) data 16 0 s [] = spiWriteRegs (4 * r) data (k + 1) r s [] := by
  refine ⟨15 - r, ?_⟩
  have := spiWriteRegs_before (a := 4 * r) (data := data) (k := 15 - r + 1) (r := 0) (q := r) (by omega) s []
  rwa [show r + (15 - r + 1) = 16 by omega, Nat.zero_add] at this

/-- A transaction that stays inside one register carries the errors of that register alone. -/
theorem spiWriteOp_reg {r : Nat} (hr : r < 16) {data : List Byte} (h : data.length ≤ 4) (s : State) :
    spiWriteOp (4 * r) data s =
      errReport (errSort (spiWriteRegs (4 * r) data 16 0 s []).2) (spiWriteRegs (4 * r) data 16 0 s []).1 := by
  have hreg : spiRegion (4 * r) = (.regs, 0, 0x3F) := if_pos (by omega)
  have hlen : spiLen (4 * r) data.length = data.length := by
    have hend : (spiRegion (4 * r)).2.2 = 0x3F := congrArg (·.2.2) hreg
    rw [spiLen, hend]
    omega
  have hlim : limitErrs (4 * r) data.length = [] := by
    have hend : ¬4 * r + data.length > 0x3F + 1 := by omega
    simp [limitErrs, hreg, hend]
    omega
  simp only [spiWriteOp, hreg, hlen, hlim, List.take_length, List.append_nil]

/-- A whole register written over SPI is that register's write. -/
theorem spiWriteOp_wholeReg {r : Nat} (hr : r < 16) {data : List Byte} (h : data.length = 4) (s : State) :
    spiWriteOp (4 * r) data s = wrReg r (leAt data 0 4) s := by
  obtain ⟨k, hk⟩ := spiWriteRegs_at hr data s
  rw [spiWriteOp_reg hr (by omega), hk, spiWriteRegs, if_neg (by simp only [Bool.or_eq_true, decide_eq_true_eq]; omega),
    if_pos (by simp only [Bool.and_eq_true, decide_eq_true_eq]; omega), Nat.sub_self]
  simp only [spiWriteRegs_behind (show 4 * r + data.length ≤ 4 * (r + 1) by omega)]
  obtain ⟨t, ht | ⟨c, a, hc, ht⟩⟩ := wrReg_reportsLast r (leAt data 0 4) s
  · have hw : wrReg r (leAt data 0 4) s = _ := ht s.host.errCause s.host.errAddr
    have h0 : wrReg r (leAt data 0 4) { s with host.errCause := 0 } = _ := ht 0 s.host.errAddr
    rw [hw, h0]
    rfl
  · have hw : wrReg r (leAt data 0 4) s = _ := ht s.host.errCause s.host.errAddr
    have h0 : wrReg r (leAt data 0 4) { s with host.errCause := 0 } = _ := ht 0 s.host.errAddr
    have hcause : ((errReport [(c, a)] (t.putErr 0 s.host.errAddr)).host.errCause == 0) = false := by simpa [errReport_one] using hc
    rw [hw, h0, hcause]
    exact errReport_again c a s.host.errCause 0 s.host.errAddr t

/-- A register cut short is left as it was, and the cut is reported. -/
theorem spiWriteOp_cutReg {r : Nat} (hr : r < 16) {data : List Byte} (h0 : 0 < data.length) (h : data.length < 4) (s : State) :
    spiWriteOp (4 * r) data s = errReport [(0x07, 4 * r)] s := by
  obtain ⟨k, hk⟩ := spiWriteRegs_at hr data s
  rw [spiWriteOp_reg hr (by omega), hk, spiWriteRegs, if_neg (by simp only [Bool.or_eq_true, decide_eq_true_eq]; omega),
    if_neg (by simp only [Bool.and_eq_true, decide_eq_true_eq]; omega), spiWriteRegs_behind (by omega)]
  rfl

theorem leNat_lt (l : List Byte) : leNat l < 256 ^ l.length := by
  induction l with
  | nil => exact Nat.one_pos
  | cons b l ih =>
    have hb : b.toNat < 256 := b.isLt
    rw [leNat, List.length_cons, Nat.pow_succ]
    omega

/-- Four bytes fill a word. -/
theorem toNat_wd_leAt (l : List Byte) (off : Nat) : (wd (leAt l off 4)).toNat = leAt l off 4 := by
  have hlt : leAt l off 4 < 256 ^ 4 := by simpa [leAt, bytesAt] using leNat_lt (bytesAt l off 4)
  rw [wd, BitVec.toNat_ofNat]
  exact Nat.mod_eq_of_lt hlt

/-- A whole register written over SPI acts as that register's write. -/
theorem exec_regWrite_whole {reg : Fin 16} {l : List Byte} (hl : l.length = 4) (s : State) :
    exec (.regWrite reg l) s = .next (s.hostTx (wrReg reg.val (leAt l 0 4))) := by
  rw [← show spiWriteOp (4 * reg.val) l = wrReg reg.val (leAt l 0 4) from funext (spiWriteOp_wholeReg reg.isLt hl)]
  rfl

end Sys2Proof.Machine

namespace Sys2Proof
open Machine

/-! ### Rows of the host while no request waits -/

/-- A transaction that brings no request and no response does what it carries, and no more. -/
theorem HostQuiet.hostTx {s : State} {f : State → State} (h : HostQuiet s) (hr : (f s).host.reqs = s.host.reqs)
    (hq : (f s).host.replies = s.host.replies) : s.hostTx f = f s :=
  State.hostTx_of_front h.alive (State.front_eq_none.mpr (.inl (hr.trans h.none_))) (hq.trans h.quiet)

/-- The row of such a transaction completes with what it does. -/
theorem HostQuiet.completes {s : State} {f : State → State} {c : Instr} {P : State → Prop} (h : HostQuiet s)
    (hc : exec c s = .next (s.hostTx f)) (hr : (f s).host.reqs = s.host.reqs) (hq : (f s).host.replies = s.host.replies)
    (hp : P (f s)) : Completes c s P :=
  ⟨f s, hc.trans (congrArg _ (h.hostTx hr hq)), hp⟩

/-- What a doorbell does while mailbox service stands still. -/
theorem completes_h2dDb {v : Word} {s : State} (h : HostQuiet s) (hs : s.serves = false) : Completes (.h2dDb v) s fun t =>
    (∀ n, n < 8 → bitOf t.host.busy n = (bitOf s.host.busy n || bitOf v.toNat n)) ∧
    (∀ n, n < 8 → bitOf v.toNat n = true → bitOf s.host.busy n = false → bitOf t.host.db n = false) ∧
    t.host.reqs = ((List.range 8).filter fun n => bitOf v.toNat n && !bitOf s.host.busy n).map (fun n => { origin := .host n }) ∧
    ((∃ n, n < 8 ∧ bitOf v.toNat n = true ∧ bitOf s.host.busy n = true) → t.host.slotErr = true ∧ Violation t 0x06 0x14) := by
  obtain ⟨hbusy, hdb, hreqs, hreplies, hserves⟩ := wrH2dDb_host v.toNat s
  have hfront : (wrH2dDb v.toNat s).front = none := State.front_eq_none.mpr (.inr (hserves.trans hs))
  refine ⟨wrH2dDb v.toNat s, congrArg _ (State.hostTx_of_front h.alive hfront (hreplies.trans h.quiet)), hbusy, ?_, ?_, ?_⟩
  · intro n hn hv hb
    rw [hdb n hn, State.rung, hv, hb]
    simp
  · rw [hreqs, h.none_]
    rfl
  · intro hhit
    rw [wrH2dDb_busy hhit]
    refine ⟨?_, errReport_one_violation _ _ _⟩
    rw [errReport_one]
    simp

/-- A register cut short stays as it was. -/
theorem completes_regWrite_cut {reg : Fin 16} {l : List Byte} {s : State} (h : HostQuiet s) (h0 : 0 < l.length)
    (hl : l.length < 4) : Completes (.regWrite reg l) s (· = errReport [(0x07, 4 * reg.val)] s) := by
  have hcut := spiWriteOp_cutReg reg.isLt h0 hl s
  refine h.completes (f := spiWriteOp (4 * reg.val) l) rfl ?_ ?_ hcut
  · rw [hcut, errReport_one]
  · rw [hcut, errReport_one]

/-- Settles O43: each register's write is computed field by field, and an SPI transaction over a register is that write. -/
theorem hostRegisters : Obligations.HostRegisters := by
  unfold Obligations.HostRegisters
  refine ⟨fun v s h => ?_, fun v s h => ?_, fun v s h => ?_, fun hi v s h => ?_, fun v s h hs => completes_h2dDb h hs,
    fun v s h w => ?_, fun reg l s h => ⟨fun hl hr => ?_, fun hl hr => ?_, fun hl hr => ?_, fun hl hr => ?_, fun h0 hl => ?_⟩⟩
  -- `STATUS` (R13)
  · exact h.completes rfl rfl rfl ⟨rfl, rfl, rfl, rfl, (SameOutside.refl _ s).update⟩
  -- the doorbell register (R102)
  · refine h.completes rfl rfl rfl ⟨fun n hn => ?_, rfl, (SameOutside.refl _ s).update⟩
    exact (bitOf_w1c _ _ n).trans (by rw [bitOf_mod_two_pow hn])
  -- `IRQ_MASK` (R102)
  · exact h.completes rfl rfl rfl ⟨rfl, (SameOutside.refl _ s).update⟩
  -- `HANDOVER` (R113)
  · exact h.completes rfl rfl rfl ⟨fun n hn => (wrHandover_bits hi v.isLt s hn).1, fun n hn => (wrHandover_bits hi v.isLt s hn).2,
      (SameOutside.refl _ s).update⟩
  -- `WDESC` (R111)
  · obtain ⟨hreqs, hreplies⟩ := wrReg_reqs_replies (r := 11) (by decide) v.toNat s
    refine h.completes rfl hreqs hreplies ⟨wrWdesc_free w, fun hvalid hused hchange => ?_⟩
    rw [wrWdesc_inUse hvalid hused hchange]
    refine ⟨?_, ?_, ?_, ?_, errReport_one_violation _ _ _⟩ <;> simp [errReport_one, hvalid]
  -- whole registers: the W1C and plain ones, `H2D_DB`, `WDESC`, those that only read (R97)
  · have hne : reg.val ≠ 5 := fun h5 => absurd (h5 ▸ hr) (by decide)
    obtain ⟨hreqs, hreplies⟩ := wrReg_reqs_replies hne (leAt l 0 4) s
    exact h.completes (exec_regWrite_whole hl s) hreqs hreplies rfl
  · rw [exec_regWrite_whole hl, hr]
    exact congrArg (fun x => Host.Outcome.next (s.hostTx (wrH2dDb x))) (toNat_wd_leAt l 0).symm
  · rw [exec_regWrite_whole hl, hr]
    exact congrArg (fun x => Host.Outcome.next (s.hostTx (wrWdesc x))) (toNat_wd_leAt l 0).symm
  · have hreg := wrReg_readOnly hr (leAt l 0 4) s
    rw [exec_regWrite_whole hl, h.hostTx (by rw [hreg]) (by rw [hreg]), hreg]
  -- a register cut short (R99)
  · obtain ⟨t, ht, rfl⟩ := completes_regWrite_cut (reg := reg) h h0 hl
    refine ⟨_, ht, ?_, errReport_one_violation _ _ _, ?_, ?_, ?_, ?_, ?_, ?_, errReport_one_same _ _ _⟩ <;> simp [errReport_one]

end Sys2Proof
end
